-- ==== Sys2Proof/Word.lean ====
section
/-! DEFINITION. The number types of the SP20 (00_scope.md, Conventions; 01 R3; 02 R24).
Quantities that wrap or that travel as bytes are bit vectors; counts, positions and milliseconds are Nat. -/

namespace Sys2Proof

/-- One byte of a frame or of the profile record. -/
abbrev Byte := BitVec 8
/-- A sheet's serial, 1..65535, compared in modular order (01 R3). -/
abbrev Serial := BitVec 16
/-- A pass number, 1..65535, compared in modular order (01 R3). -/
abbrev Pass := BitVec 16
/-- A recovery epoch, 0..255, that wraps (08 R125). -/
abbrev Epoch := BitVec 8
/-- A 32-bit page reference (01 R3). -/
abbrev Page := BitVec 32
/-- A CRC-16 value (00_scope.md, Abbreviations). -/
abbrev Crc := BitVec 16
/-- A position on the path: 1..16, or 0 for the print controller (00_scope.md, Terms). -/
abbrev Pos := Nat

end Sys2Proof
end

