-- ==== Sys2Proof/Syntax.lean ====
section
/-! DEFINITION. The commands of the SP20: the 64 rows of spec/opcode_table.json, and what they carry
(profile record, frames, input lines). -/

namespace Sys2Proof

/-- 03 R44: the station's role. -/
inductive Role | feed | transport | merge | imaging | exit
deriving DecidableEq, Repr, Inhabited

/-- 00_scope.md: what may be done with a sheet when the path stops. -/
inductive StopClass | holds | clearsDown | mustRemove
deriving DecidableEq, Repr, Inhabited

/-- 03 R44, 04 R68: the diverter setting of a downstream entry. -/
inductive DivSetting | straight | div1 | div2
deriving DecidableEq, Repr, Inhabited

/-- 03 R44: the kind of an output bin. -/
inductive BinKind | finishing | plain
deriving DecidableEq, Repr, Inhabited

/-- 03 R44: the set policy of an EXIT station. -/
inductive SetPolicy | keep | forfeit
deriving DecidableEq, Repr, Inhabited

/-- 03 R44: the allowances of one zone, in ms. -/
structure ZoneProfile where
  lead : Nat := 0
  trail : Nat := 0
  trailMin : Nat := 0
deriving DecidableEq, Repr, Inhabited

/-- 03 R44: the record of the profile memory as read. A coded field whose code names no value is `none`;
numbers are as read, in range or not. -/
structure ProfileRecord where
  position : Nat := 0
  role : Option Role := none
  stopClass : Option StopClass := none
  capacity : Nat := 0
  zoneCount : Nat := 0
  zones : List ZoneProfile := []
  downstream : List (Pos × Option DivSetting) := []
  media : Nat := 0
  demandThreshold : Nat := 0
  pickAllowance : Nat := 0
  pickRetries : Nat := 0
  bins : List (Option BinKind) := []
  purgeCapacity : Nat := 0
  setPolicy : Option SetPolicy := none
  finishAllowance : Nat := 0
  imageZone : Nat := 0
deriving DecidableEq, Repr, Inhabited

/-- 03 R49: the profile summary a JOIN carries. -/
structure Summary where
  role : Role := .transport
  stopClass : StopClass := .mustRemove
  capacity : Nat := 0
  downstream : List Pos := []
  media : Nat := 0
  bins : List BinKind := []
  policy : SetPolicy := .keep
deriving DecidableEq, Repr, Inhabited

/-- 08 section 8.1: the path states; `profileRead` is the time from the end of reset to LISTEN or SILENT, which the manual
describes (03 R43) and does not name (log 25). -/
inductive PathState
  | profileRead | listen | rollcall | run | stopping | survey | runout | clearance | plan | resuming
  | silent | silentAbsent | unfit
deriving DecidableEq, Repr, Inhabited

/-- 01 R8: the reasons of REFUSED. -/
inductive RefuseReason | recovery | full | duplicate | order | route | pass
deriving DecidableEq, Repr, Inhabited

/-- 02 section 2.7: the reasons of DEFER. -/
inductive DeferReason | room | order | drive | finishing | state
deriving DecidableEq, Repr, Inhabited

/-- 07 R112: the tray state. -/
inductive TrayState | empty | loaded
deriving DecidableEq, Repr, Inhabited

/-- 02 section 2.7: the outcomes of SET DONE. -/
inductive SetOutcome | finished | oversize | broken | forfeited
deriving DecidableEq, Repr, Inhabited

/-- 05 R90: the kinds of JAM frames. -/
inductive JamKind
  | late | stall | short | blocked | stray | misfeed
  | drive | door | peerLost | desync | link | restart | noAnswer | finish
deriving DecidableEq, Repr, Inhabited

/-- 02 section 2.7, INTENT payload. `formOk` is clear when the payload length, the route length or a bit sent as zero is
out of range (R42), which R9 refuses with ROUTE. -/
structure IntentFields where
  serial : Serial := 0
  job : Byte := 0
  set : BitVec 16 := 0
  index : Byte := 0
  last : Bool := false
  duplex : Bool := false
  media : Nat := 0
  exit : Pos := 0
  bin : Nat := 0
  front : Page := 0
  back : Page := 0
  frontPass : Pass := 0
  backPass : Pass := 0
  reprintOf : Option Serial := none
  route : List Pos := []
  formOk : Bool := true
deriving DecidableEq, Repr, Inhabited

/-- 02 section 2.7, HOLDING entry: `serial = none` is the unknown marker. -/
structure ReportEntry where
  serial : Option Serial := none
  zone : Nat := 0
  straddle : Bool := false
deriving DecidableEq, Repr, Inhabited

/-- 02 section 2.7, HOLDING payload. -/
structure HoldingFields where
  restarted : Bool := false
  desync : Bool := false
  final : Bool := false
  purgeSpace : Nat := 0
  openSets : Nat := 0
  entries : List ReportEntry := []
deriving DecidableEq, Repr, Inhabited

/-- 08 R132: an entry of a SETLIST frame; the back page is 0 for a simplex sheet. -/
structure SetEntry where
  serial : Serial := 0
  index : Byte := 0
  front : Page := 0
  back : Page := 0
deriving DecidableEq, Repr, Inhabited

/-- 02 section 2.7, PLAN: `firstWithdrawn = 0` when the withdrawn count is 0 (09 R153). -/
structure PlanFields where
  count : Nat := 0
  omitted : Nat := 0
  firstOmitted : Page := 0
  withdrawn : Nat := 0
  firstWithdrawn : Serial := 0
  firstFree : Pass := 0
  absent : List Pos := []
  escalated : Bool := false
deriving DecidableEq, Repr, Inhabited

/-- 02 section 2.7, PLAN ENTRY payload; `carrier = none` is NEW. -/
structure PlanEntryFields where
  index : Nat := 0
  replaced : Serial := 0
  carrier : Option Serial := none
  front : Page := 0
  back : Page := 0
  job : Byte := 0
  set : BitVec 16 := 0
  idx : Byte := 0
  last : Bool := false
  duplex : Bool := false
  lastEntry : Bool := false
  media : Nat := 0
  exit : Pos := 0
  bin : Nat := 0
  reprintOf : Option Serial := none
deriving DecidableEq, Repr, Inhabited

/-- 11 R178: the content of a REVISION. -/
inductive RevisionContent
  | removed (serial : Serial)
  | unknown (zone : Nat)
deriving DecidableEq, Repr, Inhabited

/-- 03 R59: the fields of STATUS. -/
structure StatusFields where
  pathState : PathState := .silent
  epoch : Byte := 0
  rosterCount : Nat := 0
  occupancy : Nat := 0
  jams : Nat := 0
  purgeSpace : Nat := 0
  profileCrc : Crc := 0
deriving DecidableEq, Repr, Inhabited

/-- 02 section 2.7: the content of each frame kind. -/
inductive Payload
  | join (summary : Summary) (occupied : Bool)
  | presence (pathState : PathState) (epoch : Epoch)
  | intent (f : IntentFields)
  | refused (serial : Serial) (reason : RefuseReason)
  | withdraw (job : Byte)
  | demand (free : Nat)
  | tray (state : TrayState)
  | offer (dest : Pos) (serials : List Serial) (window spacing : Nat)
  | accept (dest : Pos) (serials : List Serial) (free : Nat)
  | defer (dest : Pos) (serials : List Serial) (reason : DeferReason) (free : Nat)
  | arrived (serial : Serial) (picked : Bool)
  | pass (serial : Serial) (side : Nat) (pass : Pass)
  | delivered (serial : Serial) (bin : Nat)
  | setDone (bin : Nat) (job : Byte) (set : BitVec 16) (outcome : SetOutcome)
  | jam (kind : JamKind) (zone : Nat) (serial : Option Serial)
  | halt
  | holding (f : HoldingFields)
  | setlist (bin : Nat) (job : Byte) (set : BitVec 16) (entries : List SetEntry) (last : Bool)
  | close (positions : List Pos)
  | ready (clear : Bool) (digest : Crc)
  | revision (content : RevisionContent)
  | plan (f : PlanFields)
  | planEntry (f : PlanEntryFields)
  | probe (position : Pos)
  | status (f : StatusFields)
deriving DecidableEq, Repr, Inhabited

/-- A frame as it stands on the link at its end mark (02 R24, R25): the four header bytes, the payload bytes, the two check
bytes as one number, and, for a kind whose byte layout the manual does not give, the reading of its payload (log 8). -/
structure WireFrame where
  b0 : Byte := 0
  b1 : Byte := 0
  b2 : Byte := 0
  b3 : Byte := 0
  payload : List Byte := []
  check : Crc := 0
  content : Payload := .halt
deriving DecidableEq, Repr, Inhabited

/-- Which frame a FRAME_COMPLETION ends: the one this station is transmitting, or another sender's. -/
inductive Completion
  | own
  | other (w : WireFrame)
deriving DecidableEq, Repr, Inhabited

/-- 04 R69: the inputs that have a settled level. -/
inductive InputId
  | sensor (k : Nat) | drdy | door | tempty | fdone (n : Nat) | sett (n : Nat) | pempty
deriving DecidableEq, Repr, Inhabited

/-- The commands: one constructor for each row of spec/opcode_table.json, in the table's order. -/
inductive Instr
  | reset (lineLow : Bool)
  | profileReadDone (record : ProfileRecord) (bytes : List Byte) (check : Crc)
  | profileReadTimeout
  | rawInputChange (input : InputId) (level : Bool)
  | sensor1Cover
  | sensorKCover (k : Nat)
  | sensorUncover (k : Nat)
  | drdyRise
  | drdyFall
  | doorOpen
  | doorClose
  | temptyChange
  | fdoneRise (n : Nat)
  | setTrayFall (n : Nat)
  | pemptyRise
  | stopLineFall
  | stopLineRise
  | linkAttemptStart (quiet : Nat)
  | collision
  | frameCompletion (c : Completion)
  | joinReceipt
  | presenceReceipt
  | intentReceipt
  | refusedReceipt
  | withdrawReceipt
  | demandReceipt
  | trayReceipt
  | offerReceipt
  | acceptReceipt
  | deferReceipt
  | arrivedReceipt
  | passReceipt
  | deliveredReceipt
  | setDoneReceipt
  | jamReceipt
  | haltReceipt
  | holdingReceipt
  | setlistReceipt
  | closeReceipt
  | readyReceipt
  | revisionReceipt
  | planReceipt
  | planEntryReceipt
  | probeReceipt
  | statusReceipt
  | listenTimerExpiry
  | joinDelayExpiry
  | rollCallClose
  | presenceTimerExpiry
  | silenceTimerExpiry (p : Pos)
  | spinTimerExpiry
  | haltTimerExpiry
  | claimWindowExpiry
  | lineHeldTimerExpiry
  | surveyTimerExpiry
  | answerTimerExpiry (dest : Pos)
  | reOfferTimerExpiry (dest : Pos)
  | arrivalTimerExpiry (serial : Serial)
  | leadTimerExpiry (serial : Serial)
  | trailTimerExpiry (serial : Serial)
  | pickTimerExpiry
  | finishTimerExpiry (bin : Nat)
  | isyncPulseEnd
  | firstSettling
deriving DecidableEq, Repr, Inhabited

end Sys2Proof
end

