-- ==== Sys2Proof/Decode.lean ====
section
/-! DEFINITION. spec/opcode_table.json gives no row a bit pattern: no word spells a command. -/

namespace Sys2Proof

/-- The command a word spells by the opcode table's bits: none, since the table gives no row any bits. -/
def decodeTableWord (_nbits _w : Nat) : Option Instr := none

end Sys2Proof
end

