-- ==== Sys2Proof/Config.lean ====
section
/-! DEFINITION. The allowances and limits the manual fixes, and the one free value of the model. -/

namespace Sys2Proof.Config

/-- 03 R43: the profile read must finish within 50 ms of the end of reset. -/
def profileReadMs : Nat := 50
/-- 04 R69, R74: the settling time of an input. -/
def settleMs : Nat := 3
/-- 03 R46: the listen timer. -/
def listenMs : Nat := 1500
/-- 03 R49: the roll call timer. -/
def rollCallMs : Nat := 1000
/-- 03 R49: the JOIN delay per position. -/
def joinDelayMs : Nat := 20
/-- 03 R55: the presence timer. -/
def presenceMs : Nat := 200
/-- 03 R56: the silence timer. -/
def silenceMs : Nat := 600
/-- 04 section 4.1: the spin allowance. -/
def spinMs : Nat := 300
/-- 04 section 4.1: the halt allowance. -/
def haltMs : Nat := 150
/-- 06 R98: the answer limit of an offer. -/
def answerMs : Nat := 50
/-- 06 R99: the re-offer timer. -/
def reOfferMs : Nat := 50
/-- 08 R126: the claim window. -/
def claimMs : Nat := 100
/-- 08 R126: the line-held timer. -/
def lineHeldMs : Nat := 2000
/-- 08 R129: the survey timer of rank 0, and its step per rank. -/
def surveyMs : Nat := 400
def surveyRankMs : Nat := 100
/-- 04 R72: the image sync pulse. -/
def isyncMs : Nat := 1

/-- 02 R33: frames of the transmit queue. -/
def txMax : Nat := 8
/-- 02 R32: frames of the receive queue. -/
def rxMax : Nat := 24
/-- 02 R29: collisions after which a frame is abandoned. -/
def collisionMax : Nat := 16
/-- 02 R27: the gaps of the two classes, in bit-times. -/
def urgentGap : Nat := 12
def normalGap : Nat := 40
/-- 02 R28: the back-off step per position, in bit-times. -/
def backoffBits : Nat := 8
/-- 01 R1: records of the roster. -/
def rosterMax : Nat := 48
/-- 01 R7: records of one intake. -/
def intakeMax : Nat := 12
/-- 06 R97: sheets of one train. -/
def trainMax : Nat := 6
/-- 07 R122: items of the outstanding pass list. -/
def passListMax : Nat := 8
/-- 08 R133: entries of the jam list. -/
def jamMax : Nat := 8
/-- 08 R136: report entries of one position, entries of one set list. -/
def reportMax : Nat := 10
def setListMax : Nat := 40
/-- 09 R144: purged sheets of the run-out account. -/
def purgedMax : Nat := 48
/-- 09 R150: entries of the reprint list. -/
def reprintMax : Nat := 64
/-- 11 R175: removed serials and unknown zones of the revision list. -/
def removedMax : Nat := 48
def unknownMax : Nat := 64
/-- 11 R183: the mismatch limit. -/
def mismatchMax : Nat := 3

/-- FREE VALUE (DESIGN CHOICE, log 9; safe). The place of a serial among serials of which none precedes all the others:
00_scope.md's modular order then names no first, and the manual states no order for them. Nothing constrains it. -/
opaque spreadRank : List Serial → Serial → Nat

end Sys2Proof.Config
end

