-- ==== Sys2Proof/Machine/State.lean ====
section
/-! DEFINITION. The state of one station, block by block (00_scope.md, Blocks of one station), and its value after reset. -/

namespace Sys2Proof.Machine

/-- A timer: stopped; running with the ms it still has; or run out, its event already taken. -/
inductive Timer | stopped | running (ms : Nat) | expired
deriving DecidableEq, Repr, Inhabited

/-- 03 R44: the profile of a station whose profile is good. -/
structure Profile where
  position : Pos := 0
  role : Role := .transport
  stopClass : StopClass := .mustRemove
  capacity : Nat := 0
  zones : List ZoneProfile := []
  downstream : List (Pos × DivSetting) := []
  media : Nat := 0
  demandThreshold : Nat := 0
  pickAllowance : Nat := 0
  pickRetries : Nat := 0
  bins : List BinKind := []
  purgeCapacity : Nat := 0
  setPolicy : SetPolicy := .keep
  finishAllowance : Nat := 0
  imageZone : Nat := 0
deriving DecidableEq, Repr, Inhabited

/-! ### Input lines (04 R69, R74) -/

/-- One input: raw level, settled level, settling time, and whether its first settling (R74) is still to come. -/
structure InputLine where
  raw : Bool := false
  settled : Bool := false
  settling : Timer := .stopped
  first : Bool := false
deriving DecidableEq, Repr, Inhabited

structure Inputs where
  sensors : List InputLine := []
  drdy : InputLine := {}
  door : InputLine := {}
  tempty : InputLine := {}
  fdone : List InputLine := []
  sett : List InputLine := []
  pempty : InputLine := {}
deriving DecidableEq, Repr, Inhabited

/-! ### LINK (chapter 2) -/

/-- Which sequence a queued frame belongs to: none, the report (08 R130), or the plan (11 R185). -/
inductive TxTag | plain | report | plan
deriving DecidableEq, Repr, Inhabited

/-- A frame of the transmit queue or the reserved slot. -/
structure TxFrame where
  payload : Payload := .halt
  epoch : Epoch := 0
  collisions : Nat := 0
  sending : Bool := false
  withdrawn : Bool := false
  tag : TxTag := .plain
deriving DecidableEq, Repr, Inhabited

/-- A frame of the receive queue, with the stop-line level LINK sampled at its end mark (08 R134). -/
structure RxFrame where
  sender : Pos := 0
  epoch : Epoch := 0
  payload : Payload := .halt
  lineLow : Bool := false
deriving DecidableEq, Repr, Inhabited

structure Link where
  slot : Option TxFrame := none
  queue : List TxFrame := []
  rx : List RxFrame := []
  backoff : Bool := false
  outOfStep : Bool := false
  lostSinceHolding : Bool := false
  lineLow : Bool := false
deriving DecidableEq, Repr, Inhabited

/-! ### TABLE (chapter 3) -/

inductive Presence | unknown | present | absent
deriving DecidableEq, Repr, Inhabited

structure LastReady where
  clear : Bool := false
  digest : Crc := 0
  epoch : Epoch := 0
deriving DecidableEq, Repr, Inhabited

/-- 03 R52. -/
structure TableEntry where
  presence : Presence := .unknown
  summary : Option Summary := none
  silence : Timer := .stopped
  lastReady : Option LastReady := none
  holdingReceived : Bool := false
  restarted : Bool := false
  duplicated : Bool := false
deriving DecidableEq, Repr, Inhabited

/-- 03 R53: one position's part of the path map. -/
structure MapEntry where
  downstream : List Pos := []
  upstream : List Pos := []
  purgePath : Option (List Pos) := none
deriving DecidableEq, Repr, Inhabited

/-- 03 R50: the unfit reasons, in the order of the validation table. -/
inductive UnfitReason
  | duplicatePosition | missingRole | missingDownstream | upstreamCount | mergeUpstream | noPurgePath | feedDownstream
deriving DecidableEq, Repr, Inhabited

structure Table where
  entries : List TableEntry := []
  map : List MapEntry := []
  unfit : Option UnfitReason := none
  listen : Timer := .stopped
  rollCall : Timer := .stopped
  joinDelay : Timer := .stopped
  presence : Timer := .stopped
deriving DecidableEq, Repr, Inhabited

/-! ### ROSTER (chapter 1) -/

inductive Stage | announced | fed
deriving DecidableEq, Repr, Inhabited

/-- 01 R21. -/
inductive Fate | keep | park | deliver | purge | release | lost
deriving DecidableEq, Repr, Inhabited

/-- 01 R3: the handoff field; `accepted` is false in state OFFERED. -/
structure HandoffMark where
  dest : Pos := 0
  accepted : Bool := false
deriving DecidableEq, Repr, Inhabited

/-- 01 R3: a sheet record. -/
structure SheetRecord where
  serial : Serial := 0
  job : Byte := 0
  set : BitVec 16 := 0
  index : Byte := 0
  last : Bool := false
  media : Nat := 0
  duplex : Bool := false
  front : Page := 0
  back : Option Page := none
  frontPass : Pass := 0
  backPass : Option Pass := none
  exit : Pos := 0
  bin : Nat := 0
  route : List Pos := []
  reprintOf : Option Serial := none
  routeIndex : Nat := 1
  stage : Stage := .announced
  sides : Nat := 0
  holder : Option Pos := none
  handoff : Option HandoffMark := none
  fate : Option Fate := none
  purgeRouted : Bool := false
deriving DecidableEq, Repr, Inhabited

inductive Phase | normal | recovery
deriving DecidableEq, Repr, Inhabited

/-- 01 section 1.5: the survey stage; it does not apply in phase NORMAL. -/
inductive SurveyStage | notApplicable | open | closed
deriving DecidableEq, Repr, Inhabited

structure Roster where
  records : List SheetRecord := []
  phase : Phase := .normal
  stage : SurveyStage := .notApplicable
  lastSerial : Option Serial := none
  epoch : Epoch := 0
  planInForce : Option Pass := none
deriving DecidableEq, Repr, Inhabited

/-! ### TRACK (chapter 5) -/

inductive Source | pick | arrival
deriving DecidableEq, Repr, Inhabited

/-- 06 R94. -/
inductive OfferState | unoffered | offered | accepted
deriving DecidableEq, Repr, Inhabited

/-- 05 R75, R91: what a stop line fall records of an entry. -/
structure Parked where
  leadZone : Nat := 1
  trailSensor : Nat := 1
  lead : Timer := .stopped
  trail : Timer := .stopped
  trailAllow : Nat := 0
  release : Bool := false
deriving DecidableEq, Repr, Inhabited

/-- 05 R75: an occupancy entry; `trailAge` is the time since the trail timer was loaded (R83). -/
structure Entry where
  serial : Serial := 0
  source : Source := .arrival
  leadZone : Nat := 1
  trailSensor : Nat := 1
  lead : Timer := .stopped
  trail : Timer := .stopped
  trailAllow : Nat := 0
  trailAge : Nat := 0
  release : Bool := false
  deferred : Bool := false
  offer : OfferState := .unoffered
  parked : Option Parked := none
deriving DecidableEq, Repr, Inhabited

/-- 05 R77, 06 R103: an expected-arrival item. -/
structure ExpItem where
  serial : Serial := 0
  upstream : Pos := 0
  timer : Timer := .stopped
  group : Nat := 0
  window : Nat := 0
  spacing : Nat := 0
deriving DecidableEq, Repr, Inhabited

/-- 05 R75, R77, R87; `attributing` is set at the station's first entry to RUN (R93). -/
structure Tracker where
  queue : List Entry := []
  expected : List ExpItem := []
  strays : List Bool := []
  pickCandidate : Option Serial := none
  pickTimer : Timer := .stopped
  attributing : Bool := false
deriving DecidableEq, Repr, Inhabited

/-! ### HANDOFF (chapter 6) -/

inductive RecordState | idle | awaiting | deferred | retry
deriving DecidableEq, Repr, Inhabited

/-- 06 R94; `retryMet` is the re-offer condition of R99. -/
structure OfferRecord where
  dest : Pos := 0
  state : RecordState := .idle
  offered : List Serial := []
  answer : Timer := .stopped
  reoffer : Timer := .stopped
  retryMet : Bool := false
  free : Option Nat := none
deriving DecidableEq, Repr, Inhabited

/-- 06 R104. -/
structure DeferredOffer where
  upstream : Pos := 0
  serials : List Serial := []
  window : Nat := 0
  spacing : Nat := 0
  epoch : Epoch := 0
deriving DecidableEq, Repr, Inhabited

structure Handoff where
  offers : List OfferRecord := []
  deferred : List DeferredOffer := []
deriving DecidableEq, Repr, Inhabited

/-! ### FEED, IMAGING, EXIT (chapters 7 and 10) -/

inductive PickState | idle | picking
deriving DecidableEq, Repr, Inhabited

inductive Crossing | armed | spent
deriving DecidableEq, Repr, Inhabited

structure Feed where
  pick : PickState := .idle
  retries : Nat := 0
  tray : TrayState := .empty
  crossing : Crossing := .armed
  pickOut : Bool := false
deriving DecidableEq, Repr, Inhabited

structure Imaging where
  passes : List (Serial × Nat) := []
  isync : Timer := .stopped
deriving DecidableEq, Repr, Inhabited

/-- 10 R164. -/
inductive BinState | empty | open | finishing | finishPending | ejecting
deriving DecidableEq, Repr, Inhabited

/-- 10 R164: a listed sheet; the back page is absent for a simplex sheet. -/
structure SetSheet where
  serial : Serial := 0
  index : Byte := 0
  front : Page := 0
  back : Option Page := none
deriving DecidableEq, Repr, Inhabited

structure OpenSet where
  job : Byte := 0
  set : BitVec 16 := 0
  sheets : List SetSheet := []
deriving DecidableEq, Repr, Inhabited

structure Bin where
  state : BinState := .empty
  openSet : Option OpenSet := none
  beforeEject : BinState := .empty
  oversize : Option (Byte × BitVec 16) := none
  trayStray : Bool := false
  finish : Timer := .stopped
  fin : Bool := false
deriving DecidableEq, Repr, Inhabited

/-- 10 R164, R173; `firstPempty` is the level PEMPTY took at its first settling (R174). -/
structure ExitUnit where
  bins : List Bin := []
  purgeCount : Nat := 0
  firstPempty : Option Bool := none
deriving DecidableEq, Repr, Inhabited

/-! ### DRIVE (chapter 4) -/

inductive DriveState | off | spinning | running | halting
deriving DecidableEq, Repr, Inhabited

structure Drive where
  state : DriveState := .off
  spin : Timer := .stopped
  halt : Timer := .stopped
  fresh : Bool := false
  gate : Bool := false
  gateHeld : Bool := false
  div1 : Bool := false
  div2 : Bool := false
deriving DecidableEq, Repr, Inhabited

/-! ### RECOVERY (chapters 8, 9 and 11) -/

/-- 08 R133: the kind of a jam-list entry. -/
inductive JamEntryKind | jam (k : JamKind) | halt | unclaimed | lineHeld
deriving DecidableEq, Repr, Inhabited

structure JamEntry where
  epoch : Epoch := 0
  kind : JamEntryKind := .halt
  station : Pos := 0
  named : List Serial := []
deriving DecidableEq, Repr, Inhabited

/-- 08 R136: a position's set list in the survey record. -/
structure SurveySet where
  bin : Nat := 0
  job : Byte := 0
  set : BitVec 16 := 0
  entries : List SetEntry := []
  complete : Bool := false
deriving DecidableEq, Repr, Inhabited

structure PosReport where
  pos : Pos := 0
  entries : List ReportEntry := []
  restarted : Bool := false
  desync : Bool := false
  purgeSpace : Nat := 0
  openSets : Nat := 0
  sets : List SurveySet := []
deriving DecidableEq, Repr, Inhabited

/-- 08 R136; `seen` is set once a HOLDING has been applied to it (R134). -/
structure SurveyRecord where
  reports : List PosReport := []
  seen : Bool := false
deriving DecidableEq, Repr, Inhabited

/-- 09 R145: where a sheet rests. The zone is unknown for a sheet that 11 R180 places at its park target (log 31). -/
structure Rest where
  station : Pos := 0
  routeIndex : Nat := 0
  zone : Option Nat := none
deriving DecidableEq, Repr, Inhabited

/-- 09 R143: what the fate results hold of one record beside the fate that its roster record carries. -/
structure FateDetail where
  serial : Serial := 0
  withdrawn : Bool := false
  tray : Bool := false
  picked : Bool := false
  straddling : Bool := false
  rest : Option Rest := none
  moving : Bool := false
  parkTarget : Option Pos := none
  runPath : List Pos := []
  purgeExit : Option Pos := none
deriving DecidableEq, Repr, Inhabited

/-- 09 R147. -/
structure Horizon where
  exit : Pos := 0
  bin : Nat := 0
  serial : Serial := 0
deriving DecidableEq, Repr, Inhabited

/-- 09 R143, R147, R152: a forfeited set; `eject` is the mark EJECT (otherwise STAY), `ejected` says that it comes from the
run-out account, `complete` that its ejection is complete (R160). -/
structure ForfeitedSet where
  exit : Pos := 0
  bin : Nat := 0
  job : Byte := 0
  set : BitVec 16 := 0
  media : Nat := 0
  entries : List SetEntry := []
  eject : Bool := false
  ejected : Bool := false
  complete : Bool := false
deriving DecidableEq, Repr, Inhabited

/-- 09 R155: an item of a clearing list. -/
inductive ClearItem
  | lost (serial : Serial) (zone : Nat)
  | foreign (serial : Serial) (zone : Nat)
  | unknown (zone : Nat)
  | stay (bin : Nat)
deriving DecidableEq, Repr, Inhabited

/-- 09 R143; `counted` holds each record's serial with the positions whose report of it counted at the survey close (R145). -/
structure FateResults where
  details : List FateDetail := []
  counted : List (Serial × Pos) := []
  horizons : List Horizon := []
  forfeited : List ForfeitedSet := []
  reprint : List PlanEntryFields := []
  omitted : Nat := 0
  firstOmitted : Page := 0
  withdrawn : Nat := 0
  firstWithdrawn : Serial := 0
  clearing : List (Pos × ClearItem) := []
  digest : Option Crc := none
deriving DecidableEq, Repr, Inhabited

/-- 09 R144. -/
structure Account where
  purged : List PlanEntryFields := []
  ejected : List ForfeitedSet := []
deriving DecidableEq, Repr, Inhabited

/-- 11 R175: an item of the revision list. -/
inductive Revision
  | removed (serial : Serial)
  | unknown (pos : Pos) (zone : Nat)
deriving DecidableEq, Repr, Inhabited

/-- 11 R186. -/
structure PlanInProgress where
  header : Option PlanFields := none
  entries : List PlanEntryFields := []
deriving DecidableEq, Repr, Inhabited

/-- 11 R185: a plan frame still to be queued. -/
inductive PlanItem | header | entry (e : PlanEntryFields) | final
deriving DecidableEq, Repr, Inhabited

structure Recovery where
  path : PathState := .profileRead
  epoch : Epoch := 0
  claim : Timer := .stopped
  lineHeld : Timer := .stopped
  survey : Timer := .stopped
  driveJam : Bool := false
  report : List Payload := []
  jams : List JamEntry := []
  escalated : Bool := false
  record : SurveyRecord := {}
  restarted : Bool := false
  following : Bool := false
  doorMark : Bool := false
  driveNeed : Bool := false
  fates : FateResults := {}
  account : Account := {}
  clearanceEpoch : Epoch := 0
  revisions : List Revision := []
  firstDigest : Option Crc := none
  mismatch : Nat := 0
  resurvey : Option Epoch := none
  pendingRevs : List RevisionContent := []
  clearFlag : Bool := false
  planIn : PlanInProgress := {}
  planOut : List PlanItem := []
  readyNext : Bool := false
deriving DecidableEq, Repr, Inhabited

/-! ### The station -/

structure State where
  pending : List Instr := []
  profile : Option Profile := none
  profileCrc : Crc := 0
  profileTimer : Timer := .stopped
  inputs : Inputs := {}
  link : Link := {}
  table : Table := {}
  roster : Roster := {}
  track : Tracker := {}
  handoff : Handoff := {}
  feed : Feed := {}
  imaging : Imaging := {}
  exit : ExitUnit := {}
  drive : Drive := {}
  recovery : Recovery := {}
deriving DecidableEq, Repr, Inhabited

/-- Nothing of the manual stops the part: every command has a next state. The type has no constructor. -/
inductive Fault
deriving DecidableEq, Repr

/-- The only refusal is a command without a meaning. -/
inductive Refusal
  /-- Raised by exec's arm of a command that has no meaning yet (none at present). Safe. -/
  | notModelled (mnemonic : String)
deriving DecidableEq, Repr

/-- 04 R74: an input right after reset, its raw level as the pin stands, its first settling to come. -/
def InputLine.atReset (raw : Bool) : InputLine :=
  { raw := raw, settled := false, settling := .running Config.settleMs, first := true }

/-- 04 R74: all inputs right after reset, keeping the raw levels of `i`. -/
def Inputs.atReset (i : Inputs) : Inputs :=
  { sensors := i.sensors.map (fun l => .atReset l.raw), drdy := .atReset i.drdy.raw, door := .atReset i.door.raw
    tempty := .atReset i.tempty.raw, fdone := i.fdone.map (fun l => .atReset l.raw)
    sett := i.sett.map (fun l => .atReset l.raw), pempty := .atReset i.pempty.raw }

/-- Every input low (log 10). -/
def Inputs.low : Inputs :=
  { sensors := List.replicate 4 {}, fdone := List.replicate 3 {}, sett := List.replicate 3 {} }

/-- The station right after reset (02 R41, 03 R43, R52, 01 R23, 04 R74, 05 R93, 06 R94, R104, 07 R112, R122, 08 R142,
09 R143, R144, 10 R174, 11 R175), with the pins' raw levels and the stop line as found. -/
def State.resetWith (pins : Inputs) (lineLow : Bool) : State :=
  { profileTimer := .running Config.profileReadMs
    inputs := pins.atReset
    link := { lineLow := lineLow }
    table := { entries := List.replicate 16 {}, map := List.replicate 16 {} }
    track := { strays := List.replicate 4 false }
    exit := { bins := List.replicate 3 {} } }

/-- The machine right after power-on reset: all pins low and the stop line released (log 10). -/
def State.reset : State := State.resetWith Inputs.low false

end Sys2Proof.Machine
end

