-- ==== Sys2Proof/Machine/Wire.lean ====
section
/-! DEFINITION. Frames on the link: CRC-16, kind codes and classes, the layouts of 02 section 2.7, and the receiver's check
(02 R24, R25, R42). -/

namespace Sys2Proof

/-! ### CRC-16 (00_scope.md, Abbreviations) -/

def crcBit (c : Crc) : Crc := if c.msb then (c <<< 1) ^^^ 0x1021#16 else c <<< 1

def crcByte (c : Crc) (b : Byte) : Crc :=
  crcBit (crcBit (crcBit (crcBit (crcBit (crcBit (crcBit (crcBit (c ^^^ (b ++ 0#8 : BitVec 16)))))))))

/-- Polynomial x^16+x^12+x^5+1, initial value all ones, most significant bit first, no reflection, no final exclusive-or. -/
def crc16 (bs : List Byte) : Crc := bs.foldl crcByte 0xFFFF#16

/-! ### Numbers as bytes, most significant byte first (02 R24) -/

def be16 (x : BitVec 16) : List Byte := [x.extractLsb' 8 8, x.extractLsb' 0 8]
def be32 (x : BitVec 32) : List Byte := [x.extractLsb' 24 8, x.extractLsb' 16 8, x.extractLsb' 8 8, x.extractLsb' 0 8]
def ofBe16 (a b : Byte) : BitVec 16 := a ++ b
def ofBe32 (a b c d : Byte) : BitVec 32 := a ++ b ++ c ++ d
def flagBit (b : Bool) (k : Nat) : Byte := if b then 1#8 <<< k else 0#8

/-- A serial field in which 0 stands for "absent" (INTENT reprint of, HOLDING unknown marker, PLAN ENTRY NEW). -/
def optSerial (s : Serial) : Option Serial := if s = 0 then none else some s

/-! ### Kinds and classes (02 section 2.7) -/

/-- The kind code of a content. -/
def Payload.code : Payload → Byte
  | .join _ _ => 0x01
  | .presence _ _ => 0x02
  | .intent _ => 0x03
  | .refused _ _ => 0x04
  | .withdraw _ => 0x05
  | .demand _ => 0x06
  | .tray _ => 0x07
  | .offer _ _ _ _ => 0x08
  | .accept _ _ _ => 0x09
  | .defer _ _ _ _ => 0x0A
  | .arrived _ _ => 0x0B
  | .pass _ _ _ => 0x0C
  | .delivered _ _ => 0x0D
  | .setDone _ _ _ _ => 0x0E
  | .jam _ _ _ => 0x10
  | .halt => 0x11
  | .holding _ => 0x12
  | .setlist _ _ _ _ _ => 0x13
  | .close _ => 0x14
  | .ready _ _ => 0x15
  | .revision _ => 0x16
  | .plan _ => 0x17
  | .planEntry _ => 0x18
  | .probe _ => 0x19
  | .status _ => 0x1A

/-- The kind codes the table lists. -/
def listedCode (c : Byte) : Bool := (1 ≤ c.toNat && c.toNat ≤ 0x0E) || (0x10 ≤ c.toNat && c.toNat ≤ 0x1A)

/-- The kinds of class URGENT: JAM, HALT, HOLDING, CLOSE. -/
def urgentCode (c : Byte) : Bool := c == 0x10#8 || c == 0x11#8 || c == 0x12#8 || c == 0x14#8

def Payload.urgent (p : Payload) : Bool := urgentCode (Payload.code p)

/-- 08 R127: HOLDING, SETLIST, CLOSE, READY, REVISION, PLAN and PLAN ENTRY. -/
def Payload.isRecovery : Payload → Bool
  | .holding _ | .setlist _ _ _ _ _ | .close _ | .ready _ _ | .revision _ | .plan _ | .planEntry _ => true
  | _ => false

def Payload.isJam : Payload → Bool
  | .jam _ _ _ => true
  | _ => false

def Payload.isClose : Payload → Bool
  | .close _ => true
  | _ => false

def Payload.isReady : Payload → Bool
  | .ready _ _ => true
  | _ => false

def Payload.isRevision : Payload → Bool
  | .revision _ => true
  | _ => false

/-! ### The three layouts the manual gives byte by byte -/

def encodeIntent (f : IntentFields) : List Byte :=
  be16 f.serial ++ [f.job] ++ be16 f.set ++ [f.index, flagBit f.last 0 ||| flagBit f.duplex 1, BitVec.ofNat 8 f.media,
    BitVec.ofNat 8 f.exit, BitVec.ofNat 8 f.bin] ++ be32 f.front ++ be32 f.back ++ be16 f.frontPass ++ be16 f.backPass
    ++ be16 (f.reprintOf.getD 0) ++ [BitVec.ofNat 8 f.route.length] ++ f.route.map (BitVec.ofNat 8)

/-- 02 R42: a length, route length or flag byte outside the layout makes a field out of range (`formOk = false`), which R9
refuses with ROUTE; a byte the payload does not have reads as 0 (log 8). -/
def parseIntent (bs : List Byte) : IntentFields :=
  let b := fun i => bs.getD i 0
  let n := (b 24).toNat
  { serial := ofBe16 (b 0) (b 1), job := b 2, set := ofBe16 (b 3) (b 4), index := b 5
    last := (b 6).getLsbD 0, duplex := (b 6).getLsbD 1, media := (b 7).toNat, exit := (b 8).toNat, bin := (b 9).toNat
    front := ofBe32 (b 10) (b 11) (b 12) (b 13), back := ofBe32 (b 14) (b 15) (b 16) (b 17)
    frontPass := ofBe16 (b 18) (b 19), backPass := ofBe16 (b 20) (b 21), reprintOf := optSerial (ofBe16 (b 22) (b 23))
    route := ((bs.drop 25).take n).map BitVec.toNat
    formOk := bs.length == 25 + n && 2 ≤ n && n ≤ 12 && (b 6 &&& 0xFC#8) == 0#8 }

def encodeReportEntry (e : ReportEntry) : List Byte :=
  be16 (e.serial.getD 0) ++ [BitVec.ofNat 8 e.zone, flagBit e.straddle 0]

def encodeHolding (f : HoldingFields) : List Byte :=
  [flagBit f.restarted 0 ||| flagBit f.desync 1 ||| flagBit f.final 2, BitVec.ofNat 8 f.entries.length,
    BitVec.ofNat 8 f.purgeSpace, BitVec.ofNat 8 f.openSets] ++ f.entries.flatMap encodeReportEntry

/-- HOLDING entries, four bytes each; none when a bit sent as zero is set or bytes are left over. -/
def parseReportEntries : List Byte → Option (List ReportEntry)
  | [] => some []
  | s1 :: s0 :: z :: g :: rest =>
    if g &&& 0xFE#8 = 0#8 then
      (parseReportEntries rest).map
        ({ serial := optSerial (ofBe16 s1 s0), zone := z.toNat, straddle := g.getLsbD 0 } :: ·)
    else none
  | _ => none

/-- 02 R42. Zones and the purge space are taken as they stand, in their ranges or not (log 58). -/
def parseHolding : List Byte → Option HoldingFields
  | g :: n :: space :: sets :: rest =>
    if g &&& 0xF8#8 = 0#8 ∧ n.toNat ≤ 6 ∧ rest.length = 4 * n.toNat then
      (parseReportEntries rest).map fun es =>
        { restarted := g.getLsbD 0, desync := g.getLsbD 1, final := g.getLsbD 2, purgeSpace := space.toNat
          openSets := sets.toNat, entries := es }
    else none
  | _ => none

def encodePlanEntry (f : PlanEntryFields) : List Byte :=
  [BitVec.ofNat 8 f.index] ++ be16 f.replaced ++ be16 (f.carrier.getD 0) ++ be32 f.front ++ be32 f.back ++ [f.job]
    ++ be16 f.set ++ [f.idx, flagBit f.last 0 ||| flagBit f.duplex 1 ||| flagBit f.lastEntry 2, BitVec.ofNat 8 f.media,
    BitVec.ofNat 8 f.exit, BitVec.ofNat 8 f.bin]

def parsePlanEntry : List Byte → Option PlanEntryFields
  | [i, r1, r0, c1, c0, f3, f2, f1, f0, k3, k2, k1, k0, job, s1, s0, ix, g, media, ex, bin] =>
    if g &&& 0xF8#8 = 0#8 then
      some { index := i.toNat, replaced := ofBe16 r1 r0, carrier := optSerial (ofBe16 c1 c0), front := ofBe32 f3 f2 f1 f0
             back := ofBe32 k3 k2 k1 k0, job := job, set := ofBe16 s1 s0, idx := ix, last := g.getLsbD 0
             duplex := g.getLsbD 1, lastEntry := g.getLsbD 2, media := media.toNat, exit := ex.toNat, bin := bin.toNat }
    else none
  | _ => none

/-- 11 R191: the reprint-of field reported with a plan entry, for which the 21 bytes of the layout have no place (log 48). -/
def Payload.reprintField : Payload → Option Serial
  | .planEntry e => e.reprintOf
  | _ => none

/-- The content of a payload: read from its bytes where the manual lays the kind out, else the reading that came with the
frame (log 8), which must be of the header's kind. No range of a value is tested (log 58). -/
def parsePayload (code : Byte) (bs : List Byte) (content : Payload) : Option Payload :=
  if code = 0x03#8 then some (.intent (parseIntent bs))
  else if code = 0x11#8 then some .halt
  else if code = 0x12#8 then (parseHolding bs).map .holding
  else if code = 0x18#8 then (parsePlanEntry bs).map fun e => .planEntry { e with reprintOf := content.reprintField }
  else if Payload.code content = code then some content
  else none

/-! ### The receiver's check (02 R25) -/

/-- What the receiver makes of a frame at its end mark. -/
inductive Reading
  /-- Over-long, cut short or not well formed: discarded alike everywhere, no consequence (R25). -/
  | discard
  /-- The check bytes do not match: a lost frame (R26). -/
  | bad
  /-- Received: sender, epoch and content. -/
  | good (sender : Pos) (epoch : Epoch) (payload : Payload)
deriving DecidableEq, Repr

def WireFrame.sender (w : WireFrame) : Pos := (w.b0 &&& 0x1F#8).toNat

/-- R25's header conditions: the bits sent as zero, the sender's range, a listed kind, the class of the kind. -/
def WireFrame.headerOk (w : WireFrame) : Bool :=
  (w.b0 &&& 0x60#8) == 0#8 && w.sender ≤ 16 && listedCode w.b1 && (!w.b0.getLsbD 7 == urgentCode w.b1)

/-- 02 R25, R26. -/
def WireFrame.read (w : WireFrame) : Reading :=
  if 60 < w.b3.toNat then .discard
  else if w.payload.length ≠ w.b3.toNat then .discard
  else if crc16 (w.b0 :: w.b1 :: w.b2 :: w.b3 :: w.payload) ≠ w.check then .bad
  else if !w.headerOk then .discard
  else match parsePayload w.b1 w.payload w.content with
    | none => .discard
    | some p => .good w.sender w.b2 p

/-- The payload bytes of a content whose layout the manual gives; no bytes for the others (log 8). -/
def Payload.bytes : Payload → List Byte
  | .intent f => encodeIntent f
  | .holding f => encodeHolding f
  | .planEntry f => encodePlanEntry f
  | _ => []

/-- 02 section 2.7, header byte 0: the class bit, two zero bits, the sender position. -/
def headerByte0 (sender : Pos) (p : Payload) : Byte :=
  (if Payload.urgent p then 0#8 else 0x80#8) ||| BitVec.ofNat 8 sender

/-- The frame a sender builds (02 R24, R42). -/
def WireFrame.build (sender : Pos) (epoch : Epoch) (p : Payload) : WireFrame :=
  let bs := Payload.bytes p
  let b3 : Byte := BitVec.ofNat 8 bs.length
  { b0 := headerByte0 sender p, b1 := Payload.code p, b2 := epoch, b3 := b3, payload := bs
    check := crc16 (headerByte0 sender p :: Payload.code p :: epoch :: b3 :: bs), content := p }

end Sys2Proof
end

