-- ==== Sys2Proof/WellFormed.lean ====
section
/-! DEFINITION. When the operands of a command are inside the ranges the manual gives them. The machine is total on
ill-formed commands too; statements that need a range take it from here. -/

namespace Sys2Proof

/-- 1..16 (03 R44). -/
def Pos.station (p : Pos) : Bool := 1 ≤ p && p ≤ 16

/-- 04 R69: SEN1..SEN4, FDONE1..FDONE3, SETT1..SETT3 and the single inputs. -/
def InputId.wf : InputId → Bool
  | .sensor k => 1 ≤ k && k ≤ 4
  | .fdone n => 1 ≤ n && n ≤ 3
  | .sett n => 1 ≤ n && n ≤ 3
  | .drdy | .door | .tempty | .pempty => true

/-- 02 section 2.7, HOLDING entry. -/
def ReportEntry.wf (e : ReportEntry) : Bool := 1 ≤ e.zone && e.zone ≤ 4 && e.serial != some 0

/-- 02 section 2.7, HOLDING payload. -/
def HoldingFields.wf (f : HoldingFields) : Bool :=
  f.entries.length ≤ 6 && f.purgeSpace ≤ 250 && f.openSets ≤ 3 && f.entries.all ReportEntry.wf

/-- 02 section 2.7, PLAN ENTRY payload. -/
def PlanEntryFields.wf (f : PlanEntryFields) : Bool :=
  1 ≤ f.index && f.index ≤ 64 && f.replaced != 0 && f.carrier != some 0 && f.media ≤ 15 && Pos.station f.exit
    && 1 ≤ f.bin && f.bin ≤ 3

/-- 02 section 2.7, INTENT payload, as a controller that keeps to the ranges fills it. -/
def IntentFields.wf (f : IntentFields) : Bool :=
  f.serial != 0 && f.index != 0 && f.media ≤ 15 && Pos.station f.exit && 1 ≤ f.bin && f.bin ≤ 3
    && f.frontPass != 0 && (!f.duplex || f.backPass != 0) && f.reprintOf != some 0
    && 2 ≤ f.route.length && f.route.length ≤ 12 && f.route.all Pos.station && f.formOk

/-- 02 section 2.7: the ranges of the frame kinds table. -/
def Payload.wf : Payload → Bool
  | .join s _ => 1 ≤ s.capacity && s.capacity ≤ 6 && s.downstream.length ≤ 2 && s.media ≤ 15 && s.bins.length ≤ 3
  | .intent f => f.wf
  | .refused s _ => s != 0
  | .demand n => n ≤ 12
  | .offer d ss _ _ => Pos.station d && 1 ≤ ss.length && ss.length ≤ 6 && ss.all (· != 0)
  | .accept d ss n => Pos.station d && 1 ≤ ss.length && ss.length ≤ 6 && ss.all (· != 0) && n ≤ 6
  | .defer d ss _ n => Pos.station d && 1 ≤ ss.length && ss.length ≤ 6 && ss.all (· != 0) && n ≤ 6
  | .arrived s _ => s != 0
  | .pass s side p => s != 0 && (side == 1 || side == 2) && p != 0
  | .delivered s bin => s != 0 && bin ≤ 3
  | .setDone bin _ _ _ => 1 ≤ bin && bin ≤ 3
  | .jam _ zone s => zone ≤ 4 && s != some 0
  | .holding f => f.wf
  | .setlist bin _ _ es _ => 1 ≤ bin && bin ≤ 3 && es.length ≤ 4
  | .close ps => ps.all Pos.station
  | .revision (.removed s) => s != 0
  | .revision (.unknown z) => 1 ≤ z && z ≤ 4
  | .plan f => f.count ≤ 64 && f.absent.all Pos.station
  | .planEntry f => f.wf
  | .probe p => Pos.station p
  | .presence _ _ | .withdraw _ | .tray _ | .halt | .ready _ _ | .status _ => true

/-- 02 R24, R25: a frame that reached its end mark has its stated length, unless the length field is over 60 and it was not
read past its header. -/
def WireFrame.wf (w : WireFrame) : Bool :=
  (60 < w.b3.toNat || w.payload.length == w.b3.toNat) && w.content.wf

/-- The operand ranges of each command. -/
def Instr.wf : Instr → Bool
  | .profileReadDone r _ _ => r.zones.length == r.zoneCount
  | .rawInputChange i _ => i.wf
  | .sensorKCover k => 2 ≤ k && k ≤ 4
  | .sensorUncover k => 1 ≤ k && k ≤ 4
  | .fdoneRise n | .setTrayFall n | .finishTimerExpiry n => 1 ≤ n && n ≤ 3
  | .frameCompletion (.other w) => w.wf
  | .frameCompletion .own => true
  | .silenceTimerExpiry p | .answerTimerExpiry p | .reOfferTimerExpiry p => Pos.station p
  | .arrivalTimerExpiry s | .leadTimerExpiry s | .trailTimerExpiry s => s != 0
  | .reset _ | .profileReadTimeout | .sensor1Cover | .drdyRise | .drdyFall | .doorOpen | .doorClose | .temptyChange
  | .pemptyRise | .stopLineFall | .stopLineRise | .linkAttemptStart _ | .collision | .joinReceipt | .presenceReceipt
  | .intentReceipt | .refusedReceipt | .withdrawReceipt | .demandReceipt | .trayReceipt | .offerReceipt | .acceptReceipt
  | .deferReceipt | .arrivedReceipt | .passReceipt | .deliveredReceipt | .setDoneReceipt | .jamReceipt | .haltReceipt
  | .holdingReceipt | .setlistReceipt | .closeReceipt | .readyReceipt | .revisionReceipt | .planReceipt | .planEntryReceipt
  | .probeReceipt | .statusReceipt | .listenTimerExpiry | .joinDelayExpiry | .rollCallClose | .presenceTimerExpiry
  | .spinTimerExpiry | .haltTimerExpiry | .claimWindowExpiry | .lineHeldTimerExpiry | .surveyTimerExpiry
  | .pickTimerExpiry | .isyncPulseEnd | .firstSettling => true

end Sys2Proof
end

