-- ==== Sys2Proof/Machine/Ops.lean ====
section
/-! DEFINITION. Shared operations: modular order, sorting, timers, the station table, and LINK's queues and claims. -/

namespace Sys2Proof.Machine

/-- What a command answers. -/
abbrev Reply := Host.Outcome State Fault Refusal

/-! ### Modular order (00_scope.md, Conventions) -/

/-- a precedes b when (b − a) mod 65536 lies in 1..32767. -/
def precedes (a b : BitVec 16) : Bool := 1 ≤ (b - a).toNat && (b - a).toNat ≤ 32767

/-- Equal to `h`, or after it (09 R148). -/
def atOrAfter (h x : BitVec 16) : Bool := x == h || precedes h x

/-- The number of `xs` that equals or precedes every other, if there is one. -/
def firstOf (xs : List (BitVec 16)) : Option (BitVec 16) := xs.find? fun f => xs.all fun x => atOrAfter f x

/-- The place of a serial in modular order among `xs`; the free value of log 9 where no serial comes first. -/
def orderKey (xs : List Serial) (x : Serial) : Nat :=
  match firstOf xs with
  | some f => (x - f).toNat
  | none => Config.spreadRank xs x

def insertByKey {α : Type} (key : α → Nat) (a : α) : List α → List α
  | [] => [a]
  | b :: bs => if key a ≤ key b then a :: b :: bs else b :: insertByKey key a bs

/-- Items in rising order of a key; items of one key keep their order. -/
def sortByKey {α : Type} (key : α → Nat) : List α → List α
  | [] => []
  | a :: as => insertByKey key a (sortByKey key as)

/-- Items in modular order of their serials. -/
def sortBySerial {α : Type} (serial : α → Serial) (xs : List α) : List α :=
  sortByKey (fun a => orderKey (xs.map serial) (serial a)) xs

/-- The earliest of `xs` in modular order. -/
def earliest (xs : List Serial) : Option Serial := (sortBySerial id xs).head?

/-- `xs` in pieces of `k` (08 R131, R132); `fuel` bounds the number of pieces. -/
def chunks {α : Type} (k : Nat) : Nat → List α → List (List α)
  | 0, _ => []
  | fuel + 1, xs => if xs.isEmpty then [] else xs.take k :: chunks k fuel (xs.drop k)

/-! ### Timers -/

/-- `n` ms pass on a timer that runs. -/
def Timer.tick (n : Nat) : Timer → Timer
  | .running r => .running (r - n)
  | t => t

/-- `n` ms pass on the timer when `runs`. -/
def Timer.pass (n : Nat) (runs : Bool) (t : Timer) : Timer := if runs then t.tick n else t

/-- The remaining time, 0 for a timer that has run out; none for a stopped one. -/
def Timer.remaining : Timer → Option Nat
  | .stopped => none
  | .running r => some r
  | .expired => some 0

/-- A timer restored from a parked context: one that had run out has 0 ms left (05 R85). -/
def Timer.restore : Timer → Timer
  | .expired => .running 0
  | t => t

def Timer.due (t : Timer) : Bool := t == .running 0

/-! ### The station and its path state -/

/-- The profile; before a good one is read, one with nothing in it. -/
def State.prof (s : State) : Profile := s.profile.getD {}
/-- The station's own position. -/
def State.own (s : State) : Pos := s.prof.position
def State.hasRole (s : State) (r : Role) : Bool := s.profile.isSome && s.prof.role == r
def State.path (s : State) : PathState := s.recovery.path
/-- Zone count Z, the number of the last sensor (05 R75). -/
def State.lastSensor (s : State) : Nat := s.prof.zones.length
def State.zone (s : State) (k : Nat) : ZoneProfile := (s.prof.zones[k - 1]?).getD {}
def State.isHolds (s : State) : Bool := s.prof.stopClass == .holds

/-- RUN, STOPPING, SURVEY, RUNOUT, CLEARANCE, PLAN, RESUMING (01 R2). -/
def livePath : PathState → Bool
  | .run | .stopping | .survey | .runout | .clearance | .plan | .resuming => true
  | .profileRead | .listen | .rollcall | .silent | .silentAbsent | .unfit => false

/-- 08 section 8.1: the closed states. -/
def closedPath : PathState → Bool
  | .silent | .silentAbsent | .unfit => true
  | _ => false

/-- RUN, RUNOUT and RESUMING: the states in which handoffs are answered and finishing goes on (06 R101, 10 R167). -/
def movingPath : PathState → Bool
  | .run | .runout | .resuming => true
  | _ => false

/-! ### The station table (03 R52, R54) -/

/-- Positions 1..16. -/
def stations : List Pos := (List.range 16).map (· + 1)

def State.entry (s : State) (p : Pos) : TableEntry := if p = 0 then {} else (s.table.entries[p - 1]?).getD {}
def State.isPresent (s : State) (p : Pos) : Bool := (s.entry p).presence == .present
def State.isAbsent (s : State) (p : Pos) : Bool := (s.entry p).presence == .absent
def State.presentList (s : State) : List Pos := stations.filter s.isPresent
/-- A sender whose frames count as a present station's (R52: UNKNOWN ones do at a restarted member; log 30). -/
def State.heard (s : State) (p : Pos) : Bool := Pos.station p && !s.isAbsent p
def State.summaryOf (s : State) (p : Pos) : Option Summary := (s.entry p).summary
def State.roleIs (s : State) (p : Pos) (r : Role) : Bool := (s.summaryOf p).any fun m => m.role == r
def State.classIs (s : State) (p : Pos) (c : StopClass) : Bool := (s.summaryOf p).any fun m => m.stopClass == c
def State.mapOf (s : State) (p : Pos) : MapEntry := if p = 0 then {} else (s.table.map[p - 1]?).getD {}
/-- The publishing station: the lowest present position (R54). -/
def State.publishing (s : State) : Option Pos := s.presentList.head?
/-- The number of present positions lower than `p` (R54). -/
def State.rank (s : State) (p : Pos) : Nat := (s.presentList.filter (· < p)).length

/-- Change of one position's table entry. -/
def State.setEntry (s : State) (p : Pos) (f : TableEntry → TableEntry) : State :=
  { s with table.entries := if p = 0 then s.table.entries else s.table.entries.modify (p - 1) f }

/-- Change of every table entry, given its position. -/
def State.mapEntries (s : State) (f : Pos → TableEntry → TableEntry) : State :=
  { s with table.entries := s.table.entries.mapIdx fun i e => f (i + 1) e }

/-! ### The stop line and LINK's queues (02 R33..R37) -/

/-- 02 R37: the station pulls the line while a JAM of its claims is still to complete. -/
def State.pulling (s : State) : Bool := s.link.slot.isSome || s.link.queue.any fun f => f.payload.isJam

/-- The level of the stop line: low when sensed low, and low under the station's own pull (log 6). -/
def State.lineIsLow (s : State) : Bool := s.link.lineLow || s.pulling

/-- The frame in transmission. -/
def State.sending (s : State) : Option TxFrame :=
  match s.link.slot with
  | some f => if f.sending then some f else s.link.queue.find? (·.sending)
  | none => s.link.queue.find? (·.sending)

def State.txRoom (s : State) : Bool := s.link.queue.length < Config.txMax

/-- 02 R30: a frame takes the station's epoch when it is queued. -/
def State.newFrame (s : State) (tag : TxTag) (p : Payload) : TxFrame := { payload := p, epoch := s.recovery.epoch, tag := tag }

/-- A frame appended to the transmit queue. -/
def State.pushTx (s : State) (f : TxFrame) : State := { s with link.queue := s.link.queue ++ [f] }

/-- 02 R34: a JAM takes the reserved slot, else a free place of the queue, else the station is out of step. -/
def State.queueJam (s : State) (k : JamKind) (zone : Nat) (serial : Option Serial) : State :=
  let f := s.newFrame .plain (.jam k zone serial)
  if s.link.slot.isNone then { s with link.slot := some f }
  else if s.txRoom then s.pushTx f
  else { s with link.outOfStep := true, link.lostSinceHolding := true }

/-- 02 R35: a lost frame. -/
def State.lose (s : State) : State :=
  let t := { s with link.lostSinceHolding := true, link.outOfStep := true }
  if livePath s.path then (if s.link.outOfStep then t else t.queueJam .desync 0 none)
  else if s.path == .listen || s.path == .rollcall then t
  else s

/-- 02 R33: a frame queued by a block of the station; a full queue loses it. -/
def State.queueTagged (s : State) (tag : TxTag) (p : Payload) : State :=
  if s.txRoom then s.pushTx (s.newFrame tag p) else s.lose

def State.queueFrame (s : State) (p : Payload) : State := s.queueTagged .plain p

/-- 05 R89, 02 R37: a detected jam: the line is pulled for as long as its JAM waits, and its JAM is queued. -/
def State.detect (s : State) (k : JamKind) (zone : Nat) (serial : Option Serial) : State := s.queueJam k zone serial

/-- 04 R66: a DRIVE jam, which 08 R129 also counts as a halted drive. -/
def State.detectDrive (s : State) : State :=
  let t := s.detect .drive 0 none
  { t with recovery.driveJam := true }

/-- 08 R127: the selected queued frames are removed; one in transmission ends with its attempt. -/
def State.withdrawFrames (s : State) (sel : Payload → Bool) : State :=
  { s with link.queue := (s.link.queue.filter fun f => f.sending || !sel f.payload).map fun f =>
      if sel f.payload then { f with withdrawn := true } else f }

/-- 08 R127: the recovery frames are withdrawn, and with them the report, the plan and a waiting READY. -/
def State.withdrawRecovery (s : State) : State :=
  let t := s.withdrawFrames Payload.isRecovery
  { t with recovery.report := [], recovery.planOut := [], recovery.readyNext := false }

/-- 02 R40: LINK empties the transmit queue and the reserved slot, which ends every claim. A frame of the
station's own in transmission is dropped with them (log 59). -/
def State.emptyTx (s : State) : State :=
  { s with link.slot := none, link.queue := [], recovery.report := [], recovery.planOut := [], recovery.readyNext := false }

/-- 08 R141. -/
def State.escalate (s : State) : State := { s with recovery.escalated := true }

end Sys2Proof.Machine
end

