-- ==== Sys2Proof/Machine/Operands.lean ====
section
/-! DEFINITION. What commands carry: the segment inputs (04 R69) and the profile record (03 R43, R44). -/

namespace Sys2Proof.Machine

/-! ### Input lines -/

def Inputs.line (i : Inputs) : InputId → InputLine
  | .sensor k => if k = 0 then {} else (i.sensors[k - 1]?).getD {}
  | .drdy => i.drdy
  | .door => i.door
  | .tempty => i.tempty
  | .fdone n => if n = 0 then {} else (i.fdone[n - 1]?).getD {}
  | .sett n => if n = 0 then {} else (i.sett[n - 1]?).getD {}
  | .pempty => i.pempty

def Inputs.setLine (i : Inputs) (id : InputId) (l : InputLine) : Inputs :=
  match id with
  | .sensor k => { i with sensors := if k = 0 then i.sensors else i.sensors.modify (k - 1) fun _ => l }
  | .drdy => { i with drdy := l }
  | .door => { i with door := l }
  | .tempty => { i with tempty := l }
  | .fdone n => { i with fdone := if n = 0 then i.fdone else i.fdone.modify (n - 1) fun _ => l }
  | .sett n => { i with sett := if n = 0 then i.sett else i.sett.modify (n - 1) fun _ => l }
  | .pempty => { i with pempty := l }

/-- All inputs, in the order of 04 R69. -/
def allInputs : List InputId :=
  [.sensor 1, .sensor 2, .sensor 3, .sensor 4, .drdy, .door, .tempty, .fdone 1, .fdone 2, .fdone 3, .sett 1, .sett 2, .sett 3,
   .pempty]

/-- The settled level: covered, ready, open, empty tray, finished, sheet in the set tray, empty purge bin when true. -/
def State.reads (s : State) (id : InputId) : Bool := (s.inputs.line id).settled
def State.covered (s : State) (k : Nat) : Bool := s.reads (.sensor k)

/-- 04 R69: the zone inputs above the zone count are not settled. Before the profile is read all four settle. -/
def State.settles (s : State) : InputId → Bool
  | .sensor k => s.profile.isNone || k ≤ s.lastSensor
  | _ => true

/-- 04 R69: a settled edge of this input and level has a command of its own in the table. -/
def edgeHasRow : InputId → Bool → Bool
  | .sensor _, _ | .drdy, _ | .door, _ | .tempty, _ => true
  | .fdone _, b => b
  | .sett _, b => !b
  | .pempty, b => b

/-- `n` ms pass on the settling of one input. An edge that no command reports changes the settled level as its time ends. -/
def InputLine.pass (n : Nat) (row : Bool → Bool) (l : InputLine) : InputLine :=
  match l.settling with
  | .running r => if r ≤ n && !l.first && !row l.raw then { l with settled := l.raw, settling := .stopped }
      else { l with settling := .running (r - n) }
  | _ => l

def Inputs.pass (n : Nat) (i : Inputs) : Inputs :=
  { sensors := i.sensors.map (InputLine.pass n (edgeHasRow (.sensor 1))), drdy := i.drdy.pass n (edgeHasRow .drdy)
    door := i.door.pass n (edgeHasRow .door), tempty := i.tempty.pass n (edgeHasRow .tempty)
    fdone := i.fdone.map (InputLine.pass n (edgeHasRow (.fdone 1))), sett := i.sett.map (InputLine.pass n (edgeHasRow (.sett 1)))
    pempty := i.pempty.pass n (edgeHasRow .pempty) }

/-- 04 R69, R74: a raw level change starts, restarts or abandons the settling time of a line that `settles`. -/
def InputLine.change (settles : Bool) (level : Bool) (l : InputLine) : InputLine :=
  if l.raw = level then l
  else if !settles then { l with raw := level }
  else if l.first then { l with raw := level, settling := .running Config.settleMs }
  else if l.settled = level then { l with raw := level, settling := .stopped }
  else { l with raw := level, settling := .running Config.settleMs }

/-- The time still to pass before the line settles to `level`; none when no such edge is under way. -/
def InputLine.edgeIn (level : Bool) (l : InputLine) : Option Nat :=
  match l.settling with
  | .running r => if !l.first && l.raw == level && l.settled != level then some r else none
  | _ => none

/-! ### The profile (03 R43, R44) -/

def inRange (lo hi n : Nat) : Bool := lo ≤ n && n ≤ hi

/-- An allowance of 10..2000 ms in steps of 10 ms. -/
def allowanceOk (n : Nat) : Bool := inRange 10 2000 n && n % 10 == 0

def zoneOk (z : ZoneProfile) : Bool :=
  allowanceOk z.lead && allowanceOk z.trail && z.trailMin ≤ 2000 && z.trailMin < z.trail

/-- The downstream list: positions other than the station's own, different, STRAIGHT only when there is one entry. -/
def downstreamOk (own : Pos) (ds : List (Pos × DivSetting)) : Bool :=
  ds.length ≤ 2 && ds.all (fun d => Pos.station d.1 && d.1 != own && (d.2 != .straight || ds.length == 1))
    && (ds.map (·.1)).eraseDups.length == ds.length

/-- All of a list's values, when every one is a stated value. -/
def allSome {α : Type} : List (Option α) → Option (List α)
  | [] => some []
  | none :: _ => none
  | some a :: rest => (allSome rest).map (a :: ·)

/-- 03 R44: the range tests; the profile when every test passes. Fields named for another role are not read. -/
def checkProfile (r : ProfileRecord) : Option Profile := do
  let role ← r.role
  let stopClass ← r.stopClass
  let settings ← allSome (r.downstream.map (·.2))
  let downstream := (r.downstream.map (·.1)).zip settings
  let feed := role == .feed
  let exit := role == .exit
  let bins ← if exit then allSome r.bins else some []
  let policy ← if exit then r.setPolicy else some .keep
  if Pos.station r.position && inRange 1 6 r.capacity && inRange 1 4 r.zoneCount && r.zones.length == r.zoneCount
      && r.zones.all zoneOk && downstreamOk r.position downstream && (!exit || downstream.isEmpty)
      && (!feed || (r.media ≤ 15 && inRange 1 8 r.demandThreshold && inRange 50 1000 r.pickAllowance && r.pickRetries ≤ 2))
      && (!exit || (inRange 1 3 bins.length && inRange 10 250 r.purgeCapacity && inRange 500 5000 r.finishAllowance))
      && (role != .imaging || inRange 1 r.zoneCount r.imageZone)
  then
    some { position := r.position, role := role, stopClass := stopClass, capacity := r.capacity, zones := r.zones
           downstream := downstream, media := if feed then r.media else 0
           demandThreshold := if feed then r.demandThreshold else 0
           pickAllowance := if feed then r.pickAllowance else 0, pickRetries := if feed then r.pickRetries else 0
           bins := bins, purgeCapacity := if exit then r.purgeCapacity else 0, setPolicy := policy
           finishAllowance := if exit then r.finishAllowance else 0
           imageZone := if role == .imaging then r.imageZone else 0 }
  else none

/-- 03 R49: the profile summary a JOIN carries. -/
def Profile.summary (p : Profile) : Summary :=
  { role := p.role, stopClass := p.stopClass, capacity := p.capacity, downstream := p.downstream.map (·.1), media := p.media
    bins := p.bins, policy := p.setPolicy }

/-- 04 R68: the diverter outputs (DIV1, DIV2) of a setting. -/
def divOutputs : DivSetting → Bool × Bool
  | .straight => (false, false)
  | .div1 => (true, false)
  | .div2 => (false, true)

/-- 04 R68: the bin diverter code; 0 is the purge bin. -/
def binCode (bin : Nat) : Bool × Bool := (bin == 1 || bin == 3, bin == 2 || bin == 3)

/-- 04 R68: the home position of the diverter. An empty downstream list gives the purge bin code at an EXIT station, and both
outputs inactive at any other (log 66). -/
def Profile.homeDiverter (p : Profile) : Bool × Bool :=
  match p.downstream with
  | [] => (false, false)
  | d :: _ => divOutputs d.2

end Sys2Proof.Machine
end

