-- ==== Sys2Proof/Machine/PathMap.lean ====
section
/-! DEFINITION. The path map and the table validation (03 R50, R53). -/

namespace Sys2Proof.Machine

/-- The downstream list of a present station's summary. -/
def State.downs (s : State) (p : Pos) : List Pos :=
  if s.isPresent p then ((s.summaryOf p).map (·.downstream)).getD [] else []

/-- The present stations whose downstream lists name `p`, in rising order. -/
def State.ups (s : State) (p : Pos) : List Pos := s.presentList.filter fun q => (s.downs q).contains p

/-- The links of each position's purge path, as known after some rounds; none where no chain has been found. -/
abbrev Distances := List (Option Nat)

def distAt (ds : Distances) (p : Pos) : Option Nat := if p = 0 then none else (ds[p - 1]?).getD none

/-- Of two candidates for the purge successor, the one with fewer links; the lower position where they are equal. -/
def nearer (a b : Pos × Nat) : Pos × Nat := if b.2 < a.2 || (b.2 == a.2 && b.1 < a.1) then b else a

/-- 03 R53: the purge successor of `p` and the links of its purge path. -/
def State.successor (s : State) (ds : Distances) (p : Pos) : Option (Pos × Nat) :=
  ((s.downs p).filterMap fun d => if s.isPresent d then (distAt ds d).map fun n => (d, n) else none).foldl
    (fun best c => some (match best with | none => c | some b => nearer b c)) none

def State.distStep (s : State) (ds : Distances) : Distances :=
  stations.map fun p =>
    if !s.isPresent p then none
    else if s.roleIs p .exit then some 0
    else (s.successor ds p).map (·.2 + 1)

/-- 16 rounds settle every chain of at most 16 stations. -/
def State.distances (s : State) : Distances := Nat.repeat s.distStep 16 (List.replicate 16 none)

/-- The chain of purge successors from `p`. -/
def State.chain (s : State) (ds : Distances) : Nat → Pos → List Pos
  | 0, p => [p]
  | fuel + 1, p => if s.roleIs p .exit then [p] else
      match s.successor ds p with
      | none => [p]
      | some (d, _) => p :: s.chain ds fuel d

/-- 03 R53: the path map of the present entries. -/
def State.pathMap (s : State) : List MapEntry :=
  let ds := s.distances
  stations.map fun p =>
    { downstream := s.downs p, upstream := s.ups p
      purgePath := if (distAt ds p).isSome then some (s.chain ds 16 p) else none }

def State.rebuildMap (s : State) : State := { s with table.map := s.pathMap }

/-- 03 R50: the first check of the frozen table that fails. -/
def State.validate (s : State) : Option UnfitReason :=
  let ps := s.presentList
  let ds := s.distances
  if s.table.entries.any (·.duplicated) then some .duplicatePosition
  else if !(ps.any (s.roleIs · .feed) && ps.any (s.roleIs · .imaging) && ps.any (s.roleIs · .exit)) then some .missingRole
  else if ps.any fun p => (s.downs p).any fun d => !s.isPresent d then some .missingDownstream
  else if ps.any fun p => 3 < (s.ups p).length then some .upstreamCount
  else if ps.any fun p => s.roleIs p .merge && (s.ups p).any fun q => !s.classIs q .holds then some .mergeUpstream
  else if ps.any fun p => !s.roleIs p .exit && (distAt ds p).isNone then some .noPurgePath
  else if ps.any fun p => s.roleIs p .feed && !(s.ups p).isEmpty then some .feedDownstream
  else none

/-- 03 R51: the code of an unfit reason, 1 to 7 in the order of the validation table. -/
def UnfitReason.code : UnfitReason → Byte
  | .duplicatePosition => 1
  | .missingRole => 2
  | .missingDownstream => 3
  | .upstreamCount => 4
  | .mergeUpstream => 5
  | .noPurgePath => 6
  | .feedDownstream => 7

end Sys2Proof.Machine
end

