-- ==== Sys2Proof/Machine/Roster.lean ====
section
/-! DEFINITION. The roster: custody and passes of a record, the intakes, the acceptance tests, and the sheet frames
(chapter 1). Nothing here changes a block other than ROSTER. -/

namespace Sys2Proof.Machine

def State.record (s : State) (x : Serial) : Option SheetRecord := s.roster.records.find? fun r => r.serial == x

/-- Change of the record with this serial. -/
def State.setRecord (s : State) (x : Serial) (f : SheetRecord → SheetRecord) : State :=
  { s with roster.records := s.roster.records.map fun r => if r.serial == x then f r else r }

/-- The stations after `p` on the purge path of `p` (03 R53). -/
def State.purgeAfter (s : State) (p : Pos) : List Pos := ((s.mapOf p).purgePath.getD []).drop 1

/-- A sheet that leaves by a purge path (01 R4). -/
def SheetRecord.purging (r : SheetRecord) : Bool := r.purgeRouted || r.fate == some .purge

/-- 01 R4: the next station of a FED record. -/
def State.nextStation (s : State) (r : SheetRecord) : Option Pos :=
  if r.stage != .fed then none
  else if r.purging then r.holder.bind fun h => (s.purgeAfter h).head?
  else r.route[r.routeIndex]?

/-- 01 R20. -/
def SheetRecord.runout (r : SheetRecord) : Bool :=
  r.fate == some .park || r.fate == some .deliver || r.fate == some .purge

/-! ### Passes (01 R5, R6) -/

/-- The pending pass of a record as if its sides imaged were `sides`. -/
def SheetRecord.pendingAt (r : SheetRecord) (sides : Nat) : Option Pass :=
  if r.purgeRouted then none
  else if sides = 0 then some r.frontPass
  else if sides = 1 && r.duplex then r.backPass
  else none

def SheetRecord.pending (r : SheetRecord) : Option Pass := r.pendingAt r.sides

/-- The passes the sheet still has to be imaged at. -/
def SheetRecord.outstanding (r : SheetRecord) : List Pass :=
  if r.purgeRouted then []
  else if r.sides = 0 then r.frontPass :: r.backPass.toList
  else if r.sides = 1 && r.duplex then r.backPass.toList
  else []

/-- The first of `ps` that no other precedes; the first of all when every one is preceded. -/
def lowestPass (ps : List Pass) : Option Pass :=
  (ps.find? fun p => !ps.any fun q => precedes q p).orElse fun _ => ps.head?

/-- 01 R6: the lowest pending pass of the roster. -/
def State.lowestPending (s : State) : Option Pass := lowestPass (s.roster.records.filterMap SheetRecord.pending)

/-! ### Intakes (01 R7) -/

def State.intake (s : State) (p : Pos) : List SheetRecord :=
  s.roster.records.filter fun r => r.stage == .announced && r.route.head? == some p

def State.freeSlots (s : State) (p : Pos) : Nat := Config.intakeMax - (s.intake p).length

/-! ### Acceptance of an INTENT (01 R8..R11) -/

/-- Each entry after the first is in the downstream list of the entry before it. -/
def State.linked (s : State) : List Pos → Bool
  | a :: b :: rest => (s.mapOf a).downstream.contains b && s.linked (b :: rest)
  | _ => true

/-- 01 R9: the route test. -/
def State.routeTest (s : State) (f : IntentFields) : Bool :=
  f.formOk && f.serial != 0 && f.frontPass != 0 && (!f.duplex || f.backPass != 0) && f.index != 0 && f.media ≤ 15
    && inRange 1 3 f.bin
    && inRange 2 12 f.route.length
    && f.route.all s.isPresent
    && (f.route.head?.any fun p => (s.summaryOf p).any fun m => m.role == .feed && m.media == f.media)
    && (f.route.getLast?.any fun p => s.roleIs p .exit && p == f.exit)
    && s.linked f.route
    && (f.route.filter (s.roleIs · .imaging)).length == (if f.duplex then 2 else 1)
    && ((s.summaryOf f.exit).any fun m => f.bin ≤ m.bins.length)

/-- 01 R10: the pass test. -/
def State.passTest (s : State) (f : IntentFields) : Bool :=
  let used := s.roster.records.flatMap SheetRecord.outstanding
  !used.contains f.frontPass
    && (!f.duplex || (!used.contains f.backPass && precedes f.frontPass f.backPass))
    && (f.reprintOf.isNone || s.roster.planInForce.any fun free => !precedes f.frontPass free)

/-- 01 R8: the reason of the first test that fails. -/
def State.refusal (s : State) (f : IntentFields) : Option RefuseReason :=
  if s.roster.phase == .recovery then some .recovery
  else if Config.rosterMax ≤ s.roster.records.length || (f.route.head?.any fun p => Config.intakeMax ≤ (s.intake p).length)
  then some .full
  else if (s.record f.serial).isSome then some .duplicate
  else if s.roster.lastSerial.any fun l => !precedes l f.serial then some .order
  else if !s.routeTest f then some .route
  else if !s.passTest f then some .pass
  else none

/-- 01 R11: the record of an accepted INTENT. -/
def newRecord (f : IntentFields) : SheetRecord :=
  { serial := f.serial, job := f.job, set := f.set, index := f.index, last := f.last, media := f.media, duplex := f.duplex
    front := f.front, back := if f.duplex then some f.back else none, frontPass := f.frontPass
    backPass := if f.duplex then some f.backPass else none, exit := f.exit, bin := f.bin, route := f.route
    reprintOf := f.reprintOf }

def State.acceptIntent (s : State) (f : IntentFields) : State :=
  { s with roster.records := s.roster.records ++ [newRecord f], roster.lastSerial := some f.serial }

/-- 01 R13: the ANNOUNCED records of a job are removed. -/
def State.withdrawJob (s : State) (job : Byte) : State :=
  { s with roster.records := s.roster.records.filter fun r => !(r.stage == .announced && r.job == job) }

/-! ### Sheet frames (01 R14..R17, R20) -/

/-- 01 R20: whether an ARRIVED or DELIVERED for `r` is applied in the roster's phase and survey stage. -/
def State.custodyApplies (s : State) (r : SheetRecord) : Bool :=
  s.roster.phase == .normal || s.roster.stage != .closed || r.runout

/-- 01 R20: whether a handoff frame of this epoch is applied to `r`. -/
def State.handoffApplies (s : State) (epoch : Epoch) (r : SheetRecord) : Bool :=
  s.roster.phase == .normal || (s.roster.stage == .closed && r.runout && epoch == s.roster.epoch)

/-- 01 R14: the ARRIVED for `r` from `sender` is applied. -/
def State.arrives (s : State) (sender : Pos) (picked : Bool) (r : SheetRecord) : Bool :=
  s.custodyApplies r &&
    (if picked then r.stage == .announced && r.route.head? == some sender
     else r.stage == .fed && s.nextStation r == some sender)

/-- 01 R14: the record after an applied ARRIVED. -/
def SheetRecord.arrived (sender : Pos) (picked : Bool) (r : SheetRecord) : SheetRecord :=
  if picked then { r with stage := .fed, holder := some sender }
  else { r with holder := some sender, handoff := none, routeIndex := if r.purging then r.routeIndex else r.routeIndex + 1 }

/-- 01 R15: an OFFER from `sender` to `dest`. -/
def State.applyOffer (s : State) (sender dest : Pos) (epoch : Epoch) (serials : List Serial) : State :=
  { s with roster.records := s.roster.records.map fun r =>
      if serials.contains r.serial && s.handoffApplies epoch r && r.stage == .fed && r.holder == some sender
          && s.nextStation r == some dest
      then { r with handoff := some { dest := dest } } else r }

/-- 01 R15: an ACCEPT from `sender`. -/
def State.applyAccept (s : State) (sender : Pos) (epoch : Epoch) (serials : List Serial) : State :=
  { s with roster.records := s.roster.records.map fun r =>
      if serials.contains r.serial && s.handoffApplies epoch r && r.handoff == some { dest := sender, accepted := false }
      then { r with handoff := some { dest := sender, accepted := true } } else r }

/-- 01 R15: a DEFER from `sender`: with ROOM the handoff is cleared, with another reason it stays OFFERED. -/
def State.applyDefer (s : State) (sender : Pos) (epoch : Epoch) (serials : List Serial) (reason : DeferReason) : State :=
  { s with roster.records := s.roster.records.map fun r =>
      if serials.contains r.serial && s.handoffApplies epoch r && r.handoff == some { dest := sender, accepted := false }
          && reason == .room
      then { r with handoff := none } else r }

/-- 01 R16: the PASS is applied to `r`. -/
def State.passes (s : State) (sender : Pos) (side : Nat) (pass : Pass) (r : SheetRecord) : Bool :=
  (s.roster.phase == .normal || s.roster.stage != .closed)
    && r.stage == .fed && r.holder == some sender
    && ((side == 1 && r.sides == 0) || (side == 2 && r.duplex && r.sides == 1))
    && r.pending == some pass

/-- 01 R17: the DELIVERED is applied to `r`. -/
def State.delivers (s : State) (sender : Pos) (r : SheetRecord) : Bool :=
  s.custodyApplies r && r.stage == .fed && r.holder == some sender

def State.removeRecord (s : State) (x : Serial) : State :=
  { s with roster.records := s.roster.records.filter fun r => r.serial != x }

/-! ### The plan's first free pass (11 R185) -/

/-- The highest of `ps`: R6 with the order reversed and the record nearest the end taken, of that record its back pass when both
are outstanding (log 53). -/
def highestPass (ps : List Pass) : Option Pass :=
  (ps.reverse.find? fun p => !ps.any fun q => precedes p q).orElse fun _ => ps.getLast?

/-- One more, wrapping 65535 to 1. -/
def passAfter (p : Pass) : Pass := if p = 0xFFFF#16 then 1 else p + 1

end Sys2Proof.Machine
end

