-- ==== Sys2Proof/Machine/Flags.lean ====
section
/-! DEFINITION. Conditions the manual computes from the state and keeps no storage for: what run-out still needs, the drive
request, the outputs at the pins, the hold of the queue, the zones nothing accounts for, the timers that run. -/

namespace Sys2Proof.Machine

/-! ### Run-out (09 R149, R157, R158, R160) -/

def State.detail (s : State) (x : Serial) : Option FateDetail := s.recovery.fates.details.find? fun d => d.serial == x

/-- 09 R160: a moving sheet is complete once its record has gone, or is held by its park target. -/
def State.complete (s : State) (d : FateDetail) : Bool :=
  match s.record d.serial with
  | none => true
  | some r => d.parkTarget.isSome && r.holder == d.parkTarget

/-- 09 R149. -/
def State.moving (s : State) (x : Serial) : Bool := (s.detail x).any (·.moving)

/-- 06 R96: a moving sheet that is offered in RUNOUT: not a PARK sheet already held by its park target. -/
def State.movable (s : State) (x : Serial) : Bool := (s.detail x).any fun d => d.moving && !s.complete d

/-- 09 R157: something is still outstanding. -/
def State.runoutOutstanding (s : State) : Bool :=
  (s.recovery.fates.details.any fun d => d.moving && !s.complete d)
    || s.recovery.fates.forfeited.any fun f => f.eject && !f.complete

/-- 09 R158: the drive is needed. -/
def State.driveNeeded (s : State) : Bool :=
  (s.recovery.fates.details.any fun d => d.moving && !s.complete d
      && ((d.rest.any fun r => r.station == s.own) || d.runPath.contains s.own))
    || (s.recovery.fates.forfeited.any fun f => f.eject && !f.complete && f.exit == s.own)
    || s.track.queue.any fun e => s.moving e.serial && (s.record e.serial).any fun r => r.holder.any (· != s.own)

/-! ### Drive (04 R60, R65) -/

/-- 04 R60: the drive request stands. -/
def State.driveRequest (s : State) : Bool :=
  match s.path with
  | .run | .resuming => true
  | .runout => s.recovery.driveNeed
  | _ => false

/-- DEN at the pin (04 R61..R65, 02 R39): active in SPINNING and RUNNING, forced off by a low line and by the DOOR pin. -/
def State.den (s : State) : Bool :=
  (s.drive.state == .spinning || s.drive.state == .running) && !s.lineIsLow && !s.inputs.door.raw

/-- ISYNC at the pin (04 R72). -/
def State.isync (s : State) : Bool := s.imaging.isync != .stopped

/-! ### Occupancy (05 R75, R84, R92; 06 R102) -/

/-- 04 R67: the oldest entry whose trail has not uncovered the last sensor; an entry leaves the queue when it does. -/
def State.gateSheet (s : State) : Option Entry := s.track.queue.head?

/-- 05 R84: the queue is held. -/
def State.held (s : State) : Bool :=
  s.isHolds && s.gateSheet.any fun e => e.leadZone == s.lastSensor && !e.release

/-- 05 R75: some entry accounts for covered sensor `k`. -/
def State.accounted (s : State) (k : Nat) : Bool := s.track.queue.any fun e => e.trailSensor ≤ k && k ≤ e.leadZone

/-- Zones 1..Z. -/
def State.zones (s : State) : List Nat := (List.range s.lastSensor).map (· + 1)

def State.strayFlag (s : State) (k : Nat) : Bool := (s.track.strays[k - 1]?).getD false

/-- A covered zone that no entry accounts for. -/
def State.unaccounted (s : State) (k : Nat) : Bool := s.covered k && !s.accounted k

/-- 05 R92: the unknown zones of the holdings. -/
def State.unknownZones (s : State) : List Nat := s.zones.filter fun k => s.strayFlag k || s.unaccounted k

/-- 06 R102: the free count. -/
def State.freeCount (s : State) : Nat := s.prof.capacity - s.track.queue.length - s.track.expected.length

/-! ### Timers that run (05 R85) -/

/-- The timers of a sheet's record run in this path state, suspension aside; in RUNOUT those of a run-out
sheet, a held purge among them (log 62). -/
def State.paced (s : State) (x : Serial) : Bool :=
  match s.path with
  | .run => true
  | .runout => s.drive.state == .running && (s.record x).any SheetRecord.runout
  | _ => false

/-- 05 R84, R85: an entry's lead and trail timers run. -/
def State.entryRuns (s : State) (x : Serial) : Bool := s.paced x && !s.held

/-- 06 R98: answer timers, and the re-offer timers beside them, run in RUN and RUNOUT. -/
def State.offersRun (s : State) : Bool := s.path == .run || s.path == .runout

/-- 03 R49: the occupied flag of a JOIN. -/
def State.occupied (s : State) : Bool :=
  s.zones.any s.covered || (s.hasRole .exit && (List.range s.prof.bins.length).any fun i => s.reads (.sett (i + 1)))

/-- 03 R49: the JOIN of the station. -/
def State.joinFrame (s : State) : Payload := .join s.prof.summary s.occupied

/-- 03 R46: the listen timer runs, as far as the station sees the link: no frame of its own is in progress (log 45). -/
def State.listenRuns (s : State) : Bool := s.path == .listen && s.sending.isNone

/-- 03 R59, 10 R173: the purge space reported. -/
def State.purgeSpace (s : State) : Nat := if s.hasRole .exit then s.prof.purgeCapacity - s.exit.purgeCount else 0

end Sys2Proof.Machine
end

