-- ==== Sys2Proof/Machine/Tracker.lean ====
section
/-! DEFINITION. TRACK (chapter 5) and the hold gate (04 R67): attribution of edges, loading, parking and restoring of
contexts, stray flags; and the end of a pick in progress. -/

namespace Sys2Proof.Machine

/-- Change of every occupancy entry. -/
def State.mapQueue (s : State) (f : Entry → Entry) : State := { s with track.queue := s.track.queue.map f }

/-- The first entry with `p` is changed. -/
def changeFirst (p : Entry → Bool) (f : Entry → Entry) : List Entry → List Entry
  | [] => []
  | e :: es => if p e then f e :: es else e :: changeFirst p f es

/-! ### The gate -/

/-- 04 R67: GATE follows the release mark of the gate sheet, except from a fall to RUNOUT or RESUMING. -/
def State.gateFollow (s : State) : State :=
  if s.drive.gateHeld then s else { s with drive.gate := s.isHolds && s.gateSheet.any (·.release) }

/-- 05 R84: the suspended timers of an entry loaded again. -/
def State.reloadEntry (s : State) (e : Entry) : Entry :=
  { e with
    lead := match e.lead with | .running _ => .running (s.zone e.leadZone).lead | t => t
    trail := match e.trail with | .running _ => .running (s.zone e.trailSensor).trail | t => t
    trailAge := match e.trail with | .running _ => 0 | _ => e.trailAge }

/-- 05 R84: the hold of `before` has ended in `s`, because the gate sheet was released or left: suspended timers are loaded
again (log 14). -/
def State.endHold (before s : State) : State :=
  if before.held && (!s.held || (before.gateSheet.map (·.serial)) != s.gateSheet.map (·.serial)) then
    match s.path with
    | .run | .resuming => s.mapQueue s.reloadEntry
    | .runout => s.mapQueue fun e => if (s.record e.serial).any SheetRecord.runout then s.reloadEntry e else e
    | _ => s
  else s

/-! ### Attribution (05 R78..R83) -/

/-- Settled sensor edges are attributed in these path states (R81, R87, R92), once the station has entered RUN (R93). -/
def State.attributes (s : State) : Bool :=
  s.track.attributing &&
    (match s.path with
     | .run | .stopping | .runout | .resuming => true
     | _ => false)

/-- 05 R82: the lead timer at the cover of sensor k. -/
def State.leadLoad (s : State) (k : Nat) : Timer := if k < s.lastSensor then .running (s.zone k).lead else .stopped

/-- 05 R82: an entry whose lead has covered sensor k; a load in STOPPING is recorded in the parked context (R91). -/
def State.leadTo (s : State) (k : Nat) (e : Entry) : Entry :=
  { e with leadZone := k, lead := s.leadLoad k
           parked := if s.path == .stopping then e.parked.map fun c => { c with lead := s.leadLoad k } else e.parked }

/-- 05 R83: an entry whose trail has passed on to sensor k. -/
def State.trailTo (s : State) (k : Nat) (e : Entry) : Entry :=
  { e with trailSensor := k, trail := .running (s.zone k).trail, trailAllow := (s.zone k).trail, trailAge := 0
           parked := if s.path == .stopping then
               e.parked.map fun c => { c with trail := .running (s.zone k).trail, trailAllow := (s.zone k).trail }
             else e.parked }

/-- 05 R91: the context of an entry as it stands. -/
def Entry.context (e : Entry) : Parked :=
  { leadZone := e.leadZone, trailSensor := e.trailSensor, lead := e.lead, trail := e.trail, trailAllow := e.trailAllow
    release := e.release }

/-- 05 R78: the sheet a cover of sensor 1 is attributed to. -/
def State.candidate (s : State) : Option Serial :=
  if s.hasRole .feed then s.track.pickCandidate else s.track.expected.head?.map (·.serial)

/-- 05 R78: the appended entry. -/
def State.appended (s : State) (x : Serial) : Entry :=
  let e : Entry := { serial := x, source := if s.hasRole .feed then .pick else .arrival, leadZone := 1, trailSensor := 1
                     lead := s.leadLoad 1, trail := .running (s.zone 1).trail, trailAllow := (s.zone 1).trail }
  { e with parked := if s.path == .stopping then some e.context else none }

/-- 05 R77: the expected-arrivals list without its head, whose group's next item is timed from now. -/
def dropHead : List ExpItem → List ExpItem
  | a :: b :: rest => (if a.group == b.group then { b with timer := .running b.spacing } else b) :: rest
  | _ => []

/-- 07 R114: the pick in progress ends; the candidate stays. -/
def State.endPick (s : State) : State :=
  { s with feed.pick := .idle, feed.pickOut := false, track.pickTimer := .stopped }

/-- 05 R78: a cover of sensor 1 attributed to its candidate; none when it has no candidate. -/
def State.coverFirst (s : State) : Option (State × Entry) :=
  match s.candidate with
  | none => none
  | some x =>
    if s.track.queue.any (·.serial == x) || s.prof.capacity ≤ s.track.queue.length then none
    else
      let e := s.appended x
      let t := { s with track.queue := s.track.queue ++ [e] }
      if s.hasRole .feed then
        let u := t.endPick
        some ({ u with track.pickCandidate := none }, e)
      else some ({ t with track.expected := dropHead t.track.expected }, e)

/-- 05 R87: a stray cover of zone k. -/
def State.setStray (s : State) (k : Nat) : State :=
  { s with track.strays := if k = 0 then s.track.strays else s.track.strays.modify (k - 1) fun _ => true }

def State.strayCover (s : State) (k : Nat) : State :=
  let t := s.setStray k
  if s.path == .run || s.path == .runout then t.detect .stray k none else t

/-- 05 R79: the entry a cover of sensor k ≥ 2 is attributed to. -/
def State.coverEntry (s : State) (k : Nat) : Option Entry := s.track.queue.find? fun e => e.leadZone + 1 == k

/-- 05 R80: the entry an uncover of sensor k is attributed to. -/
def State.uncoverEntry (s : State) (k : Nat) : Option Entry :=
  s.track.queue.find? fun e => e.trailSensor == k && k ≤ e.leadZone

/-- 05 R83: the uncover of sensor k comes before the trail minimum (log 12); in RUNOUT no timer jam is detected for a sheet that
is not run out (R85, log 13). -/
def State.isShort (s : State) (k : Nat) (e : Entry) : Bool :=
  (s.path != .runout || (s.record e.serial).any SheetRecord.runout) && e.trailAge < (s.zone k).trailMin

/-- 05 R80: the tracker's own change at an attributed uncover of sensor k. -/
def State.uncoverTrack (s : State) (k : Nat) (e : Entry) : State :=
  let isIt := fun f : Entry => f.trailSensor == k && k ≤ f.leadZone
  if k = s.lastSensor then { s with track.queue := s.track.queue.filter fun f => f.serial != e.serial }
  else { s with track.queue := changeFirst isIt (s.trailTo (k + 1)) s.track.queue }

/-! ### Parking and restoring (05 R85, R91; 11 R189) -/

/-- 05 R91, 04 R67: every entry parked, afresh when it was parked before, with its release mark recorded and cleared and its
deferred mark cleared. -/
def State.parkAll (s : State) : State :=
  s.mapQueue fun e => { e with parked := some e.context, release := false, deferred := false }

/-- 05 R85, 11 R189: an entry with its parked timers back, unreleased; the parked time counts as elapsed (R83, log 12). -/
def Entry.restore (e : Entry) : Entry :=
  match e.parked with
  | none => { e with release := false, deferred := false }
  | some c =>
    { e with lead := c.lead.restore, trail := c.trail.restore, trailAllow := c.trailAllow
             trailAge := c.trailAllow - (c.trail.remaining.getD c.trailAllow), release := false, deferred := false
             parked := none }

/-- 05 R87, 11 R190: the zones found stray at RUN entry are flagged and detected, one by one, in rising order (log 56). -/
def State.strayTest (s : State) : State :=
  (s.zones.filter fun k => s.strayFlag k || s.unaccounted k).foldl (fun t k => (t.setStray k).detect .stray k none) s

end Sys2Proof.Machine
end

