-- ==== Sys2Proof/Machine/Exit.lean ====
section
/-! DEFINITION. EXIT: the bin diverter, deliveries, sets, finishing, ejection and the purge bin (chapter 10). -/

namespace Sys2Proof.Machine

def State.bin (s : State) (n : Nat) : Bin := if n = 0 then {} else (s.exit.bins[n - 1]?).getD {}
def State.setBin (s : State) (n : Nat) (f : Bin → Bin) : State :=
  { s with exit.bins := if n = 0 then s.exit.bins else s.exit.bins.modify (n - 1) f }

/-- The numbers of the declared bins. -/
def State.binNumbers (s : State) : List Nat := (List.range s.prof.bins.length).map (· + 1)
def State.isFinishing (s : State) (n : Nat) : Bool := n != 0 && s.prof.bins[n - 1]? == some .finishing

/-! ### The bin diverter (R162) -/

/-- R162: the target bin of a sheet; 0 is the purge bin. -/
def State.targetBin (s : State) (x : Serial) : Nat :=
  match s.record x with
  | none => 0
  | some r => if r.purging then 0 else r.bin

/-- R162: the diverter sheet. -/
def State.diverterSheet (s : State) : Option Serial :=
  match s.track.queue.head? with
  | some e => some e.serial
  | none => s.track.expected.head?.map (·.serial)

def State.setDiverter (s : State) (d : Bool × Bool) : State := { s with drive.div1 := d.1, drive.div2 := d.2 }

/-- R162: the diverter set for the diverter sheet; it stays when there is none. -/
def State.divertForSheet (s : State) : State :=
  if s.hasRole .exit then
    match s.diverterSheet with
    | none => s
    | some x => s.setDiverter (binCode (s.targetBin x))
  else s

/-- The bin toward which the diverter stands (04 R68). -/
def State.diverterBin (s : State) : Nat := (if s.drive.div1 then 1 else 0) + (if s.drive.div2 then 2 else 0)

/-! ### Finishing (R167..R169) -/

/-- R167: a bin starts finishing. -/
def State.startFinishing (s : State) (n : Nat) : State :=
  s.setBin n fun b => { b with state := .finishing, fin := true, finish := .running s.prof.finishAllowance }

/-- R169: each FINISH_PENDING bin restarts finishing. -/
def State.restartFinishing (s : State) : State :=
  (s.binNumbers.filter fun n => (s.bin n).state == .finishPending).foldl (fun t n => t.startFinishing n) s

/-- R168: the bin is closed to offers. -/
def State.closedToOffers (s : State) (n : Nat) : Bool :=
  let b := s.bin n
  let expected := s.track.queue.map (·.serial) ++ s.track.expected.map (·.serial)
  s.isFinishing n &&
    (b.state == .finishing || b.state == .finishPending || b.state == .ejecting
      || expected.any fun x => s.targetBin x == n && (s.record x).any (·.last))

/-- R168: a last sheet of a set followed by another sheet with the same target bin. -/
def State.lastThenMore (s : State) : List Serial → Bool
  | [] => false
  | x :: xs => ((s.record x).any (·.last) && xs.any fun y => s.targetBin y == s.targetBin x) || s.lastThenMore xs

/-! ### Deliveries (R163, R165, R166, R173) -/

/-- R173: the purge count raised, capped at the capacity. -/
def State.addPurged (s : State) (n : Nat) : State :=
  { s with exit.purgeCount := min (s.exit.purgeCount + n) s.prof.purgeCapacity }

def SheetRecord.setSheet (r : SheetRecord) : SetSheet :=
  { serial := r.serial, index := r.index, front := r.front, back := r.back }

/-- R165: the sheet opens a new set; the last of its set starts finishing. -/
def State.openNewSet (s : State) (n : Nat) (r : SheetRecord) : State :=
  let t := s.setBin n fun b =>
    { b with state := .open, oversize := none, openSet := some { job := r.job, set := r.set, sheets := [r.setSheet] } }
  if r.last then t.startFinishing n else t

/-- R165, R166: a sheet with a record and not purging delivered to finishing bin `n`. The last sheet of its set leaves no oversize
mark, be it the 41st (log 18). -/
def State.listSheet (s : State) (n : Nat) (r : SheetRecord) : State :=
  let b := s.bin n
  match b.state with
  | .empty =>
    if b.oversize == some (r.job, r.set) then (if r.last then s.setBin n fun b => { b with oversize := none } else s)
    else s.openNewSet n r
  | .open =>
    match b.openSet with
    | none => s.openNewSet n r
    | some o =>
      if o.job == r.job && o.set == r.set then
        if Config.setListMax ≤ o.sheets.length then
          let t := s.queueFrame (.setDone n o.job o.set .oversize)
          t.setBin n fun b =>
            { b with state := .empty, openSet := none, oversize := if r.last then none else some (o.job, o.set) }
        else
          let t := s.setBin n fun b => { b with openSet := some { o with sheets := o.sheets ++ [r.setSheet] } }
          if r.last then t.startFinishing n else t
      else (s.queueFrame (.setDone n o.job o.set .broken)).openNewSet n r
  | .finishing | .finishPending | .ejecting => s

/-- R163: the departure of a sheet at an EXIT station is its delivery into the bin the diverter stands at; the diverter is then
set for the next sheet. -/
def State.deliver (s : State) (x : Serial) : State :=
  let n := s.diverterBin
  let t := s.queueFrame (.delivered x n)
  let u :=
    if n = 0 then t.addPurged 1
    else if s.isFinishing n then
      match s.record x with
      | some r => if r.purging then t else t.listSheet n r
      | none => t
    else t
  u.divertForSheet

/-! ### Ejection (R170, R171) -/

/-- A bin's set closed with SET DONE; the bin becomes EMPTY. -/
def State.closeSet (s : State) (n : Nat) (outcome : SetOutcome) : State :=
  match (s.bin n).openSet with
  | none => s
  | some o =>
    (s.queueFrame (.setDone n o.job o.set outcome)).setBin n fun b =>
      { b with state := .empty, openSet := none, finish := .stopped, fin := false }

/-- The forfeited set of the current fate results that bin `n`'s open set is. -/
def State.forfeitedSet (s : State) (n : Nat) : Option ForfeitedSet :=
  match (s.bin n).openSet with
  | none => none
  | some o => s.recovery.fates.forfeited.find? fun f =>
      f.exit == s.own && f.bin == n && f.job == o.job && f.set == o.set && !f.ejected

/-- R170: the set tray has emptied. -/
def State.ejected (s : State) (n : Nat) : State :=
  let count := (((s.bin n).openSet).map (·.sheets.length)).getD 0
  (s.addPurged count).closeSet n .forfeited

/-- R170, second condition: the moving sheet's run-out path ends at another station than `p`; an empty path ends where the sheet
rests (log 40). -/
def FateDetail.endsElsewhere (d : FateDetail) (p : Pos) : Bool :=
  (d.runPath.getLast?.orElse fun _ => d.rest.map (·.station)) != some p

/-- R170: the lowest bin whose forfeited set marked EJECT can be ejected now. -/
def State.ejectable (s : State) : Option Nat :=
  if s.path == .runout && s.hasRole .exit && s.track.queue.isEmpty && s.track.expected.isEmpty
      && !s.binNumbers.any (fun n => (s.bin n).state == .ejecting)
      && s.recovery.fates.details.all (fun d => !d.moving || s.complete d || d.endsElsewhere s.own)
  then s.binNumbers.find? fun n =>
    ((s.bin n).state == .open || (s.bin n).state == .finishPending) && (s.forfeitedSet n).any fun f => f.eject && !f.complete
  else none

/-- R170: the start of an ejection when one can start; a set tray that reads empty completes it at once. -/
def State.ejectTest (s : State) : State :=
  match s.ejectable with
  | none => s
  | some n =>
    let t := (s.setBin n fun b =>
      { b with beforeEject := b.state, state := .ejecting, fin := true, finish := .running s.prof.finishAllowance })
    let u := t.setDiverter (binCode 0)
    if s.reads (.sett n) then u else u.ejected n

/-- R169, R170: at a fall that moves the station to STOPPING, finishing is cut short and an ejection ends. -/
def Bin.stop (b : Bin) : Bin :=
  match b.state with
  | .finishing => { b with state := .finishPending, fin := false, finish := .stopped }
  | .ejecting => { b with state := b.beforeEject, fin := false, finish := .stopped }
  | _ => b

def State.stopBins (s : State) : State := { s with exit.bins := s.exit.bins.map Bin.stop }

/-- R171: at the final PLAN frame the sets marked STAY are closed. -/
def State.closeStaySets (s : State) : State :=
  (s.binNumbers.filter fun n => (s.forfeitedSet n).any fun f => !f.eject).foldl (fun t n => t.closeSet n .forfeited) s

/-- R171, R172: what a settled fall of the set-tray input of bin `n` does to the bin outside finishing and ejection. -/
def State.trayTaken (s : State) (n : Nat) : State :=
  let t := s.setBin n fun b => { b with trayStray := false }
  match (s.bin n).state with
  | .finishing | .ejecting => t
  | .open | .finishPending => if (s.forfeitedSet n).isSome then t else t.closeSet n .broken
  | .empty => t.setBin n fun b => { b with oversize := none }

/-- R172: the bin is awaiting removal. -/
def State.awaitingRemoval (s : State) (n : Nat) : Bool :=
  s.isFinishing n && s.reads (.sett n) &&
    ((s.bin n).trayStray || s.recovery.fates.clearing.any fun c => c == (s.own, .stay n))

end Sys2Proof.Machine
end

