-- ==== Sys2Proof/Machine/Handoff.lean ====
section
/-! DEFINITION. HANDOFF and the merge arbiter: offers, answers, the deferred-offers list, admission (chapters 6 and 7). -/

namespace Sys2Proof.Machine

/-! ### Upstream side (06 R94..R100) -/

def State.offerTo (s : State) (dest : Pos) : Option OfferRecord := s.handoff.offers.find? fun o => o.dest == dest
def State.setOffer (s : State) (dest : Pos) (f : OfferRecord → OfferRecord) : State :=
  { s with handoff.offers := s.handoff.offers.map fun o => if o.dest == dest then f o else o }

/-- 06 R95: at RUN and RUNOUT entry each declared free count is the destination's capacity. The manual gives none for a destination
without a profile summary, an UNKNOWN position at a restarted member: the model takes 0 (log 57). -/
def State.resetFreeCounts (s : State) : State :=
  { s with handoff.offers := s.handoff.offers.map fun o => { o with free := some (((s.summaryOf o.dest).map (·.capacity)).getD 0) } }

/-- 06 R96, first condition. -/
def State.offerPath (s : State) (x : Serial) : Bool := s.path == .run || (s.path == .runout && s.movable x)

/-- 06 R96, third condition: the record is FED and held here. -/
def State.heldRecord (s : State) (x : Serial) : Option SheetRecord :=
  (s.record x).bind fun r => if r.stage == .fed && r.holder == some s.own then some r else none

/-- 06 R97: the entry belongs to the run of an offer to `dest`. -/
def State.inRun (s : State) (dest : Pos) (e : Entry) : Bool :=
  e.offer == .unoffered && s.offerPath e.serial && (s.heldRecord e.serial).any fun r => s.nextStation r == some dest

/-- 06 R97: the serials of the offer to `o.dest` whose candidate is first in `rest`. -/
def State.offerSerials (s : State) (o : OfferRecord) (rest : List Entry) : List Serial :=
  let run := ((rest.takeWhile (s.inRun o.dest)).take Config.trainMax).map (·.serial)
  let n := min run.length (o.free.getD 0)
  if 2 ≤ n && o.state != .retry then run.take n else run.take 1

/-- 06 R97, 04 R68: the OFFER queued. A full transmit queue loses it and leaves the record and the entries, a record in
RETRY with its re-offer condition met (log 63). -/
def State.makeOffer (s : State) (o : OfferRecord) (serials : List Serial) : State :=
  let z := s.zone s.lastSensor
  let t := s.queueFrame (.offer o.dest serials z.lead z.trail)
  if !s.txRoom then t else
    let u := (t.mapQueue fun e => if serials.contains e.serial then { e with offer := .offered } else e).setOffer o.dest
      fun o => { o with state := .awaiting, offered := serials, answer := .stopped, reoffer := .stopped, retryMet := false }
    match s.prof.downstream.find? fun d => d.1 == o.dest with
    | some d => u.setDiverter (divOutputs d.2)
    | none => u

/-- 06 R96: the candidate is tested; at most one OFFER is queued (log 15 for NO_ANSWER). An EXIT station offers nothing
(R94). -/
def State.offerTest (s : State) : State :=
  if s.hasRole .exit then s else
  let rest := s.track.queue.dropWhile fun e => e.offer != .unoffered
  match rest with
  | [] => s
  | e :: _ =>
    if !(s.offerPath e.serial && e.leadZone == s.lastSensor) then s else
    match s.heldRecord e.serial with
    | none => s
    | some r =>
      match s.nextStation r with
      | none => s.detect .noAnswer 0 none
      | some dest =>
        if s.isAbsent dest then s.detect .noAnswer 0 none else
        match s.offerTo dest with
        | none => s
        | some o =>
          if o.state == .idle || (o.state == .retry && o.retryMet) then s.makeOffer o (s.offerSerials o rest) else s

/-- 06 R107: every handoff of the station voided, on both sides. -/
def State.voidHandoffs (s : State) : State :=
  let t := s.mapQueue fun e => { e with offer := .unoffered }
  { t with
    handoff.offers := s.handoff.offers.map fun o =>
      { o with state := .idle, offered := [], answer := .stopped, reoffer := .stopped, retryMet := false }
    handoff.deferred := [] }

/-- 06 R95, R99: the free count an ACCEPT or DEFER declares; a waiting re-offer condition is met when it is 1 or more. -/
def State.declareFree (s : State) (sender : Pos) (free : Nat) : State :=
  s.setOffer sender fun o =>
    if o.state == .retry && !o.retryMet && 1 ≤ free then { o with free := some free, retryMet := true, reoffer := .stopped }
    else { o with free := some free }

/-- 06 R99: the answer matches the offer record of its sender. -/
def State.matchesOffer (s : State) (sender dest : Pos) (serials : List Serial) (accept : Bool) : Bool :=
  dest == s.own && (s.offerTo sender).any fun o =>
    o.offered == serials && (o.state == .awaiting || (accept && o.state == .deferred))

/-- 06 R99: the offered entries take the offer state the answer gives. -/
def State.setOfferStates (s : State) (serials : List Serial) (st : OfferState) : State :=
  s.mapQueue fun e => if serials.contains e.serial then { e with offer := st } else e

/-- 06 R99: the offer record at a matching ACCEPT. -/
def State.offerAccepted (s : State) (dest : Pos) (serials : List Serial) : State :=
  (s.setOffer dest fun o => { o with state := .idle, offered := [], answer := .stopped }).setOfferStates serials .accepted

/-- 06 R99: the offer record at a matching DEFER. -/
def State.offerDeferred (s : State) (dest : Pos) (serials : List Serial) (reason : DeferReason) (free : Nat) : State :=
  if reason == .room then
    (s.setOffer dest fun o =>
      { o with state := .retry, offered := [], answer := .stopped, retryMet := 1 ≤ free
               reoffer := if 1 ≤ free then .stopped else .running Config.reOfferMs }).setOfferStates serials .unoffered
  else s.setOffer dest fun o => { o with state := .deferred, answer := .stopped }

/-! ### Admission at the merge (07 R118, R119) -/

/-- 07 R118: the sheet is due for imaging. -/
def State.dueForImaging (s : State) (x : Serial) : Bool :=
  (s.record x).any fun r => r.pending.isSome && r.fate != some .purge

/-- 07 R118: admission is granted for the offer. -/
def State.admitted (s : State) (serials : List Serial) : Bool :=
  match serials with
  | [x] => !s.dueForImaging x || (s.record x).any fun r => r.pending == s.lowestPending
  | _ => true

/-! ### Downstream side (06 R101..R105) -/

/-- 06 R101, third condition. -/
def State.boundHere (s : State) (sender : Pos) (serials : List Serial) : Bool :=
  serials.all fun x => (s.record x).any fun r => r.stage == .fed && r.holder == some sender && s.nextStation r == some s.own

/-- 06 R101, fourth condition. -/
def State.runoutOffer (s : State) (epoch : Epoch) (serials : List Serial) : Bool :=
  s.path != .runout || (epoch == s.recovery.epoch && serials.all s.moving)

/-- 05 R77, 07 R119, 10 R168: the tracker refuses the appends. -/
def State.refusesAppend (s : State) (serials : List Serial) : Bool :=
  !decide serials.Nodup
    || serials.any (fun x => s.track.queue.any (·.serial == x) || s.track.expected.any (·.serial == x))
    || (s.hasRole .merge && 2 ≤ serials.length && serials.any s.dueForImaging)
    || (s.hasRole .exit && 2 ≤ serials.length && s.lastThenMore serials)

/-- 06 R102: the reason of the first test that fails. -/
def State.deferReason (s : State) (serials : List Serial) : Option DeferReason :=
  if s.path == .resuming then some .state
  else if s.drive.state != .running then some .drive
  else if s.hasRole .exit && serials.any (fun x => s.closedToOffers (s.targetBin x)) then some .finishing
  else if s.hasRole .merge && !s.admitted serials then some .order
  else if s.freeCount < serials.length || s.refusesAppend serials then some .room
  else none

/-- 06 R103: a group number that no item of the list holds (log 20). -/
def State.newGroup (s : State) : Nat := s.track.expected.foldl (fun m i => max m i.group) 0 + 1

/-- 06 R103: the ACCEPT queued and its items appended; at an EXIT station the diverter is set when the sheet becomes the diverter
sheet (10 R162). -/
def State.acceptOffer (s : State) (d : DeferredOffer) : State :=
  let t := s.queueFrame (.accept d.upstream d.serials (s.freeCount - d.serials.length))
  if !s.txRoom then t else
    let items := d.serials.map fun x =>
      { serial := x, upstream := d.upstream, group := s.newGroup, window := d.window, spacing := d.spacing : ExpItem }
    let u := { t with track.expected := t.track.expected ++ items }
    if s.track.queue.isEmpty && s.track.expected.isEmpty then u.divertForSheet else u

/-- 06 R105: one entry of the deferred-offers list; the flag says that it stays. -/
def State.retest (s : State) (d : DeferredOffer) : State × Bool :=
  if !(s.boundHere d.upstream d.serials && s.runoutOffer d.epoch d.serials) then (s, false)
  else if (s.deferReason d.serials).isSome then (s, true)
  else (s.acceptOffer d, !s.txRoom)

def State.retestAll (s : State) : List DeferredOffer → State × List DeferredOffer
  | [] => (s, [])
  | d :: ds =>
    let r := s.retest d
    let rest := r.1.retestAll ds
    (rest.1, if r.2 then d :: rest.2 else rest.2)

/-- 06 R105: the deferred-offers list re-evaluated. -/
def State.reevaluate (s : State) : State :=
  if movingPath s.path then
    let r := s.retestAll s.handoff.deferred
    { r.1 with handoff.deferred := r.2 }
  else s

/-- 10 R170, R168, 06 R105: the start of an ejection when one can start, a change of bin state after which the deferred
offers are re-evaluated. -/
def State.ejectStart (s : State) : State := if s.ejectable.isSome then s.ejectTest.reevaluate else s

/-- 06 R101..R104: the answer to an OFFER addressed to this station. -/
def State.answerOffer (s : State) (d : DeferredOffer) : State :=
  if !(movingPath s.path && (s.mapOf s.own).upstream.contains d.upstream && s.boundHere d.upstream d.serials
      && s.runoutOffer d.epoch d.serials) then s
  else
    let t := { s with handoff.deferred := s.handoff.deferred.filter fun x => x.upstream != d.upstream }
    match t.deferReason d.serials with
    | none => (t.acceptOffer d).reevaluate
    | some reason =>
      let u := t.queueFrame (.defer d.upstream d.serials reason t.freeCount)
      if reason == .room || !t.txRoom then u else { u with handoff.deferred := u.handoff.deferred ++ [d] }

end Sys2Proof.Machine
end

