-- ==== Sys2Proof/Machine/Feed.lean ====
section
/-! DEFINITION. The feed unit and the imaging marker (chapter 7). -/

namespace Sys2Proof.Machine

/-! ### Picking (R113, R114, 05 R88) -/

/-- 07 R113, seventh and eighth conditions, over the records in roster order up to the target. -/
def State.pickOrder (s : State) (x : Serial) : Bool :=
  let ahead := s.roster.records.takeWhile fun r => r.serial != x
  ahead.all fun r => r.stage != .announced && !(r.holder.any fun h => h != s.own && s.roleIs h .feed)

/-- 07 R113: the sheet to pick now. -/
def State.pickTarget (s : State) : Option Serial :=
  match (s.intake s.own).head? with
  | none => none
  | some r =>
    if s.hasRole .feed && s.path == .run && s.drive.state == .running && s.feed.tray == .loaded && s.feed.pick == .idle
        && s.track.queue.length < s.prof.capacity && !s.track.queue.any (·.serial == r.serial)
        && !s.covered 1 && !s.track.queue.any (·.trailSensor == 1) && s.pickOrder r.serial
    then some r.serial else none

/-- 07 R114, 05 R88: the pick conditions are tested; at most one pick is issued. -/
def State.pickTest (s : State) : State :=
  match s.pickTarget with
  | none => s
  | some x =>
    { s with
      feed.pick := .picking, feed.pickOut := true, feed.retries := s.prof.pickRetries
      track.pickCandidate := some x, track.pickTimer := .running s.prof.pickAllowance }

/-! ### TRAY and DEMAND (R116, R117) -/

def trayOf (empty : Bool) : TrayState := if empty then .empty else .loaded

/-- 07 R117: at RUN entry the free slots are reported as they stand. -/
def State.demandAtEntry (s : State) : State :=
  if s.hasRole .feed then
    let n := s.freeSlots s.own
    let t := s.queueFrame (.demand n)
    { t with feed.crossing := if s.prof.demandThreshold ≤ n then .spent else .armed }
  else s

/-- 07 R117: the crossing test of a roster change. -/
def State.demandCrossing (s : State) : State :=
  if s.hasRole .feed && livePath s.path then
    let n := s.freeSlots s.own
    if n < s.prof.demandThreshold then { s with feed.crossing := .armed }
    else if s.feed.crossing == .armed && s.path == .run then
      let t := s.queueFrame (.demand n)
      { t with feed.crossing := .spent }
    else s
  else s

/-- 07 R115: ARRIVED with the picked flag for each picked sheet still ANNOUNCED here, in queue order. -/
def State.reportPicked (s : State) : State :=
  (s.track.queue.filter fun e => e.source == .pick &&
      (s.record e.serial).any fun r => r.stage == .announced && r.route.head? == some s.own).foldl
    (fun t e => t.queueFrame (.arrived e.serial true)) s

/-! ### The imaging marker (R122, R123) -/

/-- 07 R123: the effective sides imaged of a record. -/
def State.effectiveSides (s : State) (r : SheetRecord) : Nat :=
  r.sides + (s.imaging.passes.filter fun p => p.1 == r.serial).length

/-- 07 R123: the decision on PASS at a cover of the image zone (log 19 for a full outstanding pass list, log 52
for a serial and side that the list holds already). -/
def State.markPass (s : State) (x : Serial) : State :=
  match s.record x with
  | none => s
  | some r =>
    match r.pendingAt (s.effectiveSides r) with
    | none => s
    | some pass =>
      if Config.passListMax ≤ s.imaging.passes.length then s
      else
        let side := s.effectiveSides r + 1
        let t := s.queueFrame (.pass x side pass)
        if !s.txRoom then t
        else { t with
          imaging.isync := .running Config.isyncMs
          imaging.passes := if t.imaging.passes.contains (x, side) then t.imaging.passes else t.imaging.passes ++ [(x, side)] }

/-- 05 R81, 07 R123, R124: the imaging consequence of a cover of sensor k. -/
def State.imageCover (s : State) (k : Nat) (x : Serial) : State :=
  if s.hasRole .imaging && s.prof.imageZone == k && (s.path == .run || s.path == .resuming) then s.markPass x else s

end Sys2Proof.Machine
end

