-- ==== Sys2Proof/Machine/Survey.lean ====
section
/-! DEFINITION. The station's report and the opening of its survey (08 section 8.4). -/

namespace Sys2Proof.Machine

/-- 08 R132: a listed sheet as a SETLIST entry; the back page is 0 for a simplex sheet. -/
def SetSheet.entry (x : SetSheet) : SetEntry := { serial := x.serial, index := x.index, front := x.front, back := x.back.getD 0 }

/-- The pieces with the mark of the last one. -/
def markLast {α : Type} : List α → List (α × Bool)
  | [] => []
  | [a] => [(a, true)]
  | a :: b :: rest => (a, false) :: markLast (b :: rest)

/-- 08 R132: the open sets that have a listed sheet, in rising bin order. -/
def State.listedSets (s : State) : List (Nat × OpenSet) :=
  s.binNumbers.filterMap fun n =>
    if s.isFinishing n then
      match (s.bin n).openSet with
      | some o => if o.sheets.isEmpty then none else some (n, o)
      | none => none
    else none

/-- 08 R132: the SETLIST frames of one set list, four entries to a frame. -/
def setListFrames (n : Nat) (o : OpenSet) : List Payload :=
  (markLast (chunks 4 o.sheets.length (o.sheets.map SetSheet.entry))).map fun c => .setlist n o.job o.set c.1 c.2

/-- 05 R92, 08 R131: the report entries, occupancy entries first, unknown zones after them. -/
def State.holdings (s : State) : List ReportEntry :=
  (s.track.queue.map fun e =>
    { serial := some e.serial, zone := e.leadZone, straddle := e.source == .arrival && e.trailSensor == 1 : ReportEntry })
    ++ s.unknownZones.map fun k => { serial := none, zone := k, straddle := false }

/-- 08 R131: the HOLDING frames, six entries to a frame; one frame when there are none. -/
def State.holdingFrames (s : State) (sets : Nat) : List Payload :=
  let cs := chunks 6 s.holdings.length s.holdings
  (markLast (if cs.isEmpty then [[]] else cs)).map fun c =>
    .holding { restarted := s.recovery.restarted, final := c.2, purgeSpace := s.purgeSpace, openSets := sets, entries := c.1 }

/-- 08 R130: the report. -/
def State.report (s : State) : List Payload :=
  let sets := s.listedSets
  sets.flatMap (fun x => setListFrames x.1 x.2) ++ s.holdingFrames sets.length

/-- 08 R131: the desynchronised flag of a HOLDING is that of the moment it is queued. -/
def State.stamped (s : State) : Payload → Payload
  | .holding f => .holding { f with desync := s.link.outOfStep }
  | p => p

/-- 08 R130: report frames queued until one finds room; a frame that finds none is lost and the next one follows. -/
def State.sendReport (s : State) : List Payload → State
  | [] => { s with recovery.report := [] }
  | p :: ps =>
    if s.txRoom then
      let t := s.queueTagged .report (s.stamped p)
      { t with recovery.report := ps }
    else s.lose.sendReport ps

/-- 08 R129: the entry to SURVEY: the report is composed and its first frame queued, and the survey timer is loaded. -/
def State.enterSurvey (s : State) : State :=
  let t := { s with
    recovery.path := .survey, recovery.claim := .stopped, recovery.lineHeld := .stopped
    recovery.survey := .running (Config.surveyMs + Config.surveyRankMs * s.rank s.own) }
  t.sendReport t.report

/-- 08 R129: the survey opening: expected arrivals, pick candidate and marks are discarded (05 R77, 06 R108). -/
def State.openSurvey (s : State) : State :=
  let t := s.mapQueue fun e => { e with release := false, deferred := false }
  let u := { t with track.expected := [], track.pickCandidate := none }
  u.enterSurvey

/-- 08 R129: the three conditions are tested. -/
def State.surveyTest (s : State) : State :=
  if s.path == .stopping && (s.drive.state == .off || s.recovery.driveJam) && !s.lineIsLow && s.recovery.claim == .expired
  then s.openSurvey else s

end Sys2Proof.Machine
end

