-- ==== Sys2Proof/Machine/Drive.lean ====
section
/-! DEFINITION. DRIVE (04 section 4.1), the entry to RUN (03 R54, 11 R190), and what follows a change of the drive, of the
occupancy queue and of the roster in the other blocks. -/

namespace Sys2Proof.Machine

/-- 11 R190, 03 R55, 05 R93: the entry to RUN from RESUMING, with no test for out of step (log 60). -/
def State.runFromResuming (s : State) : State :=
  let t := { s with recovery.path := .run, table.presence := .running Config.presenceMs, track.attributing := true }
  let u := t.strayTest.reportPicked.demandAtEntry.pickTest
  u.divertForSheet.restartFinishing.resetFreeCounts.reevaluate.offerTest

/-- 04 R64: OFF is reached; the deferred offers are re-evaluated (06 R105) and the survey opening is tested (08 R129). -/
def State.driveOff (s : State) : State :=
  let t := { s with drive.state := .off, drive.halt := .stopped }
  t.reevaluate.surveyTest

/-- 04 R61: a spin starts when the request stands, the line is released and the door reads closed. -/
def State.spinTest (s : State) : State :=
  if s.drive.state == .off && s.driveRequest && !s.lineIsLow && !s.reads .door then
    let t := { s with drive.state := .spinning, drive.spin := .running Config.spinMs, drive.fresh := s.reads .drdy }
    t.reevaluate
  else s

/-- 04 R62..R65: HALTING is entered; the pick ends (07 R114); the halt is over at once when DRDY reads low (R64). -/
def State.driveHalt (s : State) : State :=
  let t := s.endPick
  let u := { t with drive.state := .halting, drive.spin := .stopped, drive.fresh := false, drive.halt := .running Config.haltMs }
  let v := u.reevaluate
  if s.reads .drdy then v else v.driveOff.spinTest

/-- 04 R60: the rules of the drive state applied to the request and the conditions as they now are. -/
def State.driveSync (s : State) : State :=
  match s.drive.state with
  | .off => s.spinTest
  | .spinning | .running => if s.driveRequest then s else s.driveHalt
  | .halting => s

/-- 04 R65: a stop line fall or a settled door open at DRIVE. -/
def State.driveForcedOff (s : State) : State :=
  match s.drive.state with
  | .spinning | .running => s.driveHalt
  | .off | .halting => s

/-- 04 R62: speed is acknowledged; RESUMING ends (11 R189), and in RUN a pick may be issued (07 R113). -/
def State.driveRunning (s : State) : State :=
  let t := { s with drive.state := .running, drive.spin := .stopped }
  if t.path == .resuming then t.runFromResuming
  else t.reevaluate.pickTest

/-- 09 R158: the drive need re-evaluated, and DRIVE with it. -/
def State.needTest (s : State) : State :=
  if s.path == .runout then
    let t := { s with recovery.driveNeed := s.driveNeeded }
    t.driveSync
  else s

/-- What follows a change of the occupancy queue since `before` (05 R76, R84; 06 R105; 07 R113; 09 R158; 10 R170). -/
def State.occupancyChanged (before s : State) : State :=
  let t := (State.endHold before s.gateFollow).needTest
  t.reevaluate.ejectStart.pickTest

/-- 07 R115: in RUN, the pick ends when the roster no longer holds the pick candidate. -/
def State.dropPick (s : State) : State :=
  if s.path == .run && s.track.pickCandidate.any fun x => (s.record x).isNone then
    let t := s.endPick
    { t with track.pickCandidate := none }
  else s

/-- 07 R115: in RUN and RESUMING, entries of source PICK left without a record are removed and their lead zones are strays. -/
def State.dropEntries (s : State) : State :=
  if s.path == .run || s.path == .resuming then
    let gone := s.track.queue.filter fun e => e.source == .pick && (s.record e.serial).isNone
    if gone.isEmpty then s else
      let t := { s with track.queue := s.track.queue.filter fun e => !(e.source == .pick && (s.record e.serial).isNone) }
      State.occupancyChanged s (gone.foldl (fun u e => u.strayCover e.leadZone) t)
  else s

/-- 01 R18: what follows a roster change (06 R105, 07 R113, R115, R117). -/
def State.rosterChanged (s : State) : State :=
  if s.hasRole .feed then s.dropPick.dropEntries.reevaluate.demandCrossing.pickTest
  else s.reevaluate

/-- 04 R70: the DOOR jam at RUN entry from the roll call. -/
def State.doorTest (s : State) : State := if s.reads .door then s.detect .door 0 none else s

/-- 05 R87, 10 R172: STRAY with zone 0 and the tray stray mark for each set tray that reads a sheet at RUN entry. -/
def State.trayStrayTest (s : State) : State :=
  if s.hasRole .exit then
    (s.binNumbers.filter fun n => s.reads (.sett n)).foldl
      (fun t n => (t.setBin n fun b => { b with trayStray := true }).detect .stray 0 none) s
  else s

/-- 03 R56: the silence timers of the present positions other than the station's own, loaded. -/
def State.loadSilence (s : State) : State :=
  s.mapEntries fun p e => if e.presence == .present && p != s.own then { e with silence := .running Config.silenceMs } else e

/-- 03 R56: at a fall the timers are reloaded that a PEER_LOST has not stopped (log 23). -/
def State.reloadSilence (s : State) : State :=
  s.mapEntries fun p e =>
    if e.presence == .present && p != s.own && e.silence != .stopped then { e with silence := .running Config.silenceMs } else e

/-- 07 R116: TRAY at RUN entry from the roll call. -/
def State.trayAtEntry (s : State) : State := if s.hasRole .feed then s.queueFrame (.tray s.feed.tray) else s

/-- 02 R35: a station out of step since the roll call detects it at RUN entry. -/
def State.desyncTest (s : State) : State := if s.link.outOfStep then s.detect .desync 0 none else s

/-- 03 R54: the entry to RUN from the roll call. The manual gives the detections made at it no order; the model tests DESYNC, then
STRAY for each zone, then for each set tray, then DOOR, and the first detected takes the reserved slot (log 56). -/
def State.runFromRollCall (s : State) : State :=
  let t := { s with
    recovery.path := .run, recovery.epoch := 0, table.presence := .running Config.presenceMs
    table.rollCall := .stopped, table.joinDelay := .stopped, track.attributing := true }
  let u := t.loadSilence.resetFreeCounts.desyncTest.strayTest.trayStrayTest.doorTest.demandAtEntry.trayAtEntry
  u.driveSync.offerTest

end Sys2Proof.Machine
end

