-- ==== Sys2Proof/Machine/Fates.lean ====
section
/-! DEFINITION. The fate computation (09 R145..R156) and its recomputation after a REVISION (11 R180). -/

namespace Sys2Proof.Machine

/-- 05 R90: the kinds of physical jams. -/
def JamEntryKind.physical : JamEntryKind → Bool
  | .jam k => match k with
    | .late | .stall | .short | .blocked | .stray | .misfeed => true
    | _ => false
  | _ => false

/-! ### Reports (R145) -/

/-- 08 R136: the report of a position; an absent one has none. -/
def State.positionReport (s : State) (p : Pos) : PosReport :=
  ((s.recovery.record.reports.find? fun r => r.pos == p && !s.isAbsent r.pos)).getD { pos := p }

/-- The unknown zones of the revision list at a position (11 R180). -/
def State.revisedZones (s : State) (p : Pos) : List Nat :=
  s.recovery.revisions.filterMap fun v => match v with | .unknown q z => if q == p then some z else none | .removed _ => none

/-- The serials of the revision list (11 R180). -/
def State.revisedSerials (s : State) : List Serial :=
  s.recovery.revisions.filterMap fun v => match v with | .removed x => some x | .unknown _ _ => none

/-- The report entries of a position, the revision list's unknown zones among them. -/
def State.entriesAt (s : State) (p : Pos) : List ReportEntry :=
  (s.positionReport p).entries ++ (s.revisedZones p).map fun z => { serial := none, zone := z, straddle := false }

def State.reportOf (s : State) (p : Pos) (x : Serial) : Option ReportEntry :=
  (s.positionReport p).entries.find? fun e => e.serial == some x

/-- R145: the positions whose report of the record counts. -/
def State.reporters (s : State) (r : SheetRecord) : List Pos :=
  match r.stage with
  | .announced => r.route.head?.toList
  | .fed => r.holder.toList ++ (s.nextStation r).toList

/-- R145: the reports that count, for the records as they stand at the survey close. -/
def State.countReports (s : State) : State :=
  { s with recovery.fates.counted := s.roster.records.flatMap fun r => (s.reporters r).map fun p => (r.serial, p) }

/-- R145: the entry named, at the survey close, no record, or a record for which a report from `p` does not count. A recomputation
reads the same (11 R180, log 54). -/
def State.foreign (s : State) (p : Pos) (x : Serial) : Bool := !s.recovery.fates.counted.contains (x, p)

/-! ### Step 1: where each sheet rests (R145) -/

/-- What the computation holds of one record: its detail, and its fate once a step has given one. -/
structure FateRow where
  sheet : SheetRecord := {}
  d : FateDetail := {}
  fate : Option Fate := none
deriving DecidableEq, Repr, Inhabited

/-- R145, the route index at the next station. -/
def SheetRecord.nextIndex (r : SheetRecord) : Nat := if r.purging then r.routeIndex else r.routeIndex + 1

/-- R145 for one record, from the reports. -/
def State.place (s : State) (r : SheetRecord) : FateDetail :=
  let base : FateDetail := { serial := r.serial }
  let at_ := fun (p : Pos) (i : Nat) (e : ReportEntry) => some ({ station := p, routeIndex := i, zone := some e.zone } : Rest)
  match r.stage with
  | .announced =>
    match r.route.head?.bind fun p => (s.reportOf p r.serial).map fun e => (p, e) with
    | some (p, e) => { base with picked := true, rest := at_ p 1 e }
    | none => { base with tray := true }
  | .fed =>
    let byHolder := r.holder.bind fun h => (s.reportOf h r.serial).map fun e => (h, e)
    let byNext := (s.nextStation r).bind fun n => (s.reportOf n r.serial).map fun e => (n, e)
    match byHolder, byNext with
    | some (h, e), none => { base with rest := at_ h r.routeIndex e }
    | none, some (n, e) => { base with rest := at_ n r.nextIndex e }
    | some (h, _), some (n, e) =>
      if e.straddle then
        { base with straddling := true
                    rest := if s.classIs h .holds && s.classIs n .holds then at_ n r.nextIndex e else none }
      else base
    | none, none => base

/-- 11 R180: where a recomputation finds the sheet: where the results in force placed it, but for a PARK sheet parked at its
target, which rests there (log 31). -/
def State.placeAgain (s : State) (r : SheetRecord) : FateDetail :=
  let d := (s.detail r.serial).getD { serial := r.serial, tray := r.stage == .announced }
  let kept : FateDetail :=
    { serial := r.serial, tray := d.tray, picked := d.picked, straddling := d.straddling, rest := d.rest }
  if r.fate == some .park && d.parkTarget.isSome && r.holder == d.parkTarget then
    { kept with straddling := false, rest := r.holder.map fun h => { station := h, routeIndex := r.routeIndex, zone := none } }
  else kept

/-! ### LOST by physical condition (R146) -/

/-- R146, first condition, and the removed serials of the revision list (11 R180). -/
def State.namedLost (s : State) (x : Serial) : Bool :=
  (s.recovery.jams.any fun j => j.kind.physical && j.named.contains x) || s.revisedSerials.contains x

/-- The stations after the resting station on the sheet's way: its purge path, or the rest of its route. -/
def State.wayAfter (s : State) (r : SheetRecord) (rest : Rest) : List Pos :=
  if r.purgeRouted then s.purgeAfter rest.station else r.route.drop rest.routeIndex

/-- `ps` up to and including the first of which `p` holds. -/
def upTo (p : Pos → Bool) : List Pos → List Pos
  | [] => []
  | a :: as => if p a then [a] else a :: upTo p as

/-- R146: the first run-out path. -/
def State.firstRunout (s : State) (r : SheetRecord) (rest : Rest) : List Pos :=
  if r.purgeRouted then s.purgeAfter rest.station else upTo (s.classIs · .holds) (r.route.drop rest.routeIndex)

/-- R146, the first to the sixth conditions. -/
def State.lostAtRest (s : State) (r : SheetRecord) (d : FateDetail) : Bool :=
  !d.tray &&
    (s.namedLost r.serial ||
      match d.rest with
      | none => true
      | some rest => s.classIs rest.station .mustRemove
          || (s.wayAfter r rest).any s.isAbsent
          || (d.picked && !s.classIs rest.station .holds))

/-- R146: station `q` is obstructed for a path that ends at `last`, given the records LOST by the first six conditions. -/
def State.obstructed (s : State) (lost : List Serial) (last : Option Pos) (q : Pos) : Bool :=
  let es := s.entriesAt q
  (s.classIs q .clearsDown && es.any fun e => match e.serial with
      | none => true
      | some x => s.foreign q x || lost.contains x)
    || (s.classIs q .holds && last != some q && !es.isEmpty)

/-- R146, seventh condition: a run-out path from `start` is unusable. -/
def State.unusable (s : State) (lost : List Serial) (start : Pos) (path : List Pos) : Bool :=
  path.any (fun q => s.classIs q .mustRemove || s.isAbsent q) || (start :: path).any (s.obstructed lost path.getLast?)

/-- Step 1 for every record: its detail, and LOST where R146 gives it. -/
def State.step1 (s : State) (again : Bool) : List FateRow :=
  let rows := s.roster.records.map fun r => ({ sheet := r, d := if again then s.placeAgain r else s.place r } : FateRow)
  let lost := (rows.filter fun w => s.lostAtRest w.sheet w.d).map (·.sheet.serial)
  rows.map fun w =>
    let gone := lost.contains w.sheet.serial || (!w.d.tray && w.d.rest.any fun rest =>
      s.classIs rest.station .clearsDown && s.unusable lost rest.station (s.firstRunout w.sheet rest))
    if gone then { w with fate := some .lost } else w

/-- The records LOST by the first six conditions, as the later tests of R146's seventh condition read them. -/
def State.lostFirst (s : State) (rows : List FateRow) : List Serial :=
  (rows.filter fun w => s.lostAtRest w.sheet w.d).map (·.sheet.serial)

/-! ### Step 2: horizons and forfeits (R147) -/

/-- The destinations, each once, of the records LOST in step 1 that are not purge-routed. -/
def lostDestinations (rows : List FateRow) : List (Pos × Nat) :=
  ((rows.filter fun w => w.fate == some .lost && !w.sheet.purgeRouted).map fun w => (w.sheet.exit, w.sheet.bin)).eraseDups

/-- R147: the set of an exit station's complete set list that the horizon record's destination forfeits. The sets that the
run-out account already holds are not taken again (log 36). -/
def State.forfeitOf (s : State) (exit : Pos) (bin : Nat) (h : SheetRecord) : Option ForfeitedSet :=
  match s.summaryOf exit, (s.positionReport exit).sets.find? fun x => x.bin == bin && x.complete with
  | some m, some l =>
    if bin != 0 && m.bins[bin - 1]? == some .finishing && m.policy == .forfeit && l.job == h.job && l.set == h.set
        && !s.recovery.account.ejected.any fun f => f.exit == exit && f.bin == bin && f.job == l.job && f.set == l.set
    then some { exit := exit, bin := bin, job := l.job, set := l.set, media := h.media, entries := l.entries } else none
  | _, _ => none

/-- R147: the horizon moved back to the first entry of a set when that precedes it. -/
def backTo (f : ForfeitedSet) (x : Serial) : Serial :=
  match f.entries.head? with
  | some e => if precedes e.serial x then e.serial else x
  | none => x

/-- R147 for one destination: its horizon and the set it forfeits. -/
def State.horizonAt (s : State) (rows : List FateRow) (dest : Pos × Nat) : Option (Horizon × Option ForfeitedSet) :=
  let lost := rows.filter fun w => w.fate == some .lost && !w.sheet.purgeRouted && (w.sheet.exit, w.sheet.bin) == dest
  match earliest (lost.map (·.sheet.serial)) with
  | none => none
  | some x =>
    let forfeit := (lost.find? fun w => w.sheet.serial == x).bind fun w => s.forfeitOf dest.1 dest.2 w.sheet
    let y := match forfeit with | some f => backTo f x | none => x
    let ejected := s.recovery.account.ejected.filter fun f => f.exit == dest.1 && f.bin == dest.2
    some ({ exit := dest.1, bin := dest.2, serial := ejected.foldl (fun a f => backTo f a) y }, forfeit)

/-- R147: the forfeited sets that run-out has already ejected. -/
def State.ejectedSets (s : State) : List ForfeitedSet :=
  s.recovery.account.ejected.map fun f => { f with eject := true, ejected := true, complete := true }

def horizonOf (hs : List Horizon) (r : SheetRecord) : Option Serial :=
  if r.purgeRouted then none else (hs.find? fun h => h.exit == r.exit && h.bin == r.bin).map (·.serial)

/-- R148: the sheet follows the horizon. -/
def follows (hs : List Horizon) (r : SheetRecord) : Bool := (horizonOf hs r).any fun h => atOrAfter h r.serial

/-! ### Steps 3 and 4 (R148, R149) -/

/-- R143: the EXIT station that ends the purge path of a station. -/
def State.purgeExitOf (s : State) (p : Pos) : Option Pos := (s.mapOf p).purgePath.bind List.getLast?

/-- R148, R151: a held purge, LOST when its purge path crosses an absent station. -/
def State.heldPurge (s : State) (rest : Rest) (w : FateRow) : FateRow :=
  if (s.purgeAfter rest.station).any s.isAbsent then { w with fate := some .lost }
  else { w with fate := some .purge, d := { w.d with purgeExit := s.purgeExitOf rest.station } }

/-- R148: a record resting in a HOLDS segment. -/
def State.step3 (s : State) (hs : List Horizon) (rest : Rest) (w : FateRow) : FateRow :=
  if w.sheet.purgeRouted then s.heldPurge rest w
  else if !follows hs w.sheet then { w with fate := some .keep }
  else if w.sheet.sides = 0 then { w with fate := some .release }
  else s.heldPurge rest w

/-- R149: a moving sheet given its fate and its run-out path. -/
def FateRow.move (w : FateRow) (f : Fate) (path : List Pos) (target : Option Pos) (purgeExit : Option Pos) : FateRow :=
  { w with fate := some f
           d := { w.d with moving := true, runPath := path, parkTarget := target, purgeExit := purgeExit } }

/-- R149: a record resting in a CLEARS_DOWN segment; after a REVISION it is LOST instead (11 R180). -/
def State.step4 (s : State) (again : Bool) (hs : List Horizon) (lost : List Serial) (rest : Rest) (w : FateRow) : FateRow :=
  let first := s.firstRunout w.sheet rest
  if again then { w with fate := some .lost }
  else if w.sheet.purgeRouted then w.move .purge first none (s.purgeExitOf rest.station)
  else if !follows hs w.sheet then
    match first.getLast? with
    | some q => if s.classIs q .holds && q != w.sheet.exit then w.move .park first (some q) none else w.move .deliver first none none
    | none => w.move .deliver first none none
  else
    let path := s.purgeAfter rest.station
    if s.unusable lost rest.station path then { w with fate := some .lost }
    else w.move .purge path none (s.purgeExitOf rest.station)

def State.steps34 (s : State) (again : Bool) (hs : List Horizon) (lost : List Serial) (w : FateRow) : FateRow :=
  if w.fate.isSome || w.d.tray then w else
    match w.d.rest with
    | none => { w with fate := some .lost }
    | some rest =>
      if s.classIs rest.station .holds then s.step3 hs rest w
      else s.step4 again hs lost rest w

/-! ### Step 5: the reprint list (R150) -/

/-- R150, 11 R191: the plan entry of a record. -/
def SheetRecord.item (r : SheetRecord) : PlanEntryFields :=
  { replaced := r.serial, front := r.front, back := r.back.getD 0, job := r.job, set := r.set, idx := r.index, last := r.last
    duplex := r.duplex, media := r.media, exit := r.exit, bin := r.bin, reprintOf := r.reprintOf }

/-- R150: the plan entries of the sheets of a forfeited set. -/
def ForfeitedSet.items (f : ForfeitedSet) : List PlanEntryFields :=
  f.entries.map fun e =>
    { replaced := e.serial, front := e.front, back := e.back, job := f.job, set := f.set, idx := e.index, last := false
      duplex := e.back != (0 : Page), media := f.media, exit := f.exit, bin := f.bin }

/-- R150: no two items share a replaced serial; of several of one serial the first stands. -/
def onePerSerial : List PlanEntryFields → List PlanEntryFields
  | [] => []
  | e :: es => e :: (onePerSerial es).filter fun f => f.replaced != e.replaced

/-- R150: the items, one for each replaced serial, in modular order of it. Of two items of one sheet that of its record stands
before that of the run-out account, and this before that of a set list (log 55). -/
def State.reprintItems (s : State) (rows : List FateRow) (sets : List ForfeitedSet) : List PlanEntryFields :=
  let listed := rows.filter fun w => !w.sheet.purgeRouted &&
    (w.fate == some .lost || w.fate == some .purge || w.fate == some .release)
  sortBySerial (·.replaced)
    (onePerSerial (listed.map (·.sheet.item) ++ s.recovery.account.purged ++ sets.flatMap ForfeitedSet.items))

/-- R150: the entries numbered from `i`, the last-entry flag on the last. -/
def numbered : Nat → List PlanEntryFields → List PlanEntryFields
  | _, [] => []
  | i, [e] => [{ e with index := i, carrier := none, lastEntry := true }]
  | i, e :: f :: rest => { e with index := i, carrier := none, lastEntry := false } :: numbered (i + 1) (f :: rest)

/-! ### Step 6: carriers (R151) -/

/-- R151: carriers bound to a prefix of the list, in serial order. -/
def bindCarriers : List SheetRecord → List PlanEntryFields → List PlanEntryFields
  | r :: rs, e :: es =>
    if r.media == e.media && r.duplex == e.duplex && r.exit == e.exit then
      { e with carrier := some r.serial } :: bindCarriers rs es
    else e :: es
  | _, es => es

def bound (es : List PlanEntryFields) (x : Serial) : Bool := es.any fun e => e.carrier == some x

/-- R151: a RELEASE record left unbound becomes a held purge. -/
def State.step6 (s : State) (es : List PlanEntryFields) (w : FateRow) : FateRow :=
  match w.fate, w.d.rest with
  | some .release, some rest => if bound es w.sheet.serial then w else s.heldPurge rest w
  | _, _ => w

/-! ### Step 7: purge space (R152) -/

/-- R152: a claim: its position, its size, and the set when it is a set's. -/
structure PurgeClaim where
  serial : Serial := 0
  size : Nat := 0
  set : Option Nat := none
deriving DecidableEq, Repr, Inhabited

/-- R152: the claims that fit, taken in order against the space that remains. -/
def fitting : Nat → List PurgeClaim → List PurgeClaim
  | _, [] => []
  | space, c :: cs => if c.size ≤ space then c :: fitting (space - c.size) cs else fitting space cs

/-- R152: the claims at an EXIT station that fit its purge space. -/
def State.fittingAt (s : State) (rows : List FateRow) (sets : List ForfeitedSet) (exit : Pos) : List PurgeClaim :=
  let sheets := (rows.filter fun w => w.fate == some .purge && w.d.purgeExit == some exit).map fun w =>
    ({ serial := w.sheet.serial, size := 1 } : PurgeClaim)
  let lists := (sets.filter fun f => f.exit == exit && !f.ejected).map fun f =>
    ({ serial := ((f.entries.head?).map (·.serial)).getD 0, size := f.entries.length, set := some f.bin } : PurgeClaim)
  fitting (s.positionReport exit).purgeSpace (sortBySerial (·.serial) (sheets ++ lists))

/-- R152: a PURGE record whose claim does not fit is LOST where it rests. -/
def State.step7 (s : State) (rows : List FateRow) (sets : List ForfeitedSet) (w : FateRow) : FateRow :=
  if w.fate == some .purge then
    let fits := w.d.purgeExit.any fun x => (s.fittingAt rows sets x).any fun c => c.set.isNone && c.serial == w.sheet.serial
    if fits then w else { w with fate := some .lost, d := { w.d with moving := false, runPath := [], purgeExit := none } }
  else w

/-- R152: the mark EJECT of a forfeited set of the survey whose claim fits; STAY after a REVISION (11 R180). -/
def State.ejectMark (s : State) (again : Bool) (rows : List FateRow) (sets : List ForfeitedSet) (f : ForfeitedSet) : ForfeitedSet :=
  if f.ejected then f
  else { f with eject := !again && (s.fittingAt rows sets f.exit).any fun c => c.set == some f.bin }

/-! ### Step 8 and the escalated fates (R153, R154) -/

/-- R153: a tray record is kept, and withdrawn when its destination has a horizon. -/
def step8 (hs : List Horizon) (w : FateRow) : FateRow :=
  if w.d.tray then { w with fate := some .keep, d := { w.d with withdrawn := (horizonOf hs w.sheet).isSome } } else w

/-- R154: the escalated fate of a record. -/
def escalatedRow (w : FateRow) : FateRow :=
  if w.d.tray then { w with fate := some .keep, d := { w.d with withdrawn := true } } else { w with fate := some .lost }

/-- R154: every set list of the survey record, marked STAY. -/
def State.escalatedSets (s : State) : List ForfeitedSet :=
  (s.recovery.record.reports.filter fun r => !s.isAbsent r.pos).flatMap fun r =>
    (r.sets.filter fun l => !s.recovery.account.ejected.any fun f => f.exit == r.pos && f.bin == l.bin && f.job == l.job
        && f.set == l.set).map fun l => { exit := r.pos, bin := l.bin, job := l.job, set := l.set, entries := l.entries }

/-! ### Clearing lists and the digest (R155, R156) -/

/-- R155: the clearing list of a station. -/
def State.clearingAt (s : State) (rows : List FateRow) (sets : List ForfeitedSet) (p : Pos) : List ClearItem :=
  ((s.entriesAt p).filterMap fun e =>
    match e.serial with
    | none => some (.unknown e.zone)
    | some x =>
      if s.foreign p x then some (.foreign x e.zone)
      else if rows.any fun w => w.sheet.serial == x && w.fate == some .lost then some (.lost x e.zone)
      else none)
    ++ (sets.filter fun f => f.exit == p && !f.eject).map fun f => .stay f.bin

def Fate.code (f : Fate) (withdrawn : Bool) : Byte :=
  match f with
  | .keep => if withdrawn then 7 else 1
  | .park => 2
  | .deliver => 3
  | .purge => 4
  | .release => 5
  | .lost => 6

/-- R156: the digest over the fates, the carriers and the entry count; over the count 0 alone in an escalated recovery. -/
def digestOf (escalated : Bool) (rows : List FateRow) (es : List PlanEntryFields) : Crc :=
  if escalated then crc16 [0]
  else crc16
    ((rows.flatMap fun w => be16 w.sheet.serial ++ [Fate.code (w.fate.getD .keep) w.d.withdrawn])
      ++ (es.flatMap fun e => match e.carrier with | some c => be16 c ++ [BitVec.ofNat 8 e.index] | none => [])
      ++ [BitVec.ofNat 8 es.length])

/-! ### The whole computation (R143) -/

/-- R153: the withdrawn count and the first withdrawn serial. -/
def withdrawnOf (rows : List FateRow) : Nat × Serial :=
  let ws := rows.filter fun w => w.d.withdrawn
  (ws.length, ((ws.head?).map (·.sheet.serial)).getD 0)

/-- The fate results from finished rows. -/
def State.results (s : State) (rows : List FateRow) (hs : List Horizon) (sets : List ForfeitedSet) (es : List PlanEntryFields)
    (omitted : List PlanEntryFields) : FateResults :=
  { details := rows.map (·.d), counted := s.recovery.fates.counted, horizons := hs, forfeited := sets, reprint := es, omitted := omitted.length
    firstOmitted := ((omitted.head?).map (·.front)).getD 0, withdrawn := (withdrawnOf rows).1
    firstWithdrawn := (withdrawnOf rows).2
    clearing := s.presentList.flatMap fun p => (s.clearingAt rows sets p).map fun c => (p, c)
    digest := some (digestOf s.recovery.escalated rows es) }

/-- R154: the results of an escalated recovery. -/
def State.escalatedResults (s : State) (again : Bool) : List FateRow × FateResults :=
  let rows := (s.step1 again).map fun w => escalatedRow { w with fate := none }
  let sets := s.escalatedSets ++ s.ejectedSets
  (rows, s.results rows [] sets [] (s.reprintItems rows sets))

/-- R145..R153: the results of steps 1 to 8. -/
def State.steppedResults (s : State) (again : Bool) : List FateRow × FateResults :=
  let rows1 := s.step1 again
  let found := (lostDestinations rows1).filterMap (s.horizonAt rows1)
  let hs := found.map (·.1)
  let sets := found.filterMap (·.2) ++ s.ejectedSets
  let rows4 := rows1.map (s.steps34 again hs (s.lostFirst rows1))
  let items := s.reprintItems rows4 sets
  let es := bindCarriers ((rows4.filter fun w => w.fate == some .release).map (·.sheet)) (numbered 1 (items.take Config.reprintMax))
  let rows6 := rows4.map (s.step6 es)
  let claims := if again then sets.filter (·.ejected) else sets
  let rows7 := rows6.map (s.step7 rows6 claims)
  let rows8 := rows7.map (step8 hs)
  (rows8, s.results rows8 hs (sets.map (s.ejectMark again rows6 claims)) es (items.drop Config.reprintMax))

/-- The fate computation at a survey close (`again` clear) or after a REVISION (`again` set). -/
def State.computeFates (s : State) (again : Bool) : List FateRow × FateResults :=
  if s.recovery.escalated then s.escalatedResults again else s.steppedResults again

/-- R143, 01 R21: the results replace the previous ones whole, and every record takes its fate. -/
def State.storeFates (s : State) (again : Bool) : State :=
  let c := (if again then s else s.countReports).computeFates again
  { s with
    roster.records := c.1.map fun w => { w.sheet with fate := some (w.fate.getD .keep) }
    recovery.fates := c.2 }

end Sys2Proof.Machine
end

