-- ==== Sys2Proof/Machine/Elapse.lean ====
section
/-! DEFINITION. The passing of time on every timer that runs, the events that fall due, and what an event at the end of a timer
or of a settling time makes of the time it still had (log 1, 3). -/

namespace Sys2Proof.Machine

/-! ### Time passing, block by block -/

def State.passTable (s : State) (n : Nat) : Table :=
  { s.table with
    listen := s.table.listen.pass n s.listenRuns
    rollCall := s.table.rollCall.pass n (s.path == .rollcall)
    joinDelay := s.table.joinDelay.pass n (s.path == .rollcall)
    presence := s.table.presence.pass n (livePath s.path)
    entries := s.table.entries.map fun e => { e with silence := e.silence.pass n (livePath s.path) } }

/-- 05 R83, R85: the time since the trail timer was loaded is real time (log 12). -/
def State.passEntry (s : State) (n : Nat) (e : Entry) : Entry :=
  { e with
    lead := e.lead.pass n (s.entryRuns e.serial)
    trail := e.trail.pass n (s.entryRuns e.serial)
    trailAge := if livePath s.path then e.trailAge + n else e.trailAge }

def State.passTrack (s : State) (n : Nat) : Tracker :=
  { s.track with
    queue := s.track.queue.map (s.passEntry n)
    expected := s.track.expected.map fun i => { i with timer := i.timer.pass n (s.paced i.serial) }
    pickTimer := s.track.pickTimer.pass n (s.path == .run) }

def State.passHandoff (s : State) (n : Nat) : Handoff :=
  { s.handoff with
    offers := s.handoff.offers.map fun o =>
      { o with answer := o.answer.pass n s.offersRun, reoffer := o.reoffer.pass n s.offersRun } }

def State.passExit (s : State) (n : Nat) : ExitUnit :=
  { s.exit with bins := s.exit.bins.map fun b => { b with finish := b.finish.pass n (movingPath s.path) } }

def State.passDrive (s : State) (n : Nat) : Drive := { s.drive with spin := s.drive.spin.tick n, halt := s.drive.halt.tick n }

def State.passRecovery (s : State) (n : Nat) : Recovery :=
  { s.recovery with
    claim := s.recovery.claim.pass n (livePath s.path)
    lineHeld := s.recovery.lineHeld.pass n (livePath s.path)
    survey := s.recovery.survey.pass n (livePath s.path) }

/-- `n` ms pass on every timer that runs in the present state. -/
def State.elapse (s : State) (n : Nat) : State :=
  { s with
    profileTimer := s.profileTimer.tick n
    inputs := s.inputs.pass n
    table := s.passTable n
    track := s.passTrack n
    handoff := s.passHandoff n
    imaging := { s.imaging with isync := s.imaging.isync.tick n }
    exit := s.passExit n
    drive := s.passDrive n
    recovery := s.passRecovery n }

/-- The end of a timer: when it runs (`runs`), the time it still has passes and `k` follows; else nothing happens (log 2, 3). -/
def State.expire (s : State) (t : Timer) (runs : Bool) (k : State → State) : State :=
  match t with
  | .running r => if runs then k (s.elapse r) else s
  | _ => s

/-- 04 R69: a settled edge of input `id` to `level`: when that change is settling, its time passes, the settled level is taken
and `k` follows; else nothing happens (log 2, 3). -/
def State.settle (s : State) (id : InputId) (level : Bool) (k : State → State) : State :=
  match (s.inputs.line id).edgeIn level with
  | none => s
  | some r =>
    if s.settles id then
      let t := s.elapse r
      k { t with inputs := t.inputs.setLine id { t.inputs.line id with settled := level, settling := .stopped } }
    else s

/-! ### Events that fall due (log 1) -/

/-- The receipt that takes a frame from the head of the receive queue. -/
def receiptOf : Payload → Instr
  | .join _ _ => .joinReceipt
  | .presence _ _ => .presenceReceipt
  | .intent _ => .intentReceipt
  | .refused _ _ => .refusedReceipt
  | .withdraw _ => .withdrawReceipt
  | .demand _ => .demandReceipt
  | .tray _ => .trayReceipt
  | .offer _ _ _ _ => .offerReceipt
  | .accept _ _ _ => .acceptReceipt
  | .defer _ _ _ _ => .deferReceipt
  | .arrived _ _ => .arrivedReceipt
  | .pass _ _ _ => .passReceipt
  | .delivered _ _ => .deliveredReceipt
  | .setDone _ _ _ _ => .setDoneReceipt
  | .jam _ _ _ => .jamReceipt
  | .halt => .haltReceipt
  | .holding _ => .holdingReceipt
  | .setlist _ _ _ _ _ => .setlistReceipt
  | .close _ => .closeReceipt
  | .ready _ _ => .readyReceipt
  | .revision _ => .revisionReceipt
  | .plan _ => .planReceipt
  | .planEntry _ => .planEntryReceipt
  | .probe _ => .probeReceipt
  | .status _ => .statusReceipt

/-- The command of a settled edge. -/
def edgeCommand (id : InputId) (level : Bool) : List Instr :=
  match id, level with
  | .sensor 1, true => [.sensor1Cover]
  | .sensor k, true => [.sensorKCover k]
  | .sensor k, false => [.sensorUncover k]
  | .drdy, true => [.drdyRise]
  | .drdy, false => [.drdyFall]
  | .door, true => [.doorOpen]
  | .door, false => [.doorClose]
  | .tempty, _ => [.temptyChange]
  | .fdone n, true => [.fdoneRise n]
  | .sett n, false => [.setTrayFall n]
  | .pempty, true => [.pemptyRise]
  | .fdone _, false | .sett _, true | .pempty, false => []

def State.dueEdges (s : State) : List Instr :=
  allInputs.flatMap fun id =>
    let l := s.inputs.line id
    if s.settles id && l.edgeIn l.raw == some 0 then edgeCommand id l.raw else []

def dueIf (due : Bool) (c : Instr) : List Instr := if due then [c] else []

/-- 04 R69, R74: an input settles for the first time, whatever the others do. -/
def State.firstDue (s : State) : Bool :=
  allInputs.any fun id => (s.inputs.line id).first && (s.inputs.line id).settling.due

def State.dueTimers (s : State) : List Instr :=
  dueIf s.profileTimer.due .profileReadTimeout
    ++ dueIf (s.table.listen.due && s.listenRuns) .listenTimerExpiry
    ++ dueIf (s.table.joinDelay.due && s.path == .rollcall) .joinDelayExpiry
    ++ dueIf (s.table.rollCall.due && s.path == .rollcall) .rollCallClose
    ++ dueIf s.imaging.isync.due .isyncPulseEnd
    ++ dueIf s.drive.spin.due .spinTimerExpiry
    ++ dueIf s.drive.halt.due .haltTimerExpiry
    ++ (if livePath s.path then
          dueIf s.recovery.claim.due .claimWindowExpiry
            ++ dueIf s.recovery.lineHeld.due .lineHeldTimerExpiry
            ++ dueIf s.recovery.survey.due .surveyTimerExpiry
            ++ dueIf s.table.presence.due .presenceTimerExpiry
            ++ stations.flatMap fun p => dueIf (s.entry p).silence.due (.silenceTimerExpiry p)
        else [])
    ++ (s.track.queue.flatMap fun e =>
          if s.entryRuns e.serial then
            dueIf e.lead.due (.leadTimerExpiry e.serial) ++ dueIf e.trail.due (.trailTimerExpiry e.serial)
          else [])
    ++ (s.track.expected.flatMap fun i => dueIf (i.timer.due && s.paced i.serial) (.arrivalTimerExpiry i.serial))
    ++ dueIf (s.track.pickTimer.due && s.path == .run) .pickTimerExpiry
    ++ (if s.offersRun then s.handoff.offers.flatMap fun o =>
          dueIf o.answer.due (.answerTimerExpiry o.dest) ++ dueIf o.reoffer.due (.reOfferTimerExpiry o.dest)
        else [])
    ++ (if movingPath s.path then [1, 2, 3].flatMap fun n => dueIf (s.bin n).finish.due (.finishTimerExpiry n) else [])

/-- The events the station's own state makes due: the fall of its own pull, the receipt of the oldest frame, the edges and the
timers whose time has passed. -/
def State.dueEvents (s : State) : List Instr :=
  dueIf (s.pulling && !s.link.lineLow) .stopLineFall
    ++ (match s.link.rx with
        | [] => []
        | f :: _ => if s.path == .profileRead then [] else [receiptOf f.payload])
    ++ dueIf s.firstDue .firstSettling
    ++ s.dueEdges
    ++ s.dueTimers

/-- What the station does when no command waits: it queues the events that are due, or lets 1 ms pass (log 1). -/
def State.idle (s : State) : State :=
  if s.dueEvents.isEmpty then s.elapse 1 else { s with pending := s.pending ++ s.dueEvents }

end Sys2Proof.Machine
end

