-- ==== Sys2Proof/Machine/Recovery.lean ====
section
/-! DEFINITION. RECOVERY: stopping, the roster's phases, the jam list, the survey record, run-out, clearance, the vote, the plan
(chapters 8, 9 and 11), and the closed states (03 R45, R51, R58). -/

namespace Sys2Proof.Machine

/-! ### Closed states -/

/-- 03 R45, R51, R58, 04 R74: LINK empties its queues, the drive is held OFF, the outputs take their reset values, the diverter
is at home. -/
def State.enterClosed (s : State) (p : PathState) : State :=
  let t := s.emptyTx
  let u := { t with
    recovery.path := p
    drive := { div1 := s.prof.homeDiverter.1, div2 := s.prof.homeDiverter.2 }
    feed.pickOut := false
    imaging.isync := .stopped
    exit.bins := s.exit.bins.map fun b => { b with fin := false } }
  u

/-! ### Stopping (08 R126..R128) -/

/-- 08 R126, R128 and the table of 08 section 8.3: the entry to STOPPING with the station's epoch set to `epoch`. -/
def State.enterStopping (s : State) (epoch : Epoch) : State :=
  let t := s.withdrawRecovery
  let u := { t with
    recovery.path := .stopping, recovery.epoch := epoch
    recovery.claim := .running Config.claimMs, recovery.lineHeld := .running Config.lineHeldMs
    recovery.survey := .stopped, recovery.driveJam := false
    drive.gateHeld := true }
  u.parkAll.voidHandoffs.endPick.stopBins.reloadSilence.driveSync

/-! ### The roster's phases (01 R19, 08 R136, 11 R184) -/

/-- 01 R19, 08 R136, 11 R175, R184: what the opening of a recovery or of a new survey does to the replicated state. -/
def State.openRecovery (s : State) (epoch : Epoch) : State :=
  let t := s.mapEntries fun _ e => { e with holdingReceived := false, lastReady := none }
  { t with
    roster.epoch := epoch, roster.phase := .recovery, roster.stage := .open
    roster.records := s.roster.records.map fun r => { r with handoff := none }
    recovery.record := {}, recovery.firstDigest := none, recovery.planIn := {}
    recovery.resurvey := if s.recovery.resurvey == some epoch then s.recovery.resurvey else none }

/-- 01 R19, 08 R128, 11 R184: the receipt of a JAM, HALT or HOLDING of this header epoch, at the roster and at the epoch. -/
def State.applyEpoch (s : State) (epoch : Epoch) : State :=
  if epoch == s.roster.epoch then s
  else
    let t := s.openRecovery epoch
    match s.path with
    | .clearance | .plan => t.enterStopping epoch
    | .stopping => { t with recovery.epoch := epoch }
    | .run | .survey | .runout | .resuming => if s.recovery.epoch == epoch then t else t.enterStopping epoch
    | _ => t

/-- 03 R47: up to its first survey close, a restarted member takes the epoch of each such frame of another sender. -/
def State.followEpoch (s : State) (f : RxFrame) : State :=
  if s.recovery.following && f.sender != s.own then { s with recovery.epoch := f.epoch } else s

/-- 01 R19, 03 R47, 08 R128: a JAM, HALT or HOLDING at the roster and at the station's epoch. A restarted member catches up by both
rules: it enters STOPPING as R128 gives, and holds the frame's epoch as R47 gives (log 50). -/
def State.epochReceived (s : State) (f : RxFrame) : State := (s.applyEpoch f.epoch).followEpoch f

/-! ### The jam list (08 R133, R135) -/

/-- 08 R133: two entries of one epoch, kind and station. -/
def JamEntry.same (a b : JamEntry) : Bool := a.epoch == b.epoch && a.kind == b.kind && a.station == b.station

/-- 08 R133: the serials of `xs` added, none twice. -/
def addNames (have_ : List Serial) : List Serial → List Serial
  | [] => have_
  | x :: xs => addNames (if have_.contains x then have_ else have_ ++ [x]) xs

/-- 08 R133, R135: an entry made or merged; a full list refuses it and the recovery is escalated. -/
def State.addJam (s : State) (j : JamEntry) : State :=
  if s.recovery.jams.any (JamEntry.same j) then
    { s with recovery.jams := s.recovery.jams.map fun k =>
        if JamEntry.same j k then { k with named := addNames k.named j.named } else k }
  else if Config.jamMax ≤ s.recovery.jams.length then s.escalate
  else { s with recovery.jams := s.recovery.jams ++ [j] }

/-- 08 R133: the entry of a received JAM: its serial is a named sheet when its kind is physical. -/
def jamEntry (epoch : Epoch) (k : JamKind) (sender : Pos) (serial : Option Serial) : JamEntry :=
  { epoch := epoch, kind := .jam k, station := sender
    named := if (JamEntryKind.jam k).physical then serial.toList else [] }

/-- 08 R133: entered when the roster phase is RECOVERY and the epochs agree. -/
def State.enterJam (s : State) (j : JamEntry) : State :=
  if s.roster.phase == .recovery && j.epoch == s.roster.epoch then s.addJam j else s

/-! ### The survey record (08 R134, R137, R138) -/

/-- Change of a position's part of the survey record, made when it has none yet. -/
def State.setReport (s : State) (p : Pos) (f : PosReport → PosReport) : State :=
  let rs := s.recovery.record.reports
  { s with recovery.record.reports :=
      if rs.any (fun r => r.pos == p) then rs.map fun r => if r.pos == p then f r else r
      else rs ++ [f { pos := p }] }

/-- 08 R134: the two tests at the first HOLDING applied with a roster epoch, unless that epoch was stepped without a stop. -/
def State.stopTests (s : State) (lineLow : Bool) : State :=
  if s.recovery.record.seen then s else
    let e := s.roster.epoch
    let t := { s with recovery.record.seen := true }
    if s.recovery.resurvey == some e then t else
      let u := if lineLow then t.addJam { epoch := e, kind := .lineHeld } else t
      let reported := u.recovery.jams.any fun j => j.epoch == e && (match j.kind with | .jam _ | .halt => true | _ => false)
      if reported then u else u.addJam { epoch := e, kind := .unclaimed }

/-! ### READY, REVISION and the clear flag (11 R176..R181) -/

/-- 11 R176: the unknown zones of the station. -/
def State.ownUnknown (s : State) : List Nat :=
  (s.recovery.fates.clearing.filterMap fun c =>
    if c.1 == s.own then (match c.2 with | .unknown z => some z | _ => none) else none) ++ s.revisedZones s.own

/-- 11 R176. -/
def State.evaluateClear (s : State) : Bool :=
  !s.reads .door && !s.lineIsLow
    && !s.zones.any s.strayFlag
    && !s.track.queue.any (fun e => s.covered e.leadZone &&
        (match s.record e.serial with | none => true | some r => r.fate == some .lost))
    && !s.ownUnknown.any s.covered
    && !s.binNumbers.any s.awaitingRemoval

/-- 11 R181: the digest of the fate results in force; 0 when there are none (log 64). -/
def State.ownDigest (s : State) : Crc := s.recovery.fates.digest.getD 0

def State.readyFrame (s : State) : Payload := .ready s.recovery.clearFlag s.ownDigest

/-- 11 R181: a READY, in place of one still waiting; after the one in transmission when there is one. -/
def State.sendReady (s : State) : State :=
  if s.link.queue.any fun f => f.payload.isReady && !f.sending then
    { s with link.queue := s.link.queue.map fun f =>
        if f.payload.isReady && !f.sending then s.newFrame .plain s.readyFrame else f }
  else if s.link.queue.any fun f => f.payload.isReady then { s with recovery.readyNext := true }
  else s.queueFrame s.readyFrame

/-- 11 R181: no READY while revisions are pending. -/
def State.queueReady (s : State) : State :=
  if s.path == .clearance && s.recovery.pendingRevs.isEmpty then s.sendReady else s

/-- 11 R177: the clear flag evaluated and READY queued. -/
def State.evaluateReady (s : State) : State :=
  let t := { s with recovery.clearFlag := s.evaluateClear }
  t.queueReady

/-- 11 R178: the head of the pending revisions queued when no REVISION of the station waits or is in transmission. -/
def State.queueRevision (s : State) : State :=
  match s.recovery.pendingRevs with
  | [] => s
  | v :: _ =>
    if s.path == .clearance && !s.link.queue.any fun f => f.payload.isRevision then s.queueFrame (.revision v) else s

/-- 11 R178: the item is in the revision list. -/
def State.revised (s : State) : RevisionContent → Bool
  | .removed x => s.recovery.revisions.contains (.removed x)
  | .unknown z => s.recovery.revisions.contains (.unknown s.own z)

def SheetRecord.atRest (r : SheetRecord) : Bool :=
  r.fate == some .keep || r.fate == some .park || r.fate == some .release || r.fate == some .purge

/-- 11 R178: the findings of the two revision tests, the entries in queue order, then the zones in rising order (log 67). -/
def State.findings (s : State) : List RevisionContent :=
  (s.track.queue.filter fun e => (s.record e.serial).any SheetRecord.atRest && !s.covered e.leadZone).map
      (fun e => .removed e.serial)
    ++ (s.zones.filter fun k => s.unaccounted k && !s.ownUnknown.contains k).map RevisionContent.unknown

/-- 11 R177: the door-close evaluation. -/
def State.doorCloseEvaluation (s : State) : State :=
  let t := { s with track.strays := s.track.strays.mapIdx fun i b => b && s.covered (i + 1) }
  let u := { t with recovery.pendingRevs := t.recovery.pendingRevs ++
      t.findings.filter fun v => !t.recovery.pendingRevs.contains v && !t.revised v }
  u.queueRevision.evaluateReady

/-! ### The plan (11 R185) -/

/-- 11 R185: the outstanding passes of the records that the plan leaves in the roster. -/
def State.planPasses (s : State) : List Pass :=
  (s.roster.records.filter fun r =>
    r.fate != some .lost && r.fate != some .purge && !(s.detail r.serial).any (·.withdrawn)).flatMap SheetRecord.outstanding

/-- 11 R185: the first free pass. -/
def State.firstFreePass (s : State) : Pass :=
  match highestPass s.planPasses with
  | some p => passAfter p
  | none =>
    match highestPass (s.roster.records.flatMap fun r => r.frontPass :: r.backPass.toList) with
    | some p => passAfter p
    | none => 1

/-- 11 R185: a PLAN frame with this entry count. -/
def State.planFrame (s : State) (count : Nat) : PlanFields :=
  { count := count, omitted := s.recovery.fates.omitted, firstOmitted := s.recovery.fates.firstOmitted
    withdrawn := s.recovery.fates.withdrawn, firstWithdrawn := s.recovery.fates.firstWithdrawn
    firstFree := s.firstFreePass, absent := stations.filter s.isAbsent, escalated := s.recovery.escalated }

def State.planPayload (s : State) : PlanItem → Payload
  | .header => .plan (s.planFrame s.recovery.fates.reprint.length)
  | .entry e => .planEntry e
  | .final => .plan (s.planFrame 0)

/-- 11 R185: plan frames queued until one finds room; a frame that finds none is lost and the next one follows. -/
def State.sendPlan (s : State) : List PlanItem → State
  | [] => { s with recovery.planOut := [] }
  | i :: is =>
    if s.txRoom then
      let t := s.queueTagged .plan (s.planPayload i)
      { t with recovery.planOut := is }
    else s.lose.sendPlan is

/-- 11 R185: the frames of the plan. -/
def State.planItems (s : State) : List PlanItem :=
  if s.recovery.fates.reprint.isEmpty then [.final]
  else .header :: s.recovery.fates.reprint.map PlanItem.entry ++ [.final]

/-- 11 R182, R185: the entry to PLAN. -/
def State.enterPlan (s : State) : State :=
  let t := { s with recovery.path := .plan }
  if s.publishing == some s.own then t.sendPlan t.planItems else t

/-! ### The vote (11 R182) -/

/-- 03 R52: a restarted member that knows no position but its own. -/
def State.alone (s : State) : Bool := s.recovery.restarted && s.presentList.all (· == s.own)

/-- 11 R182: every present position's last READY is clear, of the clearance epoch, and carries the own digest. -/
def State.voteComplete (s : State) : Bool :=
  !s.alone && !s.presentList.isEmpty && s.presentList.all fun p =>
    (s.entry p).lastReady == some { clear := true, digest := s.ownDigest, epoch := s.recovery.clearanceEpoch }

def State.voteTest (s : State) : State :=
  if s.path == .clearance && s.recovery.fates.digest.isSome && s.voteComplete then s.enterPlan else s

/-! ### CLEARANCE (11 R175) -/

/-- 11 R175, R178, R182: what the station does in CLEARANCE at its entry and at a step of the clearance epoch. -/
def State.clearanceTests (s : State) : State :=
  if s.recovery.doorMark then
    let t := { s with recovery.doorMark := false }
    t.doorCloseEvaluation.voteTest
  else s.queueRevision.evaluateReady.voteTest

/-- 11 R175: the entry to CLEARANCE; the drive request is withdrawn. -/
def State.enterClearance (s : State) : State :=
  let t := { s with recovery.path := .clearance, recovery.driveNeed := false }
  t.driveSync.reevaluate.clearanceTests

/-- 09 R160: run-out is complete: handoffs are voided and contexts recorded afresh as at a fall (log 39 for the gate). -/
def State.runoutTest (s : State) : State :=
  if s.path == .runout && !s.runoutOutstanding then s.parkAll.gateFollow.voidHandoffs.enterClearance else s

/-- 09 R158, R160, 10 R170: what follows at a receipt that completes a moving sheet. -/
def State.completed (s : State) : State := s.needTest.ejectStart.runoutTest

/-- 09 R158, R160: what follows at a receipt that completes an ejection; no ejection is tested there (10 R170). -/
def State.setCompleted (s : State) : State := s.needTest.runoutTest

/-! ### The survey close and RUNOUT (08 R140, 09 R157, R159) -/

/-- 05 R85: the parked contexts of the run-out sheets restored. -/
def State.restoreRunout (s : State) : State :=
  s.mapQueue fun e => if (s.record e.serial).any SheetRecord.runout then e.restore else e

/-- 09 R159: ARRIVED for the moving sheets that coasted into this segment. -/
def State.reportCoasted (s : State) : State :=
  (s.track.queue.filter fun e => e.source == .arrival &&
      ((s.detail e.serial).any fun d => d.moving && d.rest.any fun r => r.station == s.own) &&
      (s.record e.serial).any fun r => r.holder.any (· != s.own)).foldl
    (fun t e => t.queueFrame (.arrived e.serial false)) s

/-- 09 R157: the entry to RUNOUT. -/
def State.enterRunout (s : State) : State :=
  let t := s.restoreRunout
  let u := { t with recovery.path := .runout, drive.gateHeld := false }
  let v := u.gateFollow.resetFreeCounts.reportCoasted.divertForSheet.needTest
  v.reevaluate.offerTest.ejectStart

/-- 08 R140, 11 R175: the survey closes. -/
def State.closeSurvey (s : State) : State :=
  let t := (s.withdrawFrames Payload.isClose).mapEntries fun _ e => { e with lastReady := none }
  let u := { t with
    roster.stage := .closed, recovery.survey := .stopped, recovery.following := false
    recovery.clearanceEpoch := s.roster.epoch, recovery.firstDigest := none }
  let v := u.storeFates false
  if v.path == .survey then (if v.runoutOutstanding then v.enterRunout else v.enterClearance) else v

/-! ### Absent positions (03 R57) -/

/-- 03 R57: the positions become absent and their silence timers end; the own position among them closes the station. -/
def State.strikeOut (s : State) (ps : List Pos) : State :=
  let t := s.mapEntries fun p e => if ps.contains p then { e with presence := .absent, silence := .stopped } else e
  if ps.contains s.own then t.enterClosed .silentAbsent else t

/-! ### The final PLAN frame (11 R187, R188) -/

/-- 11 R187, first: the record stays. -/
def State.staysInPlan (s : State) (r : SheetRecord) : Bool :=
  r.fate != some .lost && !(r.stage == .announced && (s.detail r.serial).any (·.withdrawn))

/-- 11 R187, second: custody goes to the resting station; a PARK sheet stays with its park target (log 16). -/
def State.planCustody (s : State) (r : SheetRecord) : SheetRecord :=
  match s.detail r.serial with
  | none => r
  | some d =>
    if r.fate == some .park && d.parkTarget.isSome && r.holder == d.parkTarget then r else
    match d.rest with
    | some rest =>
      if r.stage == .fed && r.holder != some rest.station then
        { r with holder := some rest.station, routeIndex := rest.routeIndex }
      else r
    | none => r

/-- 11 R187, third: a carrier takes its entry's pages. -/
def State.planCarrier (s : State) (r : SheetRecord) : SheetRecord :=
  if r.fate == some .release then
    match s.recovery.fates.reprint.find? fun e => e.carrier == some r.serial with
    | some e => { r with
        front := e.front, back := if r.duplex then some e.back else none, job := e.job, set := e.set, index := e.idx
        last := e.last, bin := e.bin, reprintOf := some e.replaced }
    | none => r
  else r

/-- 11 R187, fourth. -/
def planPurge (r : SheetRecord) : SheetRecord := if r.fate == some .purge then { r with purgeRouted := true } else r

/-- 11 R187: the roster's records after the plan, their fates still in place. -/
def State.planRecords (s : State) : List SheetRecord :=
  (s.roster.records.filter s.staysInPlan).map fun r => planPurge (s.planCarrier (s.planCustody r))

/-- 05 R93: the tracker's entries that the roster no longer holds leave. -/
def State.dropGone (s : State) : State :=
  { s with track.queue := s.track.queue.filter fun e => (s.record e.serial).isSome }

/-- 11 R189: the entry to RESUMING. -/
def State.enterResuming (s : State) : State :=
  let t := { s with recovery.path := .resuming, drive.gateHeld := false }
  (t.mapQueue Entry.restore).gateFollow.reevaluate.driveSync

/-- 11 R187, R188, 01 R22: the final PLAN frame, once its absent list is applied. The plan in progress
stays as it stood (log 65). -/
def State.applyFinalPlan (s : State) (epoch : Epoch) (f : PlanFields) : State :=
  let a := { s with roster.records := s.planRecords }
  let b := a.closeStaySets.dropGone
  let c := b.mapEntries fun _ e => { e with lastReady := none, restarted := false }
  let inStep := f.escalated && !c.link.lostSinceHolding
  let d := { c with
    roster.records := c.roster.records.map fun r => { r with fate := none }
    roster.phase := .normal, roster.stage := .notApplicable, roster.epoch := epoch, roster.planInForce := some f.firstFree
    recovery.jams := [], recovery.escalated := false, recovery.account := {}, recovery.fates := {}, recovery.revisions := []
    recovery.pendingRevs := [], recovery.firstDigest := none, recovery.mismatch := 0
    recovery.restarted := false, recovery.doorMark := false
    link.outOfStep := c.link.outOfStep && !inStep }
  let e := if d.path == .plan then d.enterResuming else d
  (State.occupancyChanged e e).rosterChanged

/-! ### Restarted members (03 R47) -/

/-- 03 R47: a running frame of header epoch `e` heard in LISTEN or ROLLCALL. The path map is computed from the own
entry alone (log 61). -/
def State.restart (s : State) (e : Epoch) : State :=
  let cleared := { s with table := { entries := List.replicate 16 {}, map := List.replicate 16 {},
                                     presence := .running Config.presenceMs } }
  let t := (cleared.setEntry s.own fun x => { x with presence := .present, summary := some s.prof.summary }).rebuildMap
  let u := { t with
    recovery.path := .stopping, recovery.epoch := if s.lineIsLow then e else e + 1
    recovery.restarted := true, recovery.following := true
    recovery.claim := .running Config.claimMs, recovery.lineHeld := .running Config.lineHeldMs
    recovery.driveJam := false, drive.gateHeld := true }
  u.loadSilence.detect .restart 0 none

end Sys2Proof.Machine
end

