-- ==== Sys2Proof/Machine/ResetEvents.lean ====
section
/-! DEFINITION. RESET, the profile read and the first settling (02 R41, 03 R43, 04 R74). -/

namespace Sys2Proof.Machine

/-- RESET: every block takes its reset values, with the pins' raw levels and the stop line's level as found (R41, R74). -/
def execReset (lineLow : Bool) (s : State) : Reply :=
  .next { State.resetWith s.inputs lineLow with pending := s.pending }

/-- 03 R45: the entry to SILENT. -/
def State.enterSilent (s : State) (crc : Crc) : State :=
  let t := s.enterClosed .silent
  { t with profileTimer := .stopped, profileCrc := crc }

/-- 10 R174: the purge count from the level of PEMPTY at its first settling, once both that and the profile are known (log 24). -/
def State.takePurgeCount (s : State) : State :=
  match s.exit.firstPempty with
  | some high => if s.hasRole .exit then { s with exit.purgeCount := if high then 0 else s.prof.purgeCapacity } else s
  | none => s

/-- 03 R43, R46, 07 R112: the entry to LISTEN after a good profile read. -/
def State.enterListen (s : State) (p : Profile) (crc : Crc) : State :=
  let t : State := { s with
    profile := some p, profileCrc := crc, profileTimer := .stopped
    link.rx := []
    recovery.path := .listen
    table.listen := .running Config.listenMs
    feed.retries := if p.role == .feed then p.pickRetries else 0
    feed.tray := if p.role == .feed then s.feed.tray else .empty
    handoff.offers := p.downstream.map fun d => { dest := d.1 } }
  (t.setDiverter p.homeDiverter).takePurgeCount

/-- The bytes of the record agree with their check value, and the record passes the tests (R43). -/
def goodProfile (r : ProfileRecord) (bytes : List Byte) (check : Crc) : Option Profile :=
  if crc16 bytes = check then checkProfile r else none

/-- PROFILE_READ_DONE (R43). -/
def execProfileReadDone (r : ProfileRecord) (bytes : List Byte) (check : Crc) (s : State) : Reply :=
  .next (if s.path == .profileRead then
      match goodProfile r bytes check with
      | some p => s.enterListen p check
      | none => s.enterSilent check
    else s)

/-- PROFILE_READ_TIMEOUT (R43): the memory has not acknowledged, or the 50 ms have passed. -/
def execProfileReadTimeout (s : State) : Reply :=
  .next (if s.path == .profileRead then s.enterSilent 0 else s)

/-- The time until the next input whose first settling is to come has held its level for 3 ms. -/
def State.firstTime (s : State) : Nat :=
  (allInputs.filter fun id => (s.inputs.line id).first).foldl
    (fun m id => min m (((s.inputs.line id).settling.remaining).getD 0)) Config.settleMs

/-- 04 R74: the settled level taken from the raw level, without an edge, once that level has held. -/
def InputLine.takeFirst (l : InputLine) : InputLine :=
  if l.first && l.settling.due then { l with settled := l.raw, settling := .stopped, first := false } else l

def Inputs.takeFirst (i : Inputs) : Inputs :=
  { sensors := i.sensors.map InputLine.takeFirst, drdy := i.drdy.takeFirst, door := i.door.takeFirst
    tempty := i.tempty.takeFirst, fdone := i.fdone.map InputLine.takeFirst, sett := i.sett.map InputLine.takeFirst
    pempty := i.pempty.takeFirst }

/-- 07 R112: the feed unit works, as far as is known: at a FEED station, and until the profile says that it is none. -/
def State.followsTray (s : State) : Bool := s.profile.isNone || s.hasRole .feed

/-- 07 R112: the tray state from the settled TEMPTY level; the closed states keep it. -/
def State.takeTray (s : State) : State :=
  if s.followsTray && !closedPath s.path then { s with feed.tray := trayOf (s.reads .tempty) } else s

/-- 10 R174: the first settling of PEMPTY; the closed states keep the purge count. -/
def State.takePempty (s : State) : State :=
  if closedPath s.path then s else
    let t := { s with exit.firstPempty := some (s.reads .pempty) }
    t.takePurgeCount

/-- FIRST_SETTLING (R74): each input whose level has held for 3 ms takes it, whatever the others do (R69); the tray state follows
TEMPTY (07 R112) and the purge count PEMPTY (10 R174) when that input is among them. -/
def execFirstSettling (s : State) : Reply :=
  .next (if allInputs.any fun id => (s.inputs.line id).first then
      let t := s.elapse s.firstTime
      let u := { t with inputs := t.inputs.takeFirst }
      let v := if t.inputs.tempty.first && !u.inputs.tempty.first then u.takeTray else u
      if t.inputs.pempty.first && !u.inputs.pempty.first then v.takePempty else v
    else s)

end Sys2Proof.Machine
end

