-- ==== Sys2Proof/Machine/InputEvents.lean ====
section
/-! DEFINITION. RAW_INPUT_CHANGE and the settled edges of the segment inputs (04 R69..R73, chapters 5, 7 and 10). -/

namespace Sys2Proof.Machine

/-- RAW_INPUT_CHANGE (04 R69): the settling time starts, starts afresh, or is abandoned; DOOR gates DEN by its raw level (R65). -/
def execRawInputChange (id : InputId) (level : Bool) (s : State) : Reply :=
  .next { s with inputs := s.inputs.setLine id ((s.inputs.line id).change (s.settles id) level) }

/-! ### Zone sensors (05 R78..R83, R87) -/

/-- 05 R81: a cover of the last sensor is handed to the handoff engine in RUN and RUNOUT. -/
def State.offerCover (s : State) (k : Nat) : State :=
  if k = s.lastSensor && (s.path == .run || s.path == .runout) then s.offerTest else s

/-- 05 R81, 06 R106, 07 R114: the arrival consequence of an attributed cover of sensor 1. -/
def State.arrivalReport (s : State) (e : Entry) : State :=
  if movingPath s.path then s.queueFrame (.arrived e.serial (e.source == .pick)) else s

/-- 05 R78: the settled cover of sensor 1 at the tracker and at the blocks it concerns. -/
def State.coverSensor1 (s : State) : State :=
  if s.attributes then
    match s.coverFirst with
    | none => s.strayCover 1
    | some (t, e) => State.occupancyChanged s (((t.arrivalReport e).imageCover 1 e.serial).offerCover 1)
  else s

/-- SENSOR_1_COVER (05 R78). -/
def execSensor1Cover (s : State) : Reply := .next (s.settle (.sensor 1) true State.coverSensor1)

/-- 05 R79: the settled cover of sensor k, k from 2 to Z. -/
def State.coverSensorK (s : State) (k : Nat) : State :=
  if s.attributes then
    match s.coverEntry k with
    | none => s.strayCover k
    | some e =>
      let t := { s with track.queue := changeFirst (fun f => f.leadZone + 1 == k) (s.leadTo k) s.track.queue }
      (t.imageCover k e.serial).offerCover k
  else s

/-- SENSOR_K_COVER (05 R79). -/
def execSensorKCover (k : Nat) (s : State) : Reply :=
  .next (if 2 ≤ k then s.settle (.sensor k) true fun t => t.coverSensorK k else s)

/-- 06 R100, 10 R163, 05 R81: the departure of an entry. -/
def State.departure (s : State) (x : Serial) : State :=
  if movingPath s.path then
    if s.hasRole .exit then s.deliver x
    else if s.path == .resuming then s
    else s.offerTest
  else s

/-- 05 R80: the settled uncover of sensor k. -/
def State.uncoverSensor (s : State) (k : Nat) : State :=
  if s.attributes then
    match s.uncoverEntry k with
    | none => s
    | some e =>
      let t := (if s.isShort k e then s.detect .short k (some e.serial) else s).uncoverTrack k e
      if k = s.lastSensor then State.occupancyChanged s (t.departure e.serial) else t
  else s

/-- 07 R113: an uncover of sensor 1 may complete the pick conditions. -/
def State.throatCleared (s : State) (k : Nat) : State := if k = 1 then s.pickTest else s

/-- SENSOR_UNCOVER (05 R80). -/
def execSensorUncover (k : Nat) (s : State) : Reply :=
  .next (s.settle (.sensor k) false fun t => (t.uncoverSensor k).throatCleared k)

/-! ### DRDY (04 R62..R64, R66) -/

/-- 04 R62: a settled rise of DRDY acknowledges speed in SPINNING, unless a fresh acknowledgement is needed. -/
def State.drdyRisen (s : State) : State :=
  if s.drive.state == .spinning && !s.drive.fresh then s.driveRunning else s

/-- DRDY_RISE (04 R62). -/
def execDrdyRise (s : State) : Reply := .next (s.settle .drdy true State.drdyRisen)

/-- 04 R62..R64: a settled fall of DRDY. -/
def State.drdyFallen (s : State) : State :=
  match s.drive.state with
  | .off => s
  | .spinning => { s with drive.fresh := false }
  | .running => s.detectDrive.driveHalt
  | .halting => s.driveOff.spinTest

/-- DRDY_FALL (04 R64). -/
def execDrdyFall (s : State) : Reply := .next (s.settle .drdy false State.drdyFallen)

/-! ### The door (04 R65, R70, R71) -/

/-- 04 R70: a settled door open. -/
def State.doorOpened (s : State) : State :=
  match s.path with
  | .run | .runout | .plan | .resuming => (s.detect .door 0 none).driveForcedOff
  | .clearance =>
    let t := { s with recovery.clearFlag := false }
    t.queueReady.driveForcedOff
  | _ => s.driveForcedOff

/-- DOOR_OPEN (04 R70). -/
def execDoorOpen (s : State) : Reply := .next (s.settle .door true State.doorOpened)

/-- 04 R71: a settled door close. -/
def State.doorClosed (s : State) : State :=
  match s.path with
  | .stopping | .survey | .runout =>
    let t := { s with recovery.doorMark := true }
    t.driveSync
  | .plan | .resuming =>
    let t := { s with recovery.doorMark := true }
    (t.detect .door 0 none).driveSync
  | .clearance => s.doorCloseEvaluation.driveSync
  | _ => s.driveSync

/-- DOOR_CLOSE (04 R71). -/
def execDoorClose (s : State) : Reply := .next (s.settle .door false State.doorClosed)

/-! ### TEMPTY (07 R116) -/

/-- 07 R116: the tray state follows TEMPTY; TRAY is sent in the live states; a loaded tray may complete the pick conditions. -/
def State.trayChanged (s : State) : State :=
  if s.followsTray && !closedPath s.path then
    let t := { s with feed.tray := trayOf (s.reads .tempty) }
    let u := if livePath t.path then t.queueFrame (.tray t.feed.tray) else t
    if u.feed.tray == .loaded then u.pickTest else u
  else s

/-- TEMPTY_CHANGE (07 R116). -/
def execTemptyChange (s : State) : Reply :=
  .next (s.settle .tempty s.inputs.tempty.raw State.trayChanged)

/-! ### FDONE, the set trays and PEMPTY (10 R167, R170, R171, R173) -/

/-- 10 R167, 04 R73: the finisher reports, in whatever path state the bin is FINISHING. -/
def State.finisherDone (s : State) (n : Nat) : State :=
  if s.hasRole .exit && livePath s.path && s.isFinishing n && (s.bin n).state == .finishing then
    (s.closeSet n .finished).reevaluate
  else s

/-- FDONE_RISE (10 R167). -/
def execFdoneRise (n : Nat) (s : State) : Reply := .next (s.settle (.fdone n) true fun t => t.finisherDone n)

/-- 10 R170..R172: the set tray of bin `n` has emptied. -/
def State.trayFallen (s : State) (n : Nat) : State :=
  if s.hasRole .exit && livePath s.path && s.binNumbers.contains n then
    let t := if (s.bin n).state == .ejecting then
        (s.setBin n fun b => { b with trayStray := false }).ejected n
      else s.trayTaken n
    let u := t.reevaluate
    if u.path == .clearance then u.evaluateReady else u
  else s

/-- SET_TRAY_FALL (10 R171). -/
def execSetTrayFall (n : Nat) (s : State) : Reply := .next (s.settle (.sett n) false fun t => t.trayFallen n)

/-- 10 R173: the purge bin has been emptied. -/
def State.purgeEmptied (s : State) : State :=
  if s.hasRole .exit && !closedPath s.path then { s with exit.purgeCount := 0 } else s

/-- PEMPTY_RISE (10 R173). -/
def execPemptyRise (s : State) : Reply := .next (s.settle .pempty true State.purgeEmptied)

end Sys2Proof.Machine
end

