-- ==== Sys2Proof/Machine/LineEvents.lean ====
section
/-! DEFINITION. The fall and the rise of the stop line (02 R36, 08 R126). -/

namespace Sys2Proof.Machine

/-- 08 R126: a fall as each path state takes it. In STOPPING only the silence timers (03 R56) and the entries' contexts and marks
(04 R67, 05 R75, R91) are touched; LISTEN, ROLLCALL and the closed states ignore it. -/
def State.fallen (s : State) : State :=
  match s.path with
  | .run | .survey | .runout | .clearance | .plan | .resuming => s.enterStopping (s.recovery.epoch + 1)
  | .stopping => s.parkAll.reloadSilence
  | _ => s

/-- STOP_LINE_FALL (08 R126): DEN is forced off by the level (02 R39). -/
def execStopLineFall (s : State) : Reply :=
  .next (if s.link.lineLow then s else
    let t := { s with link.lineLow := true }
    t.fallen)

/-- 02 R36: a rise: it may complete the spin conditions (04 R61), the survey opening (08 R129) or the clear flag (11 R177). -/
def State.risen (s : State) : State :=
  let t := s.driveSync.surveyTest
  if s.path == .clearance then t.evaluateReady else t

/-- STOP_LINE_RISE (02 R36): the line cannot rise while the station pulls it. -/
def execStopLineRise (s : State) : Reply :=
  .next (if !s.link.lineLow || s.pulling then s else
    let t := { s with link.lineLow := false }
    t.risen)

end Sys2Proof.Machine
end

