-- ==== Sys2Proof/Machine/LinkEvents.lean ====
section
/-! DEFINITION. Attempts, collisions and completions on the path link (chapter 2). -/

namespace Sys2Proof.Machine

/-! ### Attempts (02 R27, R30; 08 R139) -/

/-- 02 R27: the frame of the reserved slot, else the oldest URGENT frame, else the oldest NORMAL frame. -/
def State.chosen (s : State) : Option TxFrame :=
  s.link.slot.orElse fun _ => (s.link.queue.find? fun f => f.payload.urgent).orElse fun _ => s.link.queue.head?

/-- 02 R27, R28: the quiet bit-times an attempt with this frame waits for. -/
def State.gap (s : State) (f : TxFrame) : Nat :=
  (if f.payload.urgent then Config.urgentGap else Config.normalGap)
    + (if s.link.backoff then (s.own + 1) * Config.backoffBits else 0)

/-- 08 R139: the present positions not heard, in rising order. -/
def State.notHeard (s : State) : List Pos := s.presentList.filter fun p => !(s.entry p).holdingReceived

/-- The first frame that `p` selects is changed. -/
def changeFrame (p : TxFrame → Bool) (f : TxFrame → TxFrame) : List TxFrame → List TxFrame
  | [] => []
  | x :: xs => if p x then f x :: xs else x :: changeFrame p f xs

/-- 03 R46: the listen timer is reloaded whenever the link is not quiet. -/
def State.linkBusy (s : State) : State :=
  if s.path == .listen then { s with table.listen := .running Config.listenMs } else s

/-- The frame put in transmission: the slot's, or the oldest of the queue in its class. -/
def State.transmit (s : State) (f : TxFrame → TxFrame) : State :=
  let go := fun x => { f x with sending := true }
  let t := match s.link.slot with
    | some x => { s with link.slot := some (go x) }
    | none =>
      if s.link.queue.any fun x => x.payload.urgent then
        { s with link.queue := changeFrame (fun x => x.payload.urgent) go s.link.queue }
      else { s with link.queue := changeFrame (fun _ => true) go s.link.queue }
  let u := { t with link.backoff := false }
  u.linkBusy

/-- The attempt begins with the frame chosen. A JAM takes the epoch now held (02 R30), and waits for the fall of the station's own
pull (log 21). A CLOSE waits for an empty receive queue, takes its list now, and is withdrawn when that is empty (08 R139, log 22). -/
def State.attempt (s : State) (f : TxFrame) : State :=
  if f.payload.isJam then
    if s.link.lineLow then s.transmit fun x => { x with epoch := s.recovery.epoch } else s
  else if f.payload.isClose then
    if !s.link.rx.isEmpty then s
    else if s.notHeard.isEmpty then s.withdrawFrames Payload.isClose
    else s.transmit fun x => { x with payload := .close s.notHeard }
  else s.transmit id

/-- LINK_ATTEMPT_START (02 R27), after `quiet` bit-times of quiet. -/
def execLinkAttemptStart (quiet : Nat) (s : State) : Reply :=
  .next (match s.sending, s.chosen with
    | none, some f => if s.path != .profileRead && s.gap f ≤ quiet then s.attempt f else s
    | _, _ => s)

/-! ### Collisions (02 R28, R29; 08 R127) -/

/-- The frame in transmission leaves the slot or the queue. -/
def State.removeSending (s : State) : State :=
  { s with
    link.slot := match s.link.slot with | some f => if f.sending then none else some f | none => none
    link.queue := s.link.queue.filter fun f => !f.sending }

/-- The frame in transmission stays, no longer sent, with its collision counted. -/
def State.countCollision (s : State) : State :=
  let hit := fun f : TxFrame => if f.sending then { f with sending := false, collisions := f.collisions + 1 } else f
  { s with link.slot := s.link.slot.map hit, link.queue := s.link.queue.map hit }

/-- 02 R29: what follows an abandoned frame. A PASS leaves the outstanding pass list (07 R122); a JOIN is queued again with the
occupied flag of that moment (03 R49, log 49). -/
def State.abandoned (s : State) (f : TxFrame) : State :=
  let t := match f.payload with
    | .pass x side _ => { s with imaging.passes := s.imaging.passes.filter fun p => p != (x, side) }
    | _ => s
  if livePath t.path then
    (match f.payload with
     | .jam .link _ _ => t
     | _ => t.detect .link 0 none)
  else if t.path == .rollcall then
    (match f.payload with
     | .join _ _ => t.queueFrame t.joinFrame
     | _ => t)
  else t

/-- 11 R181: a newer READY follows the one whose attempt has ended, in the place of that one when it has stayed (log 42). -/
def State.nextReady (s : State) : State :=
  if s.recovery.readyNext then
    let t := { s with recovery.readyNext := false }
    t.queueReady
  else s

/-- COLLISION (02 R28): the count rises; a withdrawn frame is removed (08 R127); the 16th collision abandons the frame (R29). -/
def State.collide (s : State) (f : TxFrame) : State :=
  let t := { s with link.backoff := true }
  let u := if f.withdrawn then t.removeSending
    else if Config.collisionMax ≤ f.collisions + 1 then t.removeSending.abandoned f
    else t.countCollision
  u.linkBusy.nextReady

def execCollision (s : State) : Reply :=
  .next (match s.sending with
    | some f => s.collide f
    | none => s)

/-! ### Completions (02 R25, R26, R31, R32, R35) -/

/-- 02 R32: a completed frame at the tail of the receive queue, or lost. -/
def State.takeIn (s : State) (f : RxFrame) : State :=
  if s.link.rx.length < Config.rxMax then { s with link.rx := s.link.rx ++ [f] } else s.lose

/-- 03 R55, 06 R98, 05 R77: the timers that the completion of an own frame loads. -/
def State.ownCompleted (s : State) (p : Payload) : State :=
  let t := if livePath s.path then { s with table.presence := .running Config.presenceMs } else s
  match p with
  | .offer dest xs _ _ =>
    t.setOffer dest fun o => if o.state == .awaiting && o.offered == xs then { o with answer := .running Config.answerMs } else o
  | .accept _ xs _ =>
    { t with track.expected := t.track.expected.map fun i =>
        if xs.head? == some i.serial && i.timer == .stopped then { i with timer := .running i.window } else i }
  | _ => t

/-- 08 R130, 11 R181, R185: the next frame of the report or of the plan, or a waiting READY. A withdrawn frame has ended its report
or plan (08 R127), and none follows it. -/
def State.continueAfter (s : State) (f : TxFrame) : State :=
  match f.tag, f.withdrawn with
  | .report, false => s.sendReport s.recovery.report
  | .plan, false => s.sendPlan s.recovery.planOut
  | _, _ => if f.payload.isReady then s.nextReady else s

/-- 02 R31: the completion of the station's own frame. -/
def State.completeOwn (s : State) (f : TxFrame) : State :=
  let r : RxFrame := { sender := s.own, epoch := f.epoch, payload := f.payload, lineLow := s.lineIsLow }
  let t := s.removeSending.linkBusy
  ((t.takeIn r).ownCompleted f.payload).continueAfter f

/-- 03 R56: the silence timer of the sender of a good frame is reloaded. -/
def State.heardFrom (s : State) (p : Pos) : State :=
  if livePath s.path && s.isPresent p && p != s.own then
    s.setEntry p fun e => { e with silence := .running Config.silenceMs }
  else s

/-- 02 R25, R26, R31: the completion of another sender's frame. -/
def State.completeOther (s : State) (w : WireFrame) : State :=
  let t := s.linkBusy
  match w.read with
  | .discard => t
  | .bad => t.lose
  | .good p e c => (t.heardFrom p).takeIn { sender := p, epoch := e, payload := c, lineLow := s.lineIsLow }

/-- FRAME_COMPLETION (02 R31). -/
def execFrameCompletion (c : Completion) (s : State) : Reply :=
  .next (match c, s.sending with
    | .own, some f => s.completeOwn f
    | .other w, none => s.completeOther w
    | _, _ => s)

end Sys2Proof.Machine
end

