-- ==== Sys2Proof/Machine/FormingReceipts.lean ====
section
/-! DEFINITION. Taking a frame from the receive queue (02 R32), what LISTEN, ROLLCALL and the closed states make of it (03 R45..R49,
R51, R58), and the receipts that change no sheet: JOIN, PRESENCE, PROBE, STATUS, REFUSED, DEMAND, TRAY. -/

namespace Sys2Proof.Machine

/-- 03 R46: a running frame. The rule names no sender for a PRESENCE of a running path state, which is one from sender 0 too
(log 51). -/
def runningFrame (f : RxFrame) : Bool :=
  match f.payload with
  | .join _ _ | .status _ => false
  | .presence p _ => livePath p
  | _ => Pos.station f.sender

/-- 03 R46, R47: a frame other than JOIN taken in LISTEN or ROLLCALL. -/
def State.formingReceipt (s : State) (f : RxFrame) : State := if runningFrame f then s.restart f.epoch else s

/-- 02 R32: the receipt of the head of the queue when it is of this kind, by what each path state does with it: `live` from RUN on,
for a sender that is not absent (01 R2); restarting or discarding in LISTEN and ROLLCALL; discarding in SILENT, SILENT-ABSENT and
UNFIT. Nothing is taken while the profile is read (03 R43). -/
def State.receive (s : State) (kind : Payload → Bool) (live : RxFrame → State → State) : State :=
  match s.link.rx with
  | [] => s
  | f :: rest =>
    if !kind f.payload || s.path == .profileRead then s else
    let t := { s with link.rx := rest }
    if livePath t.path then (if t.isAbsent f.sender then t else live f t)
    else if t.path == .listen || t.path == .rollcall then t.formingReceipt f
    else t

def Payload.isKind (code : Byte) (p : Payload) : Bool := p.code == code

/-! ### JOIN (03 R46, R48, R49) -/

/-- 03 R49: the entry to ROLLCALL. -/
def State.enterRollCall (s : State) : State :=
  { s with
    recovery.path := .rollcall
    table.listen := .stopped
    table.rollCall := .running Config.rollCallMs
    table.joinDelay := .running (s.own * Config.joinDelayMs) }

/-- 03 R49: a JOIN from a station in ROLLCALL. -/
def State.joinRollCall (s : State) (p : Pos) (m : Summary) : State :=
  let t := { s with table.rollCall := .running Config.rollCallMs }
  t.setEntry p fun e =>
    if e.presence == .present then { e with duplicated := true }
    else { e with presence := .present, summary := some m }

/-- 03 R48, R52: a JOIN at a restarted member, or later from a position UNKNOWN to it; the silence timer of a position made
present is loaded (log 38). -/
def State.joinRestarted (s : State) (p : Pos) (m : Summary) : State :=
  (s.setEntry p fun e => { e with presence := .present, summary := some m
                                  silence := .running Config.silenceMs }).rebuildMap

/-- 03 R46, R48, R49: a JOIN by path state. -/
def State.joinReceived (s : State) (p : Pos) (m : Summary) : State :=
  match s.path with
  | .listen => if Pos.station p then s.enterRollCall.joinRollCall p m else s
  | .rollcall => if Pos.station p then s.joinRollCall p m else s
  | _ =>
    if livePath s.path && s.heard p && p != s.own && (s.recovery.restarted || (s.entry p).presence == .unknown) then
      s.joinRestarted p m
    else s

/-- JOIN_RECEIPT (03 R49). -/
def execJoinReceipt (s : State) : Reply :=
  .next (match s.link.rx with
    | { sender := p, payload := .join m _, .. } :: rest =>
      if s.path == .profileRead then s else
        let t := { s with link.rx := rest }
        t.joinReceived p m
    | _ => s)

/-! ### Receipts that change nothing more (03 R55, R59; 01 R12; 07 R116, R117) -/

/-- PRESENCE_RECEIPT (03 R55). -/
def execPresenceReceipt (s : State) : Reply := .next (s.receive (Payload.isKind 0x02) fun _ t => t)

/-- REFUSED_RECEIPT (01 R12). -/
def execRefusedReceipt (s : State) : Reply := .next (s.receive (Payload.isKind 0x04) fun _ t => t)

/-- DEMAND_RECEIPT (07 R117). -/
def execDemandReceipt (s : State) : Reply := .next (s.receive (Payload.isKind 0x06) fun _ t => t)

/-- TRAY_RECEIPT (07 R116). -/
def execTrayReceipt (s : State) : Reply := .next (s.receive (Payload.isKind 0x07) fun _ t => t)

/-- STATUS_RECEIPT (03 R59). -/
def execStatusReceipt (s : State) : Reply := .next (s.receive (Payload.isKind 0x1A) fun _ t => t)

/-! ### PROBE (03 R59) -/

/-- 03 R59: the STATUS of the station; in UNFIT the unfit reason stands in the place of the epoch (R51). -/
def State.status (s : State) : StatusFields :=
  { pathState := s.path
    epoch := if s.path == .unfit then (s.table.unfit.map UnfitReason.code).getD 0 else s.recovery.epoch
    rosterCount := s.roster.records.length, occupancy := s.track.queue.length, jams := s.recovery.jams.length
    purgeSpace := s.purgeSpace, profileCrc := s.profileCrc }

/-- 03 R59: the path states in which a PROBE is answered. -/
def answersProbe (p : PathState) : Bool := livePath p || p == .unfit || p == .silentAbsent

/-- PROBE_RECEIPT (03 R59). -/
def execProbeReceipt (s : State) : Reply :=
  .next (match s.link.rx with
    | { sender := p, payload := .probe q, epoch := e, .. } :: rest =>
      if s.path == .profileRead then s else
        let t := { s with link.rx := rest }
        if answersProbe t.path then (if p == 0 && q == t.own then t.queueFrame (.status t.status) else t)
        else if t.path == .listen || t.path == .rollcall then
          t.formingReceipt { sender := p, epoch := e, payload := .probe q }
        else t
    | _ => s)

end Sys2Proof.Machine
end

