-- ==== Sys2Proof/Machine/SheetReceipts.lean ====
section
/-! DEFINITION. Receipts of the frames that describe sheets: INTENT, WITHDRAW, OFFER, ACCEPT, DEFER, ARRIVED, PASS, DELIVERED,
SET DONE (chapters 1, 6, 7, 9, 10). -/

namespace Sys2Proof.Machine

/-! ### INTENT and WITHDRAW (01 R8..R13) -/

/-- 01 R8, R11, R12. -/
def State.intentReceived (s : State) (sender : Pos) (f : IntentFields) : State :=
  if sender != 0 then s else
  match s.refusal f with
  | none => (s.acceptIntent f).rosterChanged
  | some reason => if s.publishing == some s.own then s.queueFrame (.refused f.serial reason) else s

/-- INTENT_RECEIPT (01 R8). -/
def execIntentReceipt (s : State) : Reply :=
  .next (s.receive (Payload.isKind 0x03) fun f t =>
    match f.payload with
    | .intent i => t.intentReceived f.sender i
    | _ => t)

/-- 01 R13. -/
def State.withdrawReceived (s : State) (sender : Pos) (job : Byte) : State :=
  if sender == 0 && s.roster.phase == .normal && s.roster.records.any fun r => r.stage == .announced && r.job == job
  then (s.withdrawJob job).rosterChanged else s

/-- WITHDRAW_RECEIPT (01 R13). -/
def execWithdrawReceipt (s : State) : Reply :=
  .next (s.receive (Payload.isKind 0x05) fun f t =>
    match f.payload with
    | .withdraw j => t.withdrawReceived f.sender j
    | _ => t)

/-! ### OFFER, ACCEPT, DEFER (01 R15, 05 R75, 06 R95..R104, R108) -/

/-- 01 R15, 06 R101. -/
def State.offerReceived (s : State) (f : RxFrame) (dest : Pos) (xs : List Serial) (window spacing : Nat) : State :=
  let t := s.applyOffer f.sender dest f.epoch xs
  if dest == s.own then
    t.answerOffer { upstream := f.sender, serials := xs, window := window, spacing := spacing, epoch := f.epoch }
  else t

/-- OFFER_RECEIPT (06 R101). -/
def execOfferReceipt (s : State) : Reply :=
  .next (s.receive (Payload.isKind 0x08) fun f t =>
    match f.payload with
    | .offer dest xs w sp => t.offerReceived f dest xs w sp
    | _ => t)

/-- 06 R108: a mark set by an ACCEPT or DEFER of another epoch does not stand from the survey opening on, in RUN too once a plan
has ended a recovery (log 37). -/
def State.staleMarks (s : State) (epoch : Epoch) : Bool :=
  epoch != s.recovery.epoch &&
    (match s.path with
     | .stopping => false
     | .run => s.roster.planInForce.isSome
     | _ => true)

/-- 04 R67, 05 R75: the marks of an ACCEPT addressed to this station, and the gate that follows them. -/
def State.markAccepted (s : State) (epoch : Epoch) (xs : List Serial) : State :=
  let t := s.mapQueue fun e =>
    if xs.contains e.serial then
      { e with deferred := false, release := if s.isHolds && !s.staleMarks epoch then true else e.release }
    else e
  State.endHold s t.gateFollow

/-- 05 R75: the deferred marks of a DEFER addressed to this station. -/
def State.markDeferred (s : State) (epoch : Epoch) (xs : List Serial) : State :=
  s.mapQueue fun e => if xs.contains e.serial && !s.staleMarks epoch then { e with deferred := true } else e

/-- 06 R99: the re-offer condition of an ACCEPT or DEFER from the destination may be met now. -/
def State.reofferMet (before s : State) (dest : Pos) : Bool :=
  (s.offerTo dest).any (·.retryMet) && !(before.offerTo dest).any (·.retryMet)

/-- 01 R15, 06 R95, R99. -/
def State.acceptReceived (s : State) (f : RxFrame) (dest : Pos) (xs : List Serial) (free : Nat) : State :=
  let t := (s.applyAccept f.sender f.epoch xs).declareFree f.sender free
  let u := if dest == s.own then t.markAccepted f.epoch xs else t
  if s.matchesOffer f.sender dest xs true then (u.offerAccepted f.sender xs).offerTest
  else if State.reofferMet s u f.sender then u.offerTest
  else u

/-- ACCEPT_RECEIPT (06 R99). -/
def execAcceptReceipt (s : State) : Reply :=
  .next (s.receive (Payload.isKind 0x09) fun f t =>
    match f.payload with
    | .accept dest xs n => t.acceptReceived f dest xs n
    | _ => t)

/-- 01 R15, 06 R95, R99. -/
def State.deferReceived (s : State) (f : RxFrame) (dest : Pos) (xs : List Serial) (reason : DeferReason) (free : Nat) : State :=
  let t := (s.applyDefer f.sender f.epoch xs reason).declareFree f.sender free
  let u := if dest == s.own then t.markDeferred f.epoch xs else t
  let v := if s.matchesOffer f.sender dest xs false then u.offerDeferred f.sender xs reason free else u
  if State.reofferMet s v f.sender then v.offerTest else v

/-- DEFER_RECEIPT (06 R99). -/
def execDeferReceipt (s : State) : Reply :=
  .next (s.receive (Payload.isKind 0x0A) fun f t =>
    match f.payload with
    | .defer dest xs reason n => t.deferReceived f dest xs reason n
    | _ => t)

/-! ### ARRIVED, PASS, DELIVERED (01 R14, R16, R17; 06 R96; 09 R144, R160) -/

/-- 06 R96: the station's own ARRIVED is an event at which its candidate is tested. -/
def State.ownArrived (s : State) (sender : Pos) : State := if sender == s.own then s.offerTest else s

/-- 09 R160: a PARK record, arrived at its park target. -/
def State.parkedNow (s : State) (x : Serial) : Bool := (s.detail x).any fun d => d.moving && d.parkTarget.isSome && s.complete d

/-- 01 R14. -/
def State.arrivedReceived (s : State) (sender : Pos) (x : Serial) (picked : Bool) : State :=
  match s.record x with
  | none => s.ownArrived sender
  | some r =>
    if s.arrives sender picked r then
      let t := ((s.setRecord x (SheetRecord.arrived sender picked)).rosterChanged).ownArrived sender
      if t.parkedNow x then t.completed else t
    else s.ownArrived sender

/-- 07 R115: an ARRIVED for a pick whose record a WITHDRAW has removed leaves the entry without a record. -/
def State.arrivedForPick (s : State) (sender : Pos) (picked : Bool) : State :=
  if picked && sender == s.own then s.dropEntries else s

/-- ARRIVED_RECEIPT (01 R14). -/
def execArrivedReceipt (s : State) : Reply :=
  .next (s.receive (Payload.isKind 0x0B) fun f t =>
    match f.payload with
    | .arrived x picked => (t.arrivedReceived f.sender x picked).arrivedForPick f.sender picked
    | _ => t)

/-- 01 R16, 07 R122. -/
def State.passReceived (s : State) (sender : Pos) (x : Serial) (side : Nat) (pass : Pass) : State :=
  let t := if sender == s.own then { s with imaging.passes := s.imaging.passes.filter fun p => p != (x, side) } else s
  match t.record x with
  | none => t
  | some r =>
    if t.passes sender side pass r then
      (t.setRecord x fun r => { r with sides := r.sides + 1 }).rosterChanged
    else t

/-- PASS_RECEIPT (01 R16). -/
def execPassReceipt (s : State) : Reply :=
  .next (s.receive (Payload.isKind 0x0C) fun f t =>
    match f.payload with
    | .pass x side p => t.passReceived f.sender x side p
    | _ => t)

/-- 09 R144: a purged sheet joins the run-out account, once. -/
def State.accountPurged (s : State) (r : SheetRecord) : State :=
  if s.roster.phase == .recovery && r.fate == some .purge && !r.purgeRouted
      && !s.recovery.account.purged.any (fun e => e.replaced == r.serial)
      && s.recovery.account.purged.length < Config.purgedMax
  then { s with recovery.account.purged := s.recovery.account.purged ++ [r.item] } else s

/-- 01 R17, 09 R144, R160. -/
def State.deliveredReceived (s : State) (sender : Pos) (x : Serial) : State :=
  match s.record x with
  | none => s
  | some r =>
    if s.delivers sender r then
      let t := ((s.accountPurged r).removeRecord x).rosterChanged
      if s.moving x then t.completed else t
    else s

/-- DELIVERED_RECEIPT (01 R17). -/
def execDeliveredReceipt (s : State) : Reply :=
  .next (s.receive (Payload.isKind 0x0D) fun f t =>
    match f.payload with
    | .delivered x _ => t.deliveredReceived f.sender x
    | _ => t)

/-! ### SET DONE (09 R144, R160) -/

/-- A forfeited set marked EJECT of the fate results that the SET DONE names. -/
def ForfeitedSet.named (f : ForfeitedSet) (sender : Pos) (bin : Nat) (job : Byte) (set : BitVec 16) : Bool :=
  f.eject && !f.ejected && f.exit == sender && f.bin == bin && f.job == job && f.set == set

/-- 09 R144: an ejected set joins the run-out account; one set for each bin (log 32). -/
def State.accountEjected (s : State) (f : ForfeitedSet) : State :=
  if s.recovery.account.ejected.any (fun g => g.exit == f.exit && g.bin == f.bin) then s
  else { s with recovery.account.ejected := s.recovery.account.ejected ++ [f] }

/-- 09 R144, R160. -/
def State.setDoneReceived (s : State) (sender : Pos) (bin : Nat) (job : Byte) (set : BitVec 16) : State :=
  match s.recovery.fates.forfeited.find? fun f => f.named sender bin job set with
  | none => s
  | some f =>
    let t := s.accountEjected f
    let mark (g : ForfeitedSet) : ForfeitedSet := if g.named sender bin job set then { g with complete := true } else g
    State.setCompleted { t with recovery.fates.forfeited := t.recovery.fates.forfeited.map mark }

/-- SET_DONE_RECEIPT (09 R144). -/
def execSetDoneReceipt (s : State) : Reply :=
  .next (s.receive (Payload.isKind 0x0E) fun f t =>
    match f.payload with
    | .setDone bin job set .forfeited => if t.roleIs f.sender .exit then t.setDoneReceived f.sender bin job set else t
    | _ => t)

end Sys2Proof.Machine
end

