-- ==== Sys2Proof/Machine/RecoveryReceipts.lean ====
section
/-! DEFINITION. Receipts of JAM, HALT, HOLDING, SETLIST, CLOSE, READY, REVISION, PLAN and PLAN ENTRY (chapters 3, 8 and 11). -/

namespace Sys2Proof.Machine

/-! ### JAM and HALT (01 R19, 03 R48, R56, 08 R133) -/

/-- 03 R48, 08 R141: a JAM(RESTART) of a present position other than the own. -/
def State.restartClaimed (s : State) (p : Pos) : State :=
  if s.heard p && p != s.own then
    ((s.setEntry p fun e => { e with restarted := true }).escalate).queueFrame s.joinFrame
  else s

/-- 03 R56: a PEER_LOST of the roster epoch stops the silence timer of the position it names. -/
def State.peerLost (s : State) (epoch : Epoch) (serial : Option Serial) : State :=
  match serial with
  | some x => if epoch == s.roster.epoch then s.setEntry x.toNat fun e => { e with silence := .stopped } else s
  | none => s

/-- 01 R19, 08 R133. -/
def State.jamReceived (s : State) (f : RxFrame) (k : JamKind) (serial : Option Serial) : State :=
  let t := s.epochReceived f
  let u := match k with
    | .restart => t.restartClaimed f.sender
    | .peerLost => t.peerLost f.epoch serial
    | _ => t
  u.enterJam (jamEntry f.epoch k f.sender serial)

/-- JAM_RECEIPT (08 R133). -/
def execJamReceipt (s : State) : Reply :=
  .next (s.receive (Payload.isKind 0x10) fun f t =>
    match f.payload with
    | .jam k _ serial => t.jamReceived f k serial
    | _ => t)

/-- 02 R38, 08 R133: a HALT enters the jam list with station 0 (log 26 for its sender). -/
def State.haltReceived (s : State) (f : RxFrame) : State :=
  (s.epochReceived f).enterJam { epoch := f.epoch, kind := .halt }

/-- HALT_RECEIPT (02 R38). -/
def execHaltReceipt (s : State) : Reply := .next (s.receive (Payload.isKind 0x11) fun f t => t.haltReceived f)

/-! ### HOLDING and SETLIST (08 R134, R137, R138) -/

/-- 08 R137: the HOLDING is applied to the survey record. -/
def State.holdingApplies (s : State) (f : RxFrame) : Bool :=
  f.epoch == s.roster.epoch && s.roster.stage == .open && s.heard f.sender && !(s.entry f.sender).holdingReceived

/-- 08 R136, R137: its entries and flags are recorded; a restarted or desynchronised flag escalates. -/
def State.recordHolding (s : State) (p : Pos) (h : HoldingFields) : State :=
  let t := s.setReport p fun r =>
    { r with entries := (r.entries ++ h.entries).take Config.reportMax, restarted := r.restarted || h.restarted
             desync := r.desync || h.desync }
  let u := if h.restarted then (t.setEntry p fun e => { e with restarted := true }).escalate else t
  if h.desync then u.escalate else u

/-- 08 R137: every present position has been heard, and a restarted member knows another than itself. -/
def State.allHeard (s : State) : Bool := !s.alone && s.notHeard.isEmpty

/-- 08 R137: the final HOLDING of a position's report. -/
def State.finalHolding (s : State) (p : Pos) (h : HoldingFields) : State :=
  let t := (s.setReport p fun r => { r with purgeSpace := h.purgeSpace, openSets := h.openSets }).setEntry p
    fun e => { e with holdingReceived := true }
  let complete := ((t.positionReport p).sets.filter (·.complete)).length
  let u := if complete = h.openSets then t else t.escalate
  if u.allHeard then u.closeSurvey else u

/-- 02 R35: the station's own HOLDING is received back. -/
def State.ownHolding (s : State) (p : Pos) : State := if p == s.own then { s with link.lostSinceHolding := false } else s

/-- 08 R137. -/
def State.holdingReceivedFrom (s : State) (f : RxFrame) (h : HoldingFields) : State :=
  let t := (s.ownHolding f.sender).epochReceived f
  if t.holdingApplies f then
    let u := (t.stopTests f.lineLow).recordHolding f.sender h
    if h.final then u.finalHolding f.sender h else u
  else t

/-- HOLDING_RECEIPT (08 R137). -/
def execHoldingReceipt (s : State) : Reply :=
  .next (s.receive (Payload.isKind 0x12) fun f t =>
    match f.payload with
    | .holding h => t.holdingReceivedFrom f h
    | _ => t)

/-- 08 R138: a set list with the entries of a SETLIST added, unless it is complete, another set's, or would pass 40 entries. -/
def SurveySet.extend (l : SurveySet) (job : Byte) (set : BitVec 16) (es : List SetEntry) (last : Bool) : SurveySet :=
  if l.complete || l.job != job || l.set != set || Config.setListMax < l.entries.length + es.length then l
  else { l with entries := l.entries ++ es, complete := last }

/-- 08 R138: the set lists of a position after a SETLIST. -/
def extendSets (sets : List SurveySet) (bin : Nat) (job : Byte) (set : BitVec 16) (es : List SetEntry) (last : Bool) :
    List SurveySet :=
  if sets.any fun l => l.bin == bin then sets.map fun l => if l.bin == bin then l.extend job set es last else l
  else sets ++ [({ bin := bin, job := job, set := set } : SurveySet).extend job set es last]

/-- 08 R138. -/
def State.setlistReceived (s : State) (f : RxFrame) (bin : Nat) (job : Byte) (set : BitVec 16) (es : List SetEntry) (last : Bool) :
    State :=
  if s.holdingApplies f then s.setReport f.sender fun r => { r with sets := extendSets r.sets bin job set es last } else s

/-- SETLIST_RECEIPT (08 R138). -/
def execSetlistReceipt (s : State) : Reply :=
  .next (s.receive (Payload.isKind 0x13) fun f t =>
    match f.payload with
    | .setlist bin job set es last => t.setlistReceived f bin job set es last
    | _ => t)

/-! ### CLOSE (03 R57, 08 R139, R140) -/

/-- 08 R139, R140. -/
def State.closeReceived (s : State) (f : RxFrame) (ps : List Pos) : State :=
  let t := s.followEpoch f
  if f.epoch == t.roster.epoch then
    let u := t.withdrawFrames Payload.isClose
    if u.roster.stage == .open && u.heard f.sender then
      let v := u.strikeOut ps
      if livePath v.path then v.closeSurvey else v
    else u
  else t

/-- CLOSE_RECEIPT (08 R140). -/
def execCloseReceipt (s : State) : Reply :=
  .next (s.receive (Payload.isKind 0x14) fun f t =>
    match f.payload with
    | .close ps => t.closeReceived f ps
    | _ => t)

/-! ### READY (11 R182, R183) -/

/-- 11 R179, R182, R186: a frame of the clearance epoch, after the survey close of a recovery. -/
def State.ofClearance (s : State) (f : RxFrame) : Bool :=
  s.roster.phase == .recovery && s.roster.stage == .closed && f.epoch == s.recovery.clearanceEpoch

/-- 11 R179, R183: the first digest and every last READY emptied. -/
def State.emptyVote (s : State) : State :=
  let t := s.mapEntries fun _ e => { e with lastReady := none }
  { t with recovery.firstDigest := none }

/-- 11 R183: the mismatch count raised; at 3 the recovery is escalated. -/
def State.countMismatch (s : State) : State :=
  let t := { s with recovery.mismatch := min (s.recovery.mismatch + 1) Config.mismatchMax }
  if t.recovery.mismatch = Config.mismatchMax then t.escalate else t

/-- 11 R183. -/
def State.mismatched (s : State) : State :=
  let t := s.countMismatch
  let next := t.recovery.clearanceEpoch + 1
  let u := ({ t with recovery.resurvey := some next } : State).emptyVote.withdrawRecovery
  if u.path == .clearance then
    let v := { u with recovery.epoch := next }
    v.openSurvey
  else u

/-- 11 R182, R183. -/
def State.readyReceived (s : State) (f : RxFrame) (clear : Bool) (digest : Crc) : State :=
  if s.ofClearance f && s.heard f.sender then
    if s.recovery.firstDigest.any (· != digest) then s.mismatched
    else
      let t := s.setEntry f.sender fun e => { e with lastReady := some { clear := clear, digest := digest, epoch := f.epoch } }
      let u := { t with recovery.firstDigest := some (s.recovery.firstDigest.getD digest) }
      u.voteTest
  else s

/-- READY_RECEIPT (11 R182). -/
def execReadyReceipt (s : State) : Reply :=
  .next (s.receive (Payload.isKind 0x15) fun f t =>
    match f.payload with
    | .ready clear digest => t.readyReceived f clear digest
    | _ => t)

/-! ### REVISION (11 R178, R179) -/

/-- 11 R179: the item a REVISION adds to the revision list. -/
def revisionItem (sender : Pos) : RevisionContent → Revision
  | .removed x => .removed x
  | .unknown z => .unknown sender z

/-- 11 R179: the content is applicable. -/
def State.applicable (s : State) (sender : Pos) (v : RevisionContent) : Bool :=
  !s.recovery.revisions.contains (revisionItem sender v) &&
    (match v with
     | .removed x => (s.record x).any SheetRecord.atRest
     | .unknown z => inRange 1 4 z)

/-- 11 R179: the REVISION is applied. -/
def State.revises (s : State) (f : RxFrame) (v : RevisionContent) : Bool :=
  s.ofClearance f && s.heard f.sender && s.applicable f.sender v

/-- 11 R178: at the receipt of its own REVISION the station removes the head of its pending revisions when the frame is applied,
or when its content is not applicable; never when the frame's epoch is another than the clearance epoch. A head
that is not the frame's content stays (log 68). -/
def State.dropPending (s : State) (f : RxFrame) (v : RevisionContent) : State :=
  if f.sender == s.own && f.epoch == s.recovery.clearanceEpoch && (s.revises f v || !s.applicable f.sender v)
      && s.recovery.pendingRevs.head? == some v then
    { s with recovery.pendingRevs := s.recovery.pendingRevs.drop 1 }
  else s

/-- 11 R179: an applied REVISION. -/
def State.applyRevision (s : State) (sender : Pos) (v : RevisionContent) : State :=
  let t := { s with
    recovery.revisions := s.recovery.revisions ++ [revisionItem sender v]
    recovery.clearanceEpoch := s.recovery.clearanceEpoch + 1 }
  let u := (t.emptyVote.withdrawRecovery).storeFates true
  let w := { u with recovery.planIn := {} }
  if w.path == .clearance || w.path == .plan then
    { w with recovery.epoch := w.recovery.clearanceEpoch, recovery.path := .clearance }
  else w

/-- 11 R178, R181: what follows a REVISION in CLEARANCE. -/
def State.revisionTests (s : State) (applied : Bool) (dropped : Bool) : State :=
  if s.path == .clearance then
    if applied then s.clearanceTests
    else if dropped && s.recovery.pendingRevs.isEmpty then s.queueReady
    else s.queueRevision
  else s

/-- 11 R178, R179. -/
def State.revisionReceived (s : State) (f : RxFrame) (v : RevisionContent) : State :=
  let applies := s.revises f v
  let t := s.dropPending f v
  let u := if applies then t.applyRevision f.sender v else t
  u.revisionTests applies (t.recovery.pendingRevs.length < s.recovery.pendingRevs.length)

/-- REVISION_RECEIPT (11 R179). -/
def execRevisionReceipt (s : State) : Reply :=
  .next (s.receive (Payload.isKind 0x16) fun f t =>
    match f.payload with
    | .revision v => t.revisionReceived f v
    | _ => t)

/-! ### PLAN and PLAN ENTRY (03 R57, 11 R186..R188) -/

/-- 11 R186: the frame is applied. -/
def State.planApplies (s : State) (f : RxFrame) : Bool := s.publishing == some f.sender && s.ofClearance f

/-- 11 R186: a PLAN, once its absent list is applied: it starts the plan in progress, or it is the final one. -/
def State.applyPlan (s : State) (f : RxFrame) (p : PlanFields) : State :=
  if p.count = 0 then s.applyFinalPlan f.epoch p
  else { s with recovery.planIn := { header := some p } }

/-- 03 R57, 11 R186. -/
def State.planReceived (s : State) (f : RxFrame) (p : PlanFields) : State :=
  if s.planApplies f then
    let t := s.strikeOut p.absent
    if livePath t.path then t.applyPlan f p else t
  else if s.recovery.restarted && s.heard f.sender then s.strikeOut p.absent
  else s

/-- PLAN_RECEIPT (11 R186). -/
def execPlanReceipt (s : State) : Reply :=
  .next (s.receive (Payload.isKind 0x17) fun f t =>
    match f.payload with
    | .plan p => t.planReceived f p
    | _ => t)

/-- 11 R186. -/
def State.planEntryReceived (s : State) (f : RxFrame) (e : PlanEntryFields) : State :=
  if s.planApplies f then { s with recovery.planIn.entries := s.recovery.planIn.entries ++ [e] } else s

/-- PLAN_ENTRY_RECEIPT (11 R186). -/
def execPlanEntryReceipt (s : State) : Reply :=
  .next (s.receive (Payload.isKind 0x18) fun f t =>
    match f.payload with
    | .planEntry e => t.planEntryReceived f e
    | _ => t)

end Sys2Proof.Machine
end

