-- ==== Sys2Proof/Machine/TimerEvents.lean ====
section
/-! DEFINITION. The timers that run out (chapters 3 to 8 and 10). -/

namespace Sys2Proof.Machine

/-! ### The roll call (03 R46, R49, R50, R54) -/

/-- LISTEN_TIMER_EXPIRY (03 R46). -/
def execListenTimerExpiry (s : State) : Reply :=
  .next (s.expire s.table.listen s.listenRuns State.enterRollCall)

/-- JOIN_DELAY_EXPIRY (03 R49). -/
def execJoinDelayExpiry (s : State) : Reply :=
  .next (s.expire s.table.joinDelay (s.path == .rollcall) fun t =>
    let u := { t with table.joinDelay := .expired }
    u.queueFrame u.joinFrame)

/-- 03 R49: the table frozen: every position not present is absent. -/
def State.freezeTable (s : State) : State :=
  s.mapEntries fun _ e => if e.presence == .present then e else { e with presence := .absent }

/-- 03 R49: back to LISTEN with the table and its duplicated marks cleared. -/
def State.backToListen (s : State) : State :=
  { s with
    table := { entries := List.replicate 16 {}, map := List.replicate 16 {}, listen := .running Config.listenMs }
    recovery.path := .listen }

/-- 03 R50, R51: the entry to UNFIT. -/
def State.enterUnfit (s : State) (u : UnfitReason) : State :=
  let t := s.enterClosed .unfit
  { t with table.unfit := some u }

/-- 03 R49, R50: the close of the roll call. -/
def State.closeRollCall (s : State) : State :=
  let t := { s with table.rollCall := .expired }
  let u := t.freezeTable
  if !u.isPresent u.own then u.backToListen
  else
    match u.validate with
    | some reason => u.enterUnfit reason
    | none => u.rebuildMap.runFromRollCall

/-- ROLL_CALL_CLOSE (03 R49). -/
def execRollCallClose (s : State) : Reply :=
  .next (s.expire s.table.rollCall (s.path == .rollcall) State.closeRollCall)

/-! ### Presence (03 R55, R56) -/

/-- PRESENCE_TIMER_EXPIRY (03 R55). -/
def execPresenceTimerExpiry (s : State) : Reply :=
  .next (s.expire s.table.presence (livePath s.path) fun t =>
    let u := { t with table.presence := .expired }
    if u.link.queue.isEmpty && u.link.slot.isNone then u.queueFrame (.presence u.path u.recovery.epoch) else u)

/-- SILENCE_TIMER_EXPIRY (03 R56). -/
def execSilenceTimerExpiry (p : Pos) (s : State) : Reply :=
  .next (s.expire (s.entry p).silence (livePath s.path && s.isPresent p && p != s.own) fun t =>
    (t.setEntry p fun e => { e with silence := .expired }).detect .peerLost 0 (some (BitVec.ofNat 16 p)))

/-! ### Drive (04 R62, R64, R66) -/

/-- SPIN_TIMER_EXPIRY (04 R62). -/
def execSpinTimerExpiry (s : State) : Reply :=
  .next (s.expire s.drive.spin (s.drive.state == .spinning) fun t => t.detectDrive.driveHalt)

/-- HALT_TIMER_EXPIRY (04 R64). -/
def execHaltTimerExpiry (s : State) : Reply :=
  .next (s.expire s.drive.halt (s.drive.state == .halting) fun t => t.detectDrive.driveOff.spinTest)

/-! ### Stopping and the survey (08 R129, R139) -/

/-- CLAIM_WINDOW_EXPIRY (08 R129). -/
def execClaimWindowExpiry (s : State) : Reply :=
  .next (s.expire s.recovery.claim (livePath s.path) fun t =>
    let u := { t with recovery.claim := .expired }
    u.surveyTest)

/-- LINE_HELD_TIMER_EXPIRY (08 R129): the line-held limit. -/
def execLineHeldTimerExpiry (s : State) : Reply :=
  .next (s.expire s.recovery.lineHeld (livePath s.path) fun t =>
    let u := { t with recovery.lineHeld := .expired }
    if u.path == .stopping then u.openSurvey else u)

/-- SURVEY_TIMER_EXPIRY (08 R139). -/
def execSurveyTimerExpiry (s : State) : Reply :=
  .next (s.expire s.recovery.survey (s.path == .survey) fun t =>
    let u := { t with recovery.survey := .expired }
    if u.roster.stage == .open && u.roster.epoch == u.recovery.epoch && !u.recovery.restarted
    then u.queueFrame (.close []) else u)

/-! ### Handoff (06 R98, R99) -/

/-- The answer timer, or the re-offer timer, of the offer record for `dest`. -/
def State.answerTimer (s : State) (dest : Pos) : Timer := ((s.offerTo dest).map (·.answer)).getD .stopped
def State.reofferTimer (s : State) (dest : Pos) : Timer := ((s.offerTo dest).map (·.reoffer)).getD .stopped

/-- ANSWER_TIMER_EXPIRY (06 R98): the record stays AWAITING until the fall. -/
def execAnswerTimerExpiry (dest : Pos) (s : State) : Reply :=
  .next (s.expire (s.answerTimer dest) s.offersRun fun t =>
    (t.setOffer dest fun o => { o with answer := .expired }).detect .noAnswer 0 none)

/-- RE_OFFER_TIMER_EXPIRY (06 R99). -/
def execReOfferTimerExpiry (dest : Pos) (s : State) : Reply :=
  .next (s.expire (s.reofferTimer dest) s.offersRun fun t =>
    (t.setOffer dest fun o => { o with reoffer := .expired, retryMet := true }).offerTest)

/-! ### The pace of sheets (05 R86, R88) -/

def State.item (s : State) (x : Serial) : Option ExpItem := s.track.expected.find? fun i => i.serial == x
def State.occupant (s : State) (x : Serial) : Option Entry := s.track.queue.find? fun e => e.serial == x
def State.setOccupant (s : State) (x : Serial) (f : Entry → Entry) : State :=
  s.mapQueue fun e => if e.serial == x then f e else e

/-- ARRIVAL_TIMER_EXPIRY (05 R86). -/
def execArrivalTimerExpiry (x : Serial) (s : State) : Reply :=
  .next (s.expire (((s.item x).map (·.timer)).getD .stopped) (s.paced x) fun t =>
    let mark (i : ExpItem) : ExpItem := if i.serial == x then { i with timer := .expired } else i
    State.detect { t with track.expected := t.track.expected.map mark } .late 0 (some x))

/-- 05 R86: BLOCKED takes the place of the kind at a station that does not hold, while the deferred mark is set. -/
def State.paceJam (s : State) (k : JamKind) (e : Entry) : JamKind := if !s.isHolds && e.deferred then .blocked else k

/-- 05 R86: the jam of an entry's lead timer. -/
def State.leadJam (s : State) (x : Serial) : State :=
  match s.occupant x with
  | none => s
  | some e => (s.setOccupant x fun f => { f with lead := .expired }).detect (s.paceJam .late e) e.leadZone (some x)

/-- LEAD_TIMER_EXPIRY (05 R86). -/
def execLeadTimerExpiry (x : Serial) (s : State) : Reply :=
  .next (s.expire (((s.occupant x).map (·.lead)).getD .stopped) (s.entryRuns x) fun t => t.leadJam x)

/-- 05 R86: the jam of an entry's trail timer. -/
def State.trailJam (s : State) (x : Serial) : State :=
  match s.occupant x with
  | none => s
  | some e => (s.setOccupant x fun f => { f with trail := .expired }).detect (s.paceJam .stall e) e.trailSensor (some x)

/-- TRAIL_TIMER_EXPIRY (05 R86). -/
def execTrailTimerExpiry (x : Serial) (s : State) : Reply :=
  .next (s.expire (((s.occupant x).map (·.trail)).getD .stopped) (s.entryRuns x) fun t => t.trailJam x)

/-- 05 R88: a re-pick while retries are left, else MISFEED of the pick candidate, at which the pick conditions are tested (07
R113). -/
def State.pickExpired (s : State) : State :=
  if 0 < s.feed.retries then
    { s with feed.retries := s.feed.retries - 1, feed.pickOut := true, track.pickTimer := .running s.prof.pickAllowance }
  else
    let t := (s.detect .misfeed 0 s.track.pickCandidate).endPick
    let u := { t with track.pickCandidate := none }
    u.pickTest

/-- PICK_TIMER_EXPIRY (05 R88). -/
def execPickTimerExpiry (s : State) : Reply :=
  .next (s.expire s.track.pickTimer (s.path == .run) State.pickExpired)

/-! ### Finishing and the image sync pulse (10 R167, R170, 04 R72) -/

/-- 10 R167, R170: the finisher has not reported, or the tray has not emptied, within the finish allowance. -/
def Bin.timeout (b : Bin) : Bin :=
  match b.state with
  | .finishing => { b with state := .finishPending, fin := false, finish := .expired }
  | .ejecting => { b with state := b.beforeEject, fin := false, finish := .expired }
  | _ => { b with finish := .expired }

/-- FINISH_TIMER_EXPIRY (10 R167). -/
def execFinishTimerExpiry (n : Nat) (s : State) : Reply :=
  .next (s.expire (s.bin n).finish (movingPath s.path) fun t =>
    ((t.setBin n Bin.timeout).detect .finish n none).reevaluate)

/-- ISYNC_PULSE_END (04 R72). -/
def execIsyncPulseEnd (s : State) : Reply :=
  .next (s.expire s.imaging.isync true fun t => { t with imaging.isync := .stopped })

end Sys2Proof.Machine
end

