-- ==== Sys2Proof/Machine/Dispatch.lean ====
section
/-! DEFINITION. Which meaning each command has. -/

namespace Sys2Proof.Machine

def exec (i : Instr) (s : State) : Host.Outcome State Fault Refusal :=
  match i with
  | .reset lineLow => Sys2Proof.Machine.execReset lineLow s
  | .profileReadDone record bytes check => Sys2Proof.Machine.execProfileReadDone record bytes check s
  | .profileReadTimeout => Sys2Proof.Machine.execProfileReadTimeout s
  | .rawInputChange input level => Sys2Proof.Machine.execRawInputChange input level s
  | .sensor1Cover => Sys2Proof.Machine.execSensor1Cover s
  | .sensorKCover k => Sys2Proof.Machine.execSensorKCover k s
  | .sensorUncover k => Sys2Proof.Machine.execSensorUncover k s
  | .drdyRise => Sys2Proof.Machine.execDrdyRise s
  | .drdyFall => Sys2Proof.Machine.execDrdyFall s
  | .doorOpen => Sys2Proof.Machine.execDoorOpen s
  | .doorClose => Sys2Proof.Machine.execDoorClose s
  | .temptyChange => Sys2Proof.Machine.execTemptyChange s
  | .fdoneRise n => Sys2Proof.Machine.execFdoneRise n s
  | .setTrayFall n => Sys2Proof.Machine.execSetTrayFall n s
  | .pemptyRise => Sys2Proof.Machine.execPemptyRise s
  | .stopLineFall => Sys2Proof.Machine.execStopLineFall s
  | .stopLineRise => Sys2Proof.Machine.execStopLineRise s
  | .linkAttemptStart quiet => Sys2Proof.Machine.execLinkAttemptStart quiet s
  | .collision => Sys2Proof.Machine.execCollision s
  | .frameCompletion c => Sys2Proof.Machine.execFrameCompletion c s
  | .joinReceipt => Sys2Proof.Machine.execJoinReceipt s
  | .presenceReceipt => Sys2Proof.Machine.execPresenceReceipt s
  | .intentReceipt => Sys2Proof.Machine.execIntentReceipt s
  | .refusedReceipt => Sys2Proof.Machine.execRefusedReceipt s
  | .withdrawReceipt => Sys2Proof.Machine.execWithdrawReceipt s
  | .demandReceipt => Sys2Proof.Machine.execDemandReceipt s
  | .trayReceipt => Sys2Proof.Machine.execTrayReceipt s
  | .offerReceipt => Sys2Proof.Machine.execOfferReceipt s
  | .acceptReceipt => Sys2Proof.Machine.execAcceptReceipt s
  | .deferReceipt => Sys2Proof.Machine.execDeferReceipt s
  | .arrivedReceipt => Sys2Proof.Machine.execArrivedReceipt s
  | .passReceipt => Sys2Proof.Machine.execPassReceipt s
  | .deliveredReceipt => Sys2Proof.Machine.execDeliveredReceipt s
  | .setDoneReceipt => Sys2Proof.Machine.execSetDoneReceipt s
  | .jamReceipt => Sys2Proof.Machine.execJamReceipt s
  | .haltReceipt => Sys2Proof.Machine.execHaltReceipt s
  | .holdingReceipt => Sys2Proof.Machine.execHoldingReceipt s
  | .setlistReceipt => Sys2Proof.Machine.execSetlistReceipt s
  | .closeReceipt => Sys2Proof.Machine.execCloseReceipt s
  | .readyReceipt => Sys2Proof.Machine.execReadyReceipt s
  | .revisionReceipt => Sys2Proof.Machine.execRevisionReceipt s
  | .planReceipt => Sys2Proof.Machine.execPlanReceipt s
  | .planEntryReceipt => Sys2Proof.Machine.execPlanEntryReceipt s
  | .probeReceipt => Sys2Proof.Machine.execProbeReceipt s
  | .statusReceipt => Sys2Proof.Machine.execStatusReceipt s
  | .listenTimerExpiry => Sys2Proof.Machine.execListenTimerExpiry s
  | .joinDelayExpiry => Sys2Proof.Machine.execJoinDelayExpiry s
  | .rollCallClose => Sys2Proof.Machine.execRollCallClose s
  | .presenceTimerExpiry => Sys2Proof.Machine.execPresenceTimerExpiry s
  | .silenceTimerExpiry p => Sys2Proof.Machine.execSilenceTimerExpiry p s
  | .spinTimerExpiry => Sys2Proof.Machine.execSpinTimerExpiry s
  | .haltTimerExpiry => Sys2Proof.Machine.execHaltTimerExpiry s
  | .claimWindowExpiry => Sys2Proof.Machine.execClaimWindowExpiry s
  | .lineHeldTimerExpiry => Sys2Proof.Machine.execLineHeldTimerExpiry s
  | .surveyTimerExpiry => Sys2Proof.Machine.execSurveyTimerExpiry s
  | .answerTimerExpiry dest => Sys2Proof.Machine.execAnswerTimerExpiry dest s
  | .reOfferTimerExpiry dest => Sys2Proof.Machine.execReOfferTimerExpiry dest s
  | .arrivalTimerExpiry serial => Sys2Proof.Machine.execArrivalTimerExpiry serial s
  | .leadTimerExpiry serial => Sys2Proof.Machine.execLeadTimerExpiry serial s
  | .trailTimerExpiry serial => Sys2Proof.Machine.execTrailTimerExpiry serial s
  | .pickTimerExpiry => Sys2Proof.Machine.execPickTimerExpiry s
  | .finishTimerExpiry bin => Sys2Proof.Machine.execFinishTimerExpiry bin s
  | .isyncPulseEnd => Sys2Proof.Machine.execIsyncPulseEnd s
  | .firstSettling => Sys2Proof.Machine.execFirstSettling s

end Sys2Proof.Machine
end

