-- ==== Sys2Proof/Safety.lean ====
section
/-! DEFINITION. The laws that the manual states of a station's state, as invariants, and the conditions that the statements of
Obligations.lean share. -/

namespace Sys2Proof.Machine

/-! ### Laws -/

/-- 02 R32, R33: 24 frames of the receive queue, 8 of the transmit queue. -/
abbrev State.queueLaw (s : State) : Prop := s.link.queue.length ≤ 8 ∧ s.link.rx.length ≤ 24

/-- 01 R1, R3: at most 48 records, no two of one serial, a back pass for each duplex sheet and for no other. -/
abbrev State.rosterLaw (s : State) : Prop :=
  s.roster.records.length ≤ 48 ∧ (s.roster.records.map (·.serial)).Nodup ∧
    ∀ r ∈ s.roster.records, r.duplex = true ↔ r.backPass.isSome

/-- 01 R19, R20: the survey stage applies in phase RECOVERY alone; 01 R21: in phase NORMAL no record has a fate, and from the
survey close on every record has one. -/
abbrev State.fateLaw (s : State) : Prop :=
  (s.roster.phase = .normal ↔ s.roster.stage = .notApplicable) ∧
    (s.roster.phase = .normal → ∀ r ∈ s.roster.records, r.fate = none) ∧
    (s.roster.stage = .closed → ∀ r ∈ s.roster.records, r.fate.isSome)

/-- 08 R133: at most 8 entries, no two of the same epoch, kind and station. -/
abbrev State.jamLaw (s : State) : Prop :=
  s.recovery.jams.length ≤ 8 ∧ s.recovery.jams.Pairwise fun a b => JamEntry.same a b = false

/-- 03 R43: until a profile is read the station has none, and every queue of TRACK and EXIT stands as reset left it. -/
abbrev State.profileLaw (s : State) : Prop :=
  s.path = .profileRead → s.profile = none ∧ s.track.queue = [] ∧ s.exit.purgeCount = 0

/-- 05 R76: the occupancy queue holds at most the profile capacity, no serial twice. -/
abbrev State.occupancyLaw (s : State) : Prop :=
  s.profileLaw ∧ s.track.queue.length ≤ s.prof.capacity ∧ (s.track.queue.map (·.serial)).Nodup

/-- 05 R77: the expected-arrivals list holds no serial twice. -/
abbrev State.expectedLaw (s : State) : Prop := (s.track.expected.map (·.serial)).Nodup

/-- 10 R173: the purge count never exceeds the purge capacity. -/
abbrev State.purgeLaw (s : State) : Prop := s.profileLaw ∧ s.exit.purgeCount ≤ s.prof.purgeCapacity

/-- 10 R164: an open set lists at most 40 sheets. -/
abbrev State.setLaw (s : State) : Prop := ∀ b ∈ s.exit.bins, ∀ o ∈ b.openSet, o.sheets.length ≤ 40

/-- 04 R69: SEN1..SEN4, FDONE1..FDONE3 and SETT1..SETT3; 05 R87: a stray flag for each zone; 10 R164: three bins at most;
03 R52, R53: a table entry and a map entry for each position 1..16. -/
abbrev State.shapeLaw (s : State) : Prop :=
  s.inputs.sensors.length = 4 ∧ s.inputs.fdone.length = 3 ∧ s.inputs.sett.length = 3 ∧ s.track.strays.length = 4 ∧
    s.exit.bins.length = 3 ∧ s.table.entries.length = 16 ∧ s.table.map.length = 16

/-! ### Conditions of statements -/

/-- The frame `f` is next to be received, in a path state that applies frames, from a sender that is not absent (01 R2). -/
abbrev State.receives (s : State) (f : RxFrame) (rest : List RxFrame) : Prop :=
  s.link.rx = f :: rest ∧ livePath s.path = true ∧ s.isAbsent f.sender = false

/-- The same state with the head of the receive queue taken. -/
def State.taken (s : State) (rest : List RxFrame) : State := { s with link.rx := rest }

/-- A frame with this content, stamped with the epoch `e` (02 R30), waits in the transmit queue. -/
def State.queued (s : State) (e : Epoch) (p : Payload) : Prop := ∃ f ∈ s.link.queue, f.payload = p ∧ f.epoch = e

/-- The JAM waits in the reserved slot or in the transmit queue; while it does the station pulls the line (02 R37). -/
def State.jamQueued (s : State) (k : JamKind) (zone : Nat) (serial : Option Serial) : Prop :=
  ∃ f : TxFrame, f.payload = .jam k zone serial ∧ (s.link.slot = some f ∨ f ∈ s.link.queue)

/-- 02 R34: a JAM detected now finds a place. -/
abbrev State.canClaim (s : State) : Prop := s.link.slot = none ∨ s.link.queue.length < 8

/-- A change of the input to `level` is settling, with `r` ms still to go (04 R69). -/
abbrev State.edgeDue (s : State) (id : InputId) (level : Bool) (r : Nat) : Prop :=
  (s.inputs.line id).edgeIn level = some r ∧ s.settles id = true

/-- The state at the settled edge: the rest of the settling time has passed and the settled level has its new value. -/
def State.atEdge (s : State) (id : InputId) (level : Bool) (r : Nat) : State :=
  let t := s.elapse r
  { t with inputs := t.inputs.setLine id { t.inputs.line id with settled := level, settling := .stopped } }

/-- 05 R78, R79: a cover of sensor `k` has no candidate: no item or pick candidate that can join the queue, or no entry whose lead
zone is `k − 1`. -/
def State.noCandidate (s : State) (k : Nat) : Prop :=
  if k = 1 then
    ∀ x, s.candidate = some x → (∃ e ∈ s.track.queue, e.serial = x) ∨ s.prof.capacity ≤ s.track.queue.length
  else ∀ e ∈ s.track.queue, e.leadZone + 1 ≠ k

/-- 05 R83, R85: an uncover of sensor `k` attributed to `e` comes before the trail minimum, at an entry whose timer jams are
detected: in RUNOUT those of run-out sheets alone. -/
def State.comesShort (s : State) (k : Nat) (e : Entry) : Prop :=
  e.trailAge < (s.zone k).trailMin ∧
    (s.path = .runout → ∃ r, s.record e.serial = some r ∧ (r.fate = some .park ∨ r.fate = some .deliver ∨ r.fate = some .purge))

/-- 07 R123: an attributed cover of sensor `k` is one that the imaging marker decides on. -/
def State.imagesAt (s : State) (k : Nat) : Prop :=
  s.hasRole .imaging = true ∧ s.prof.imageZone = k ∧ (s.path = .run ∨ s.path = .resuming)

/-- 07 R122, R123, 04 R72: the marker's decision on PASS for the sheet `x`, made in `s`, stands in `t`. The pending pass is that of the
effective sides imaged; the outstanding pass list has room and does not hold that side. -/
def State.passDecided (s t : State) (x : Serial) : Prop :=
  (s.record x = none → t.imaging = s.imaging) ∧
  ∀ r, s.record x = some r →
    let sides := r.sides + (s.imaging.passes.filter fun p => p.1 == x).length
    let pass := if r.purgeRouted then none else if sides = 0 then some r.frontPass
      else if sides = 1 ∧ r.duplex = true then r.backPass else none
    (pass = none → t.imaging = s.imaging) ∧
    ∀ p, pass = some p → s.imaging.passes.length < 8 → (x, sides + 1) ∉ s.imaging.passes →
      t.queued s.recovery.epoch (.pass x (sides + 1) p) ∧
      t.imaging = { passes := s.imaging.passes ++ [(x, sides + 1)], isync := .running 1 }

/-- 10 R165, R166, R167: what the delivery of the sheet `q`, not purged, into a finishing bin makes of the bin `b`: a sheet of the
open set joins it, but a 41st closes it with the oversize mark, or without one when it is the set's last (log 18); a sheet of
another set opens its own; one of the set of the oversize mark is not listed, and the last of it clears the mark; a bin that is
FINISHING, FINISH_PENDING or EJECTING stays. The last sheet of a listed set starts finishing. -/
def SheetRecord.listedIn (q : SheetRecord) (allowance : Nat) (b c : Bin) : Prop :=
  let mine : SetSheet := { serial := q.serial, index := q.index, front := q.front, back := q.back }
  let listed : Bin → Bin := fun d =>
    if q.last then { d with state := .finishing, fin := true, finish := .running allowance } else d
  let opened : Bin := listed
    { b with state := .open, oversize := none, openSet := some { job := q.job, set := q.set, sheets := [mine] } }
  (b.state = .empty → b.oversize = some (q.job, q.set) → c = if q.last then { b with oversize := none } else b) ∧
  (b.state = .empty → b.oversize ≠ some (q.job, q.set) → c = opened) ∧
  (∀ o, b.state = .open → b.openSet = some o →
    (o.job = q.job → o.set = q.set → o.sheets.length < 40 →
      c = listed { b with openSet := some { o with sheets := o.sheets ++ [mine] } }) ∧
    (o.job = q.job → o.set = q.set → 40 ≤ o.sheets.length →
      c = { b with state := .empty, openSet := none, oversize := if q.last then none else some (o.job, o.set) }) ∧
    (o.job ≠ q.job ∨ o.set ≠ q.set → c = opened)) ∧
  (b.state ∈ [BinState.finishing, .finishPending, .ejecting] → c = b)

/-- 11 R178: the item is in the revision list. -/
def State.inRevisionList (u : State) : RevisionContent → Bool
  | .removed x => u.recovery.revisions.contains (.removed x)
  | .unknown z => u.recovery.revisions.contains (.unknown u.own z)

/-- 11 R178: the findings of the two revision tests, the removed sheets first: an entry whose record rests (KEEP, PARK, RELEASE or
PURGE) and whose lead zone reads uncovered; a zone that reads covered, with no entry from trail to lead over it (05 R75), and not an
unknown zone of the clearing list or the revision list. Their order is log 67. -/
def State.revisionFindings (u : State) : List RevisionContent :=
  let rests := fun q : SheetRecord => q.fate == some .keep || q.fate == some .park || q.fate == some .release || q.fate == some .purge
  let known := fun k => u.recovery.fates.clearing.contains (u.own, .unknown k) || u.recovery.revisions.contains (.unknown u.own k)
  ((u.track.queue.filter fun e => (u.record e.serial).any rests && !u.covered e.leadZone).map fun e => .removed e.serial) ++
    (u.zones.filter fun k =>
      u.covered k && !(u.track.queue.any fun e => e.trailSensor ≤ k && k ≤ e.leadZone) && !known k).map .unknown

/-- 01 R20: a run-out sheet. -/
abbrev SheetRecord.runsOut (r : SheetRecord) : Prop := r.fate = some .park ∨ r.fate = some .deliver ∨ r.fate = some .purge

/-- 01 R20: an ARRIVED or DELIVERED for `r` is applied in this phase and survey stage. -/
abbrev State.takesCustody (s : State) (r : SheetRecord) : Prop :=
  s.roster.phase = .normal ∨ s.roster.stage ≠ .closed ∨ r.runsOut

/-- 01 R20: an OFFER, ACCEPT or DEFER of the epoch `e` is applied to `r` in this phase and survey stage. -/
abbrev State.takesHandoff (s : State) (e : Epoch) (r : SheetRecord) : Prop :=
  s.roster.phase = .normal ∨ s.roster.stage = .closed ∧ e = s.roster.epoch ∧ r.runsOut

/-- 06 R102, 10 R168: at an EXIT station an offered sheet is destined to a finishing bin that is closed to offers. -/
def State.finishingFails (s : State) (xs : List Serial) : Prop :=
  s.hasRole .exit = true ∧ ∃ x ∈ xs, s.isFinishing (s.targetBin x) = true ∧
    ((s.bin (s.targetBin x)).state ∈ [BinState.finishing, .finishPending, .ejecting] ∨
      ∃ y r, (y ∈ s.track.queue.map (·.serial) ∨ y ∈ s.track.expected.map (·.serial)) ∧ s.targetBin y = s.targetBin x ∧
        s.record y = some r ∧ r.last = true)

/-- 06 R102, 07 R118: at the MERGE station a single offered sheet is due for imaging and its pass is not the lowest pending one. -/
def State.orderFails (s : State) (xs : List Serial) : Prop :=
  s.hasRole .merge = true ∧ ∃ x r, xs = [x] ∧ s.record x = some r ∧ r.pending.isSome ∧ r.fate ≠ some .purge ∧
    r.pending ≠ s.lowestPending

/-- 05 R77, 06 R102, 07 R119, 10 R168: too little room, a serial that is there already or comes twice, a train with a sheet due for
imaging at the MERGE station, or one at an EXIT station in which a set's last sheet is followed by another for its bin. -/
def State.roomFails (s : State) (xs : List Serial) : Prop :=
  s.prof.capacity < s.track.queue.length + s.track.expected.length + xs.length ∧ xs ≠ [] ∨ ¬ xs.Nodup ∨
    (∃ x ∈ xs, x ∈ s.track.queue.map (·.serial) ∨ x ∈ s.track.expected.map (·.serial)) ∨
    (s.hasRole .merge = true ∧ 2 ≤ xs.length ∧
      ∃ x ∈ xs, ∃ r, s.record x = some r ∧ r.pending.isSome ∧ r.fate ≠ some .purge) ∨
    (s.hasRole .exit = true ∧ 2 ≤ xs.length ∧ ∃ pre x mid y post r, xs = pre ++ x :: mid ++ y :: post ∧
      s.record x = some r ∧ r.last = true ∧ s.targetBin y = s.targetBin x)

/-- 03 R50, R53: `chain` leads from the station `p` over downstream lists and present stations to an EXIT station. -/
def State.leads (s : State) : Pos → List Pos → Prop
  | p, [] => s.roleIs p .exit = true
  | p, q :: qs => q ∈ s.downs p ∧ s.isPresent q = true ∧ s.leads q qs

/-- 03 R45, 04 R74: `t` is `s` entered into SILENT: LINK emptied, the drive OFF, every output inactive. -/
def State.silentFrom (t s : State) : Prop :=
  t = { s with
    profileCrc := t.profileCrc, profileTimer := .stopped
    recovery.path := .silent, recovery.report := [], recovery.planOut := [], recovery.readyNext := false
    link.slot := none, link.queue := []
    drive := { state := .off, gate := false, div1 := false, div2 := false }
    feed.pickOut := false
    imaging.isync := .stopped
    exit.bins := s.exit.bins.map fun b => { b with fin := false } }

/-- 01 R19: what the opening of a recovery or of a new survey with the epoch `e` leaves of the roster, the survey record and the
holding-received marks. -/
def State.opensRecovery (s t : State) (e : Epoch) : Prop :=
  t.roster = { s.roster with
    epoch := e, phase := .recovery, stage := .open
    records := s.roster.records.map fun r => { r with handoff := none } } ∧
  (∀ p, (t.entry p).holdingReceived = false ∧ (t.entry p).lastReady = none) ∧ t.recovery.record = {}

/-- 08 R128, 11 R184: a frame that opens the epoch `e` is new to the station: it is in RUN, SURVEY, RUNOUT or RESUMING with another
epoch, or in CLEARANCE or PLAN. -/
abbrev State.behind (s : State) (e : Epoch) : Prop :=
  s.path ∈ [PathState.run, .survey, .runout, .resuming] ∧ e ≠ s.recovery.epoch ∨ s.path ∈ [PathState.clearance, .plan]

/-- 08 R128: the station has entered STOPPING with the epoch `e`. -/
abbrev State.caughtUp (t : State) (e : Epoch) : Prop :=
  t.recovery.path = .stopping ∧ t.recovery.epoch = e ∧ t.recovery.claim = .running 100 ∧
    t.recovery.lineHeld = .running 2000 ∧ t.den = false ∧ t.feed.pickOut = false

/-- 08 R133, R135: the jam list of `t` is that of `s` with `j` entered: merged, appended, or, on a full list, refused, which
escalates the recovery. -/
def State.jamEntered (s t : State) (j : JamEntry) : Prop :=
  ((∃ a ∈ s.recovery.jams, JamEntry.same j a = true) ∨ s.recovery.jams.length < 8 →
    (∃ a ∈ t.recovery.jams, JamEntry.same j a = true ∧ ∀ x ∈ j.named, x ∈ a.named)) ∧
  ((∀ a ∈ s.recovery.jams, JamEntry.same j a = false) → s.recovery.jams.length < 8 →
    t.recovery.jams = s.recovery.jams ++ [j]) ∧
  ((∀ a ∈ s.recovery.jams, JamEntry.same j a = false) → 8 ≤ s.recovery.jams.length →
    t.recovery.jams = s.recovery.jams ∧ t.recovery.escalated = true)

/-- The survey has closed (08 R140, 11 R175): the fates stand, the vote is empty, and a station in SURVEY has gone on. -/
def State.surveyClosed (s t : State) : Prop :=
  t.roster.stage = .closed ∧ t.recovery.clearanceEpoch = s.roster.epoch ∧ t.recovery.survey = .stopped ∧
    t.recovery.firstDigest = none ∧ (∀ p, (t.entry p).lastReady = none) ∧ t.recovery.fates.digest.isSome ∧
    t.roster.records.map (·.serial) = s.roster.records.map (·.serial) ∧ (∀ r ∈ t.roster.records, r.fate.isSome) ∧
    (s.path = .survey → t.path = .runout ∨ t.path = .clearance) ∧ (s.path ≠ .survey → t.path = s.path)

/-! ### The fates of a survey close (09 R146..R149), read back from the results -/

/-- 09 R146, the first to the sixth conditions (the third is among the sheets without a resting station), and the removed sheets of
the revision list (11 R180), for a record with the detail that the results hold of it. -/
abbrev State.lostOnTheSpot (t : State) (r : SheetRecord) (d : FateDetail) : Prop :=
  d.tray = false ∧
    ((∃ j ∈ t.recovery.jams, r.serial ∈ j.named ∧
        ∃ k ∈ [JamKind.late, .stall, .short, .blocked, .stray, .misfeed], j.kind = .jam k) ∨
      Revision.removed r.serial ∈ t.recovery.revisions ∨ d.rest = none ∨
      ∃ x ∈ d.rest, t.classIs x.station .mustRemove = true ∨
        (∃ p ∈ if r.purgeRouted then t.purgeAfter x.station else r.route.drop x.routeIndex, t.isAbsent p = true) ∨
        (d.picked = true ∧ t.classIs x.station .holds = false))

/-- 09 R146: the station `q` is obstructed for a path that ends at `last`. -/
abbrev State.obstructs (t : State) (last : Option Pos) (q : Pos) : Prop :=
  (t.classIs q .clearsDown = true ∧ ∃ e ∈ t.entriesAt q, e.serial = none ∨
    ∃ x ∈ e.serial, (x, q) ∉ t.recovery.fates.counted ∨
      ∃ r ∈ t.roster.records, r.serial = x ∧ ∃ d ∈ t.detail x, t.lostOnTheSpot r d) ∨
  (t.classIs q .holds = true ∧ last ≠ some q ∧ t.entriesAt q ≠ [])

/-- 09 R146: the run-out path from the resting station `start` is unusable. -/
abbrev State.pathFails (t : State) (start : Pos) (path : List Pos) : Prop :=
  (∃ q ∈ path, t.classIs q .mustRemove = true ∨ t.isAbsent q = true) ∨ ∃ q ∈ start :: path, t.obstructs path.getLast? q

/-- 09 R146: the first run-out path of a record resting at `x`. -/
abbrev State.firstPath (t : State) (r : SheetRecord) (x : Rest) : List Pos :=
  if r.purgeRouted then t.purgeAfter x.station else upTo (t.classIs · .holds) (r.route.drop x.routeIndex)

/-- 09 R146: LOST by physical condition. -/
abbrev State.lostByCondition (t : State) (r : SheetRecord) (d : FateDetail) : Prop :=
  t.lostOnTheSpot r d ∨
    d.tray = false ∧ ∃ x ∈ d.rest, t.classIs x.station .clearsDown = true ∧ t.pathFails x.station (t.firstPath r x)

/-- 09 R148: the sheet follows the horizon of its destination. -/
abbrev State.pastHorizon (t : State) (r : SheetRecord) : Prop :=
  r.purgeRouted = false ∧ ∃ h ∈ t.recovery.fates.horizons, h.exit = r.exit ∧ h.bin = r.bin ∧
    (r.serial = h.serial ∨ precedes h.serial r.serial = true)

/-- 09 R152: the purge space of the exit that ends the purge path of `p` holds every sheet and set that could claim it. -/
abbrev State.purgeSpaceFor (t : State) (p : Pos) : Prop :=
  ∃ exit ∈ (t.mapOf p).purgePath.bind List.getLast?,
    t.roster.records.length
      + (((t.recovery.fates.forfeited.filter fun f => f.exit == exit && !f.ejected).map (·.entries.length)).sum)
      ≤ (t.positionReport exit).purgeSpace

/-- 09 R148, R151, R152: a held purge, LOST where its purge path crosses an absent station, or where the purge space is too small. -/
abbrev State.purgedAtRest (t : State) (r : SheetRecord) (x : Rest) : Prop :=
  ((∃ p ∈ t.purgeAfter x.station, t.isAbsent p = true) → r.fate = some .lost) ∧
  ((∀ p ∈ t.purgeAfter x.station, t.isAbsent p = false) → r.fate = some .purge ∨ r.fate = some .lost) ∧
  ((∀ p ∈ t.purgeAfter x.station, t.isAbsent p = false) → t.purgeSpaceFor x.station → r.fate = some .purge)

/-- 09 R149, R152: a purge on the way along `path`, LOST where the purge space is too small. -/
abbrev State.purgedMoving (t : State) (r : SheetRecord) (d : FateDetail) (x : Rest) (path : List Pos) : Prop :=
  (r.fate = some .lost ∨ r.fate = some .purge ∧ d.moving = true ∧ d.runPath = path) ∧
    (t.purgeSpaceFor x.station → r.fate = some .purge)

/-- 09 R146, R148, R149, R153: the fate that a survey close gives the record `r` with the detail `d`. -/
def State.fateStands (t : State) (r : SheetRecord) (d : FateDetail) : Prop :=
  (d.tray = true → r.fate = some .keep ∧
    (d.withdrawn = true ↔
      r.purgeRouted = false ∧ ∃ h ∈ t.recovery.fates.horizons, h.exit = r.exit ∧ h.bin = r.bin)) ∧
  (d.tray = false → d.withdrawn = false) ∧
  (t.lostByCondition r d → r.fate = some .lost) ∧
  ∀ x ∈ d.rest, d.tray = false → ¬ t.lostByCondition r d →
    (t.classIs x.station .holds = true → d.moving = false ∧
      (r.purgeRouted = true → t.purgedAtRest r x) ∧
      (r.purgeRouted = false → ¬ t.pastHorizon r → r.fate = some .keep) ∧
      (t.pastHorizon r → r.sides ≠ 0 → t.purgedAtRest r x) ∧
      (t.pastHorizon r → r.sides = 0 →
        ((∃ e ∈ t.recovery.fates.reprint, e.carrier = some r.serial) → r.fate = some .release) ∧
        ((∀ e ∈ t.recovery.fates.reprint, e.carrier ≠ some r.serial) → t.purgedAtRest r x))) ∧
    (t.classIs x.station .clearsDown = true →
      let first := t.firstPath r x
      (r.purgeRouted = true → t.purgedMoving r d x first) ∧
      (r.purgeRouted = false → ¬ t.pastHorizon r → d.moving = true ∧ d.runPath = first ∧
        (∀ q ∈ first.getLast?, t.classIs q .holds = true → q ≠ r.exit →
          r.fate = some .park ∧ d.parkTarget = some q) ∧
        ((∀ q ∈ first.getLast?, t.classIs q .holds = true → q = r.exit) → r.fate = some .deliver)) ∧
      (t.pastHorizon r →
        (t.pathFails x.station (t.purgeAfter x.station) → r.fate = some .lost) ∧
        (¬ t.pathFails x.station (t.purgeAfter x.station) → t.purgedMoving r d x (t.purgeAfter x.station))))

/-- A record LOST under 09 R146 that gives its destination a horizon. -/
abbrev State.setsHorizon (t : State) (exit : Pos) (bin : Nat) (r : SheetRecord) : Prop :=
  r ∈ t.roster.records ∧ r.purgeRouted = false ∧ r.exit = exit ∧ r.bin = bin ∧ ∃ d ∈ t.detail r.serial, t.lostByCondition r d

/-- 09 R147: `r` is the horizon record of its destination: the earliest, in modular order, of those that give it a horizon. -/
abbrev State.horizonRecord (t : State) (exit : Pos) (bin : Nat) (r : SheetRecord) : Prop :=
  t.setsHorizon exit bin r ∧
    ∀ q ∈ t.roster.records, t.setsHorizon exit bin q → q.serial = r.serial ∨ precedes r.serial q.serial = true

/-- 09 R147: the open set of the exit station that the horizon record `r` of its destination forfeits. -/
abbrev State.forfeits (t : State) (r : SheetRecord) (l : SurveySet) : Prop :=
  (∃ m ∈ t.summaryOf r.exit, m.policy = .forfeit ∧ 1 ≤ r.bin ∧ m.bins[r.bin - 1]? = some .finishing) ∧
    (t.positionReport r.exit).sets.find? (fun x => x.bin == r.bin && x.complete) = some l ∧ l.job = r.job ∧ l.set = r.set ∧
    ∀ f ∈ t.recovery.account.ejected, ¬ (f.exit = r.exit ∧ f.bin = r.bin ∧ f.job = l.job ∧ f.set = l.set)

/-- 09 R147: the horizons and the forfeited sets of a survey close. -/
def State.horizonsStand (t : State) : Prop :=
  (∀ h ∈ t.recovery.fates.horizons, ∃ r ∈ t.roster.records, t.setsHorizon h.exit h.bin r) ∧
  (∀ r ∈ t.roster.records, t.setsHorizon r.exit r.bin r → ∃ h ∈ t.recovery.fates.horizons, h.exit = r.exit ∧ h.bin = r.bin ∧
    (t.horizonRecord r.exit r.bin r →
      ((∀ f ∈ t.recovery.fates.forfeited, ¬ (f.exit = r.exit ∧ f.bin = r.bin)) → h.serial = r.serial) ∧
      ∀ l ∈ (t.positionReport r.exit).sets, t.forfeits r l →
        (∃ f ∈ t.recovery.fates.forfeited, f.exit = r.exit ∧ f.bin = r.bin ∧ f.job = l.job ∧ f.set = l.set ∧
          f.media = r.media ∧ f.entries = l.entries ∧ f.ejected = false) ∧
        ((∀ f ∈ t.recovery.account.ejected, ¬ (f.exit = r.exit ∧ f.bin = r.bin)) → ∀ e ∈ l.entries.head?,
          h.serial = if precedes e.serial r.serial then e.serial else r.serial))) ∧
  (∀ f ∈ t.recovery.fates.forfeited,
    (f.ejected = true ∧ ∃ g ∈ t.recovery.account.ejected, f = { g with eject := true, ejected := true, complete := true }) ∨
    (f.ejected = false ∧ ∃ r ∈ t.roster.records, t.setsHorizon f.exit f.bin r ∧
      ∃ l ∈ (t.positionReport f.exit).sets, t.forfeits r l ∧ f.entries = l.entries ∧ f.job = l.job ∧ f.set = l.set))

/-- 09 R150: the item of a record that the reprint list holds. -/
def SheetRecord.reprintItem (r : SheetRecord) : PlanEntryFields :=
  { replaced := r.serial, front := r.front, back := r.back.getD 0, job := r.job, set := r.set, idx := r.index, last := r.last
    duplex := r.duplex, media := r.media, exit := r.exit, bin := r.bin, reprintOf := r.reprintOf }

/-- 09 R150: the item of a sheet of a forfeited set. -/
def ForfeitedSet.reprintItem (f : ForfeitedSet) (x : SetEntry) : PlanEntryFields :=
  { replaced := x.serial, front := x.front, back := x.back, job := f.job, set := f.set, idx := x.index, last := false
    duplex := decide (x.back ≠ 0), media := f.media, exit := f.exit, bin := f.bin }

/-- 09 R150: the list holds an entry with the fields of `i`, whatever its index, its carrier and its last-entry flag. -/
abbrev State.reprints (t : State) (i : PlanEntryFields) : Prop :=
  ∃ e ∈ t.recovery.fates.reprint, e = { i with index := e.index, carrier := e.carrier, lastEntry := e.lastEntry }

/-- 09 R150: a sheet given up, and not purge-routed. -/
abbrev SheetRecord.givenUp (r : SheetRecord) : Prop :=
  r.purgeRouted = false ∧ (r.fate = some .lost ∨ r.fate = some .purge ∨ r.fate = some .release)

/-- 09 R156: the fate code of a record. -/
def State.fateCode (t : State) (r : SheetRecord) : Byte :=
  match r.fate with
  | some .park => 2
  | some .deliver => 3
  | some .purge => 4
  | some .release => 5
  | some .lost => 6
  | _ => if (t.detail r.serial).any (·.withdrawn) then 7 else 1

/-- 11 R179, R182, R186: a frame of the clearance epoch, after the survey close of a recovery. -/
abbrev State.clearanceFrame (s : State) (f : RxFrame) : Prop :=
  s.roster.phase = .recovery ∧ s.roster.stage = .closed ∧ f.epoch = s.recovery.clearanceEpoch ∧ 1 ≤ f.sender ∧ f.sender ≤ 16

/-- The blocks that replicate what every station holds (00_scope.md): the roster, and RECOVERY's replicated items. -/
def State.sameReplica (s t : State) : Prop :=
  t.roster = s.roster ∧ t.recovery.jams = s.recovery.jams ∧ t.recovery.escalated = s.recovery.escalated ∧
    t.recovery.record = s.recovery.record ∧ t.recovery.fates = s.recovery.fates ∧ t.recovery.account = s.recovery.account ∧
    t.recovery.clearanceEpoch = s.recovery.clearanceEpoch ∧ t.recovery.revisions = s.recovery.revisions ∧
    t.recovery.firstDigest = s.recovery.firstDigest ∧ t.recovery.mismatch = s.recovery.mismatch ∧
    t.recovery.resurvey = s.recovery.resurvey ∧ t.recovery.planIn = s.recovery.planIn

/-- The local blocks of the segment: TRACK, HANDOFF, FEED, IMAGING, EXIT, DRIVE and the input lines. -/
def State.sameSegment (s t : State) : Prop :=
  t.track = s.track ∧ t.handoff = s.handoff ∧ t.feed = s.feed ∧ t.imaging = s.imaging ∧ t.exit = s.exit ∧
    t.drive = s.drive ∧ t.inputs = s.inputs

/-- What lies outside the path's own work: the waiting commands, the profile, its CRC and timer, and the input lines. -/
abbrev State.sameSetup (s t : State) : Prop :=
  t.pending = s.pending ∧ t.profile = s.profile ∧ t.profileCrc = s.profileCrc ∧ t.profileTimer = s.profileTimer ∧
    t.inputs = s.inputs

/-- The receive side of LINK: the receive queue, the back-off and the sensed level of the stop line. -/
abbrev State.sameReception (s t : State) : Prop :=
  t.link.rx = s.link.rx ∧ t.link.backoff = s.link.backoff ∧ t.link.lineLow = s.link.lineLow

/-- A timer of `s` with `r` ms left that runs. -/
abbrev Timer.runsOutIn (t : Timer) (runs : Bool) (r : Nat) : Prop := t = .running r ∧ runs = true

/-- An entry without its offer state, which HANDOFF keeps. -/
def Entry.motion (e : Entry) : Entry := { e with offer := .unoffered }

end Sys2Proof.Machine
end

