-- ==== Sys2Proof/Certificates/Slice0/Obligations.lean ====
section
/-! DEFINITION. The statements for the provers. -/

section

open Sys2Proof Sys2Proof.Machine

/-! ### The machine -/

/-- A step takes the command at the front of the queue and is that command's effect on the state with the queue's rest. -/
def Obligations.StepRunsFront : Prop :=
  ∀ (c : Instr) (s : State) (rest : List Instr), s.pending = c :: rest → step s = exec c { s with pending := rest }

/-- The model's choice (log 1): with no command waiting the station queues the events that are due, or 1 ms passes. -/
def Obligations.IdleStep : Prop :=
  ∀ s : State, s.pending = [] →
    (s.dueEvents = [] → step s = .next (s.elapse 1)) ∧
    (s.dueEvents ≠ [] → step s = .next { s with pending := s.dueEvents })

/-- Every command has a next state, and leaves the queue of waiting commands alone. -/
def Obligations.EveryCommandCompletes : Prop :=
  ∀ (c : Instr) (s : State), ∃ t, exec c s = .next t ∧ t.pending = s.pending

/-- What RESET leaves (01 R23, 02 R41, 03 R43, R47, R52, 04 R74, 05 R93, 06 R94, R104, 07 R112, R122, 08 R142, 09 R143, R144,
10 R174, 11 R175). What the manual gives no value for, the tray state before the first settling among it, is log 10 and 33, the
state named profileRead log 25, the purge count of 0 until it is taken log 24. -/
def Obligations.ResetValues : Prop :=
  ∀ (low : Bool) (s : State), s.shapeLaw → ∃ t, exec (.reset low) s = .next t ∧
    t.pending = s.pending ∧ t.profile = none ∧ t.profileTimer = .running 50 ∧
    (∀ id ∈ allInputs, t.inputs.line id =
      { raw := (s.inputs.line id).raw, settled := false, settling := .running 3, first := true }) ∧
    (t.link.slot = none ∧ t.link.queue = [] ∧ t.link.rx = [] ∧ t.link.outOfStep = false ∧ t.link.lineLow = low ∧
      t.pulling = false) ∧
    (t.table.entries = List.replicate 16
        { presence := .unknown, summary := none, silence := .stopped, lastReady := none
          holdingReceived := false, restarted := false, duplicated := false } ∧
      t.table.map = List.replicate 16 { downstream := [], upstream := [], purgePath := none }) ∧
    (t.roster.records = [] ∧ t.roster.phase = .normal ∧ t.roster.stage = .notApplicable ∧ t.roster.lastSerial = none ∧
      t.roster.epoch = 0 ∧ t.roster.planInForce = none) ∧
    (t.track.queue = [] ∧ t.track.expected = [] ∧ t.track.strays = [false, false, false, false] ∧
      t.track.pickCandidate = none ∧ t.track.pickTimer = .stopped ∧ t.attributes = false) ∧
    (t.handoff.offers = [] ∧ t.handoff.deferred = []) ∧
    (t.feed.pick = .idle ∧ t.feed.crossing = .armed ∧ t.feed.retries = 0 ∧ t.feed.pickOut = false ∧ t.feed.tray = .empty) ∧
    (t.imaging.passes = [] ∧ t.isync = false) ∧
    (t.exit.bins = List.replicate 3
        { state := .empty, openSet := none, oversize := none, trayStray := false, finish := .stopped, fin := false } ∧
      t.exit.purgeCount = 0) ∧
    (t.drive.state = .off ∧ t.drive.spin = .stopped ∧ t.drive.halt = .stopped ∧ t.drive.fresh = false ∧
      t.drive.gate = false ∧ t.drive.div1 = false ∧ t.drive.div2 = false ∧ t.den = false) ∧
    (t.recovery.path = .profileRead ∧ t.recovery.restarted = false ∧ t.recovery.following = false) ∧
    (t.recovery.fates.details = [] ∧ t.recovery.fates.horizons = [] ∧ t.recovery.fates.forfeited = [] ∧
      t.recovery.fates.reprint = [] ∧ t.recovery.fates.omitted = 0 ∧ t.recovery.fates.withdrawn = 0 ∧
      t.recovery.fates.clearing = [] ∧ t.recovery.fates.digest = none ∧ t.recovery.account.purged = [] ∧
      t.recovery.account.ejected = []) ∧
    (t.recovery.claim = .stopped ∧ t.recovery.lineHeld = .stopped ∧ t.recovery.survey = .stopped ∧
      t.recovery.driveJam = false ∧ t.recovery.report = [] ∧ t.recovery.epoch = 0 ∧ t.recovery.jams = [] ∧
      t.recovery.record.reports = [] ∧ t.recovery.escalated = false ∧ t.recovery.doorMark = false) ∧
    (t.recovery.clearanceEpoch = 0 ∧ t.recovery.revisions = [] ∧ t.recovery.firstDigest = none ∧ t.recovery.mismatch = 0 ∧
      t.recovery.resurvey = none ∧ t.recovery.pendingRevs = [] ∧ t.recovery.planIn.header = none ∧
      t.recovery.planIn.entries = [])

/-- The laws hold of the machine right after reset. -/
def Obligations.LawsAtReset : Prop :=
  State.reset.queueLaw ∧ State.reset.rosterLaw ∧ State.reset.fateLaw ∧ State.reset.jamLaw ∧ State.reset.occupancyLaw ∧
    State.reset.expectedLaw ∧ State.reset.purgeLaw ∧ State.reset.setLaw ∧ State.reset.shapeLaw

/-! ### Laws that every step keeps -/

/-- 02 R32, R33: never more than 24 frames in the receive queue and 8 in the transmit queue. -/
def Obligations.QueueLawKept : Prop := ∀ s t : State, s.queueLaw → step s = .next t → t.queueLaw

/-- 01 R1, R3: at most 48 records, no two of one serial, a back pass for each duplex sheet and for no other. -/
def Obligations.RosterLawKept : Prop := ∀ s t : State, s.rosterLaw → step s = .next t → t.rosterLaw

/-- 01 R19, R20, R21: no record has a fate in phase NORMAL, every record has one from the survey close on, and a record that
has a fate keeps one until the final PLAN frame ends the recovery, a new survey or not. -/
def Obligations.FateLawKept : Prop :=
  (∀ s t : State, s.fateLaw → step s = .next t → t.fateLaw) ∧
  (∀ s t : State, s.rosterLaw → step s = .next t → t.roster.phase = .recovery →
    ∀ r ∈ s.roster.records, r.fate.isSome → ∀ q ∈ t.roster.records, q.serial = r.serial → q.fate.isSome)

/-- 08 R133: at most 8 jam-list entries, no two of the same epoch, kind and station. -/
def Obligations.JamLawKept : Prop := ∀ s t : State, s.jamLaw → step s = .next t → t.jamLaw

/-- 05 R76, R77, 10 R173: the occupancy queue holds at most the profile capacity, with no serial twice; the expected-arrivals
list holds no serial twice; an exit station's purge count never exceeds its purge capacity. -/
def Obligations.OccupancyLawsKept : Prop :=
  (∀ s t : State, s.occupancyLaw → step s = .next t → t.occupancyLaw) ∧
  (∀ s t : State, s.expectedLaw → step s = .next t → t.expectedLaw) ∧
  (∀ s t : State, s.purgeLaw → step s = .next t → t.purgeLaw)

/-- 10 R164, 04 R69, 05 R87, 03 R52, R53: an open set has at most 40 sheets; the numbers of input lines, stray flags, bins,
table entries and map entries stay as they are. -/
def Obligations.ShapeLawsKept : Prop :=
  (∀ s t : State, s.shapeLaw → step s = .next t → t.shapeLaw) ∧
  (∀ s t : State, s.setLaw → step s = .next t → t.setLaw)

/-- 11 R182: a station enters PLAN only holding a READY(clear) of the current epoch with its own digest from every present
station. -/
def Obligations.PlanNeedsTheVote : Prop :=
  ∀ s t : State, step s = .next t → s.path ≠ .plan → t.path = .plan →
    t.presentList ≠ [] ∧ t.recovery.fates.digest.isSome ∧
      ∀ p ∈ t.presentList,
        (t.entry p).lastReady = some { clear := true, digest := t.ownDigest, epoch := t.recovery.clearanceEpoch }

/-- 07 R118: the merge station admits a sheet only while its pending pass is the lowest pending pass of the roster. -/
def Obligations.MergeAdmitsLowestPass : Prop :=
  ∀ (s t : State) (i : ExpItem), step s = .next t → s.hasRole .merge = true → i ∈ t.track.expected →
    (∀ j ∈ s.track.expected, j.serial ≠ i.serial) → t.dueForImaging i.serial = true →
    ∃ r, t.record i.serial = some r ∧ r.pending = t.lowestPending

/-! ### Frames on the link -/

/-- 02 R24, R25, R42: a frame that a sender builds is read back with every field. The byte layouts the manual does not give are
log 8; that a plan entry's reprint-of serial, for which R42's 21 bytes have no place, is read back too is log 48. -/
def Obligations.BuiltFramesReadBack : Prop :=
  ∀ (sender : Pos) (epoch : Epoch) (p : Payload), sender ≤ 16 → p.wf = true →
    (WireFrame.build sender epoch p).read = .good sender epoch p

end

section

open Sys2Proof Sys2Proof.Machine

/-! ### Profile and first settling -/

/-- 03 R43, R44, R46, 04 R68: with a good profile, whose fields are in their ranges, the station discards its receive queue,
takes the profile and enters LISTEN, its diverter at home; nothing else changes but an EXIT station's purge count, taken from
the level of PEMPTY at its first settling (10 R174), the retry count, and the tray state at a station other than FEED (07
R112). The purge count waits for the first settling (log 24). The home of an empty downstream list outside EXIT is log 66. -/
def Obligations.GoodProfileEntersListen : Prop :=
  ∀ (r : ProfileRecord) (bytes : List Byte) (check : Crc) (p : Profile) (s : State),
    s.path = .profileRead → crc16 bytes = check → checkProfile r = some p →
    (p.position = r.position ∧ 1 ≤ p.position ∧ p.position ≤ 16 ∧ 1 ≤ p.capacity ∧ p.capacity ≤ 6 ∧
      1 ≤ p.zones.length ∧ p.zones.length ≤ 4 ∧ p.zones = r.zones ∧ p.zones.all zoneOk = true ∧
      p.downstream.length ≤ 2 ∧ (p.role = .exit → p.downstream = [] ∧ 1 ≤ p.bins.length ∧ p.bins.length ≤ 3 ∧
        10 ≤ p.purgeCapacity ∧ p.purgeCapacity ≤ 250) ∧
      (p.role = .feed → p.media ≤ 15 ∧ 1 ≤ p.demandThreshold ∧ p.demandThreshold ≤ 8) ∧
      (p.role = .imaging → 1 ≤ p.imageZone ∧ p.imageZone ≤ p.zones.length)) ∧
    ∃ t,
      exec (.profileReadDone r bytes check) s = .next t ∧
      t.exit.bins = s.exit.bins ∧ t.exit.firstPempty = s.exit.firstPempty ∧
      (∀ high, s.exit.firstPempty = some high → p.role = .exit → t.exit.purgeCount = if high then 0 else p.purgeCapacity) ∧
      (s.exit.firstPempty = none ∨ p.role ≠ .exit → t.exit.purgeCount = s.exit.purgeCount) ∧
      t = { s with
        profile := some p, profileCrc := check, profileTimer := .stopped
        link.rx := []
        recovery.path := .listen
        table.listen := .running 1500
        feed.retries := if p.role = .feed then p.pickRetries else 0
        feed.tray := if p.role = .feed then s.feed.tray else .empty
        handoff.offers := p.downstream.map fun d => { dest := d.1, state := .idle, offered := [], free := none }
        drive.div1 := p.homeDiverter.1, drive.div2 := p.homeDiverter.2
        exit := t.exit }

/-- 03 R43, R45, 04 R74: a bad profile, or none within 50 ms, sends the station to SILENT: LINK's queues are emptied, the drive
is OFF and every output inactive; the profile CRC is the check value read, or 0 after a failed read. The CRC of a failed read
is log 33. -/
def Obligations.BadProfileEntersSilent : Prop :=
  ∀ s : State, s.path = .profileRead → s.profile = none →
    (∀ (r : ProfileRecord) (bytes : List Byte) (check : Crc), (crc16 bytes ≠ check ∨ checkProfile r = none) → ∃ t,
      exec (.profileReadDone r bytes check) s = .next t ∧ t.profileCrc = check ∧ t.silentFrom s) ∧
    ∃ t, exec .profileReadTimeout s = .next t ∧ t.profileCrc = 0 ∧ t.silentFrom s

/-- 04 R69, R74: what a change of a pin starts, starts afresh or abandons; no other input and nothing else changes. -/
def Obligations.RawChangeStartsSettling : Prop :=
  ∀ (id : InputId) (level : Bool) (s : State), s.shapeLaw → id.wf = true → ∃ t,
    exec (.rawInputChange id level) s = .next t ∧ t = { s with inputs := t.inputs } ∧
    (∀ other : InputId, other ≠ id → t.inputs.line other = s.inputs.line other) ∧
    let l := s.inputs.line id
    t.inputs.line id =
      if l.raw = level then l
      else if s.settles id = false then { l with raw := level }
      else if l.first = true then { l with raw := level, settling := .running 3 }
      else if l.settled = level then { l with raw := level, settling := .stopped }
      else { l with raw := level, settling := .running 3 }

/-- 04 R69, R74, 07 R112, 10 R174: each input settles for the first time on its own, once its raw level has held: the settled
level is the raw level, with no edge, while the others settle on. TEMPTY gives the feed unit its tray state, PEMPTY the exit
unit its purge count, but in the closed states. The time until the next input has settled passes with the event (log 3). -/
def Obligations.FirstSettlingTakesLevels : Prop :=
  ∀ s : State, s.shapeLaw → (∃ id ∈ allInputs, (s.inputs.line id).first = true) → ∃ t,
    exec .firstSettling s = .next t ∧
    (∀ id ∈ allInputs, ∀ r, (s.inputs.line id).first = true → (s.inputs.line id).settling = .running r →
      s.firstTime ≤ r ∧
      t.inputs.line id = if r = s.firstTime
        then { raw := (s.inputs.line id).raw, settled := (s.inputs.line id).raw, settling := .stopped, first := false }
        else { s.inputs.line id with settling := .running (r - s.firstTime) }) ∧
    ((∀ id ∈ allInputs, (s.inputs.line id).first = true → ∃ r, r ≤ 3 ∧ (s.inputs.line id).settling = .running r) →
      ∃ id ∈ allInputs, (s.inputs.line id).first = true ∧ (t.inputs.line id).first = false) ∧
    (s.hasRole .feed = true → closedPath s.path = false → s.inputs.tempty.first = true → t.inputs.tempty.first = false →
      t.feed.tray = if t.reads .tempty then .empty else .loaded) ∧
    (s.inputs.tempty.first = t.inputs.tempty.first ∨ closedPath s.path = true → t.feed.tray = s.feed.tray) ∧
    (closedPath s.path = false → s.inputs.pempty.first = true → t.inputs.pempty.first = false →
      t.exit.firstPempty = some (t.reads .pempty) ∧
      (s.hasRole .exit = true → t.exit.purgeCount = if t.reads .pempty then 0 else s.prof.purgeCapacity)) ∧
    (s.inputs.pempty.first = t.inputs.pempty.first ∨ closedPath s.path = true →
      t.exit.firstPempty = s.exit.firstPempty ∧ t.exit.purgeCount = s.exit.purgeCount) ∧
    t.link = s.link ∧ t.roster = s.roster ∧ t.recovery.path = s.recovery.path ∧
    t = { s.elapse s.firstTime with
          inputs := t.inputs, feed.tray := t.feed.tray
          exit := { (s.elapse s.firstTime).exit with purgeCount := t.exit.purgeCount, firstPempty := t.exit.firstPempty } }

/-! ### Zone sensors -/

/-- 05 R78, R82, R83: a cover of sensor 1 attributed to its candidate appends an entry at the tail, with lead zone and trail
sensor 1 and both timers loaded, and takes the candidate away; sensor 1 reads covered; the other entries stay. In RUN, RUNOUT
and RESUMING an ARRIVED is queued (05 R81, 06 R106, 07 R114), and at an IMAGING station whose image zone is zone 1 the marker
decides on PASS (07 R123). The time still to go passes with the event (log 3). -/
def Obligations.Sensor1CoverAppendsEntry : Prop :=
  ∀ (s : State) (r : Nat) (x : Serial), s.shapeLaw → s.edgeDue (.sensor 1) true r →
    let u := s.atEdge (.sensor 1) true r
    u.attributes = true → u.candidate = some x → (∀ e ∈ u.track.queue, e.serial ≠ x) →
    u.track.queue.length < u.prof.capacity → ∃ t more,
      exec .sensor1Cover s = .next t ∧ t.covered 1 = true ∧
      t.track.queue.map (·.serial) = u.track.queue.map (·.serial) ++ [x] ∧
      t.track.queue.map (·.leadZone) = u.track.queue.map (·.leadZone) ++ [1] ∧
      t.track.queue.map (·.trailSensor) = u.track.queue.map (·.trailSensor) ++ [1] ∧
      t.track.queue.map (·.source) = u.track.queue.map (·.source) ++ [if u.hasRole .feed then .pick else .arrival] ∧
      (∃ e ∈ t.track.queue, e.serial = x ∧ e.trail = .running (u.zone 1).trail ∧
        e.lead = if 1 < u.lastSensor then .running (u.zone 1).lead else .stopped) ∧
      (u.hasRole .feed = true → t.track.pickCandidate = none ∧ t.feed.pick = .idle ∧ t.feed.pickOut = false ∧
        t.track.pickTimer = .stopped) ∧
      (u.hasRole .feed = false → t.track.expected = dropHead u.track.expected ++ more) ∧
      (movingPath u.path = true → u.txRoom = true → t.queued u.recovery.epoch (.arrived x (u.hasRole .feed))) ∧
      (movingPath u.path = false → t.link = u.link) ∧
      (u.imagesAt 1 → u.link.queue.length < 7 → u.passDecided t x) ∧ (¬ u.imagesAt 1 → t.imaging = u.imaging) ∧
      t.roster = u.roster ∧ t.table = u.table ∧ State.sameReception u t ∧ State.sameSetup u t

/-- 05 R87, R92, R93: a cover with no candidate sets the zone's stray flag, and detects STRAY in RUN and RUNOUT; nothing else
changes. Covers are attributed in RUN, STOPPING, RUNOUT and RESUMING, once the station has entered RUN; where they are not, a
cover changes nothing but the level. The time still to go passes with the event (log 3). -/
def Obligations.StrayCoverSetsFlag : Prop :=
  ∀ (s : State) (k r : Nat), s.shapeLaw → 1 ≤ k → k ≤ 4 → s.edgeDue (.sensor k) true r →
    let u := s.atEdge (.sensor k) true r
    let c : Instr := if k = 1 then .sensor1Cover else .sensorKCover k
    (u.attributes = true ↔
      u.track.attributing = true ∧ u.path ∈ [PathState.run, .stopping, .runout, .resuming]) ∧
    (u.attributes = false → exec c s = .next u) ∧
    (u.attributes = true → u.noCandidate k → ∃ t,
      exec c s = .next t ∧ t.strayFlag k = true ∧ (∀ j, 1 ≤ j → j ≠ k → t.strayFlag j = u.strayFlag j) ∧
      (u.path = .run ∨ u.path = .runout → u.canClaim → t.jamQueued .stray k none) ∧
      (u.path = .stopping ∨ u.path = .resuming → t.link = u.link) ∧
      State.sameReception u t ∧ t = { u with link := t.link, track.strays := t.track.strays })

/-- 05 R79, R81, R82, R91, 06 R96, R97, 07 R123: a cover of sensor k from 2 to Z goes to the oldest entry with lead zone k − 1:
its lead zone becomes k and its lead timer is loaded, or stopped at the last sensor, in STOPPING in its parked context too. No
other entry changes, its offer state apart. A cover of the image zone has the marker decide on PASS. A cover of the last sensor
in RUN offers the candidate, with the train behind it that the declared free count takes, when its offer record is IDLE. The
time still to go passes with the event (log 3). -/
def Obligations.SensorKCoverMovesLead : Prop :=
  ∀ (s : State) (k r : Nat) (e : Entry) (pre post : List Entry), 2 ≤ k → s.edgeDue (.sensor k) true r →
    let u := s.atEdge (.sensor k) true r
    let load : Timer := if k < u.lastSensor then .running (u.zone k).lead else .stopped
    u.attributes = true → u.track.queue = pre ++ e :: post → e.leadZone + 1 = k →
    (∀ f ∈ pre, f.leadZone + 1 ≠ k) → ∃ t,
      exec (.sensorKCover k) s = .next t ∧
      t.track.queue.map Entry.motion =
        (pre ++ { e with leadZone := k, lead := load
                         parked := if u.path = .stopping then e.parked.map (fun c => { c with lead := load }) else e.parked }
          :: post).map Entry.motion ∧
      (u.imagesAt k → u.link.queue.length < 7 → u.passDecided t e.serial) ∧ (¬ u.imagesAt k → t.imaging = u.imaging) ∧
      (u.path = .stopping → t.link = u.link ∧ t.handoff = u.handoff) ∧
      (∀ q dest o, k = u.lastSensor → u.path = .run → u.hasRole .exit = false → e.offer = .unoffered →
        (∀ f ∈ pre, f.offer ≠ .unoffered) → u.record e.serial = some q → q.stage = .fed → q.holder = some u.own →
        u.nextStation q = some dest → u.isAbsent dest = false → u.offerTo dest = some o → o.state = .idle →
        u.link.queue.length < 7 →
        let joins : Entry → Bool := fun f => f.offer == .unoffered &&
          (u.record f.serial).any fun x => x.stage == .fed && x.holder == some u.own && u.nextStation x == some dest
        let run := (((e :: post).takeWhile joins).take 6).map (·.serial)
        let n := min run.length (o.free.getD 0)
        let xs := if 2 ≤ n then run.take n else [e.serial]
        t.queued u.recovery.epoch (.offer dest xs (u.zone k).lead (u.zone k).trail) ∧
        t.offerTo dest = some
          { o with state := .awaiting, offered := xs, answer := .stopped, reoffer := .stopped, retryMet := false } ∧
        (∀ g ∈ t.track.queue, g.serial ∈ xs → g.offer = .offered) ∧
        (∀ d, u.prof.downstream.find? (fun d => d.1 == dest) = some d → (t.drive.div1, t.drive.div2) = divOutputs d.2)) ∧
      t.track = { u.track with queue := t.track.queue } ∧ t.roster = u.roster ∧ t.table = u.table ∧ t.exit = u.exit ∧
      t.recovery = u.recovery ∧ t.feed = u.feed ∧ State.sameReception u t ∧ State.sameSetup u t

/-- 05 R80, R83, R85, R86, R91: an uncover of a sensor k below Z goes to the oldest entry with trail sensor k: its trail sensor
becomes k + 1 and its trail timer is loaded, in STOPPING in its parked context too; SHORT is detected when the uncover comes
before the trail minimum, but in RUNOUT for a sheet that is not run out. The time still to go passes with the event (log 3). The
age that SHORT compares is log 12, the sheets of RUNOUT log 13. -/
def Obligations.UncoverMovesTrail : Prop :=
  ∀ (s : State) (k r : Nat) (e : Entry) (pre post : List Entry), s.edgeDue (.sensor k) false r →
    let u := s.atEdge (.sensor k) false r
    let z := u.zone (k + 1)
    u.attributes = true → k ≠ u.lastSensor → u.track.queue = pre ++ e :: post →
    e.trailSensor = k → k ≤ e.leadZone → (∀ f ∈ pre, f.trailSensor ≠ k ∨ f.leadZone < k) → ∃ t,
      exec (.sensorUncover k) s = .next t ∧
      t.track.queue =
        pre ++ { e with
          trailSensor := k + 1, trail := .running z.trail, trailAllow := z.trail, trailAge := 0
          parked := if u.path = .stopping then e.parked.map (fun c => { c with trail := .running z.trail, trailAllow := z.trail })
            else e.parked } :: post ∧
      (u.comesShort k e → u.canClaim → t.jamQueued .short k (some e.serial)) ∧
      (¬ u.comesShort k e → t.link = u.link) ∧
      State.sameReception u t ∧ State.sameSetup u t ∧
      t = { u with link := t.link, track := t.track, feed := t.feed } ∧ t.track.expected = u.track.expected ∧
      t.track.strays = u.track.strays

/-- 05 R80, R83, R85, R86, 10 R163, R165, R166, R167, R173: the uncover of the last sensor takes the entry off the queue,
detecting SHORT when it comes before the trail minimum. At an EXIT station in RUN, RUNOUT and RESUMING it queues DELIVERED with
the bin the diverter stands at; a delivery into the purge bin raises the purge count by one, up to the purge capacity, and one
into a finishing bin of a sheet that is not purged joins, opens, breaks or passes by the bin's set, and the last sheet of a set
starts finishing. In STOPPING no delivery is made. The time still to go passes with the event (log 3). The age that SHORT
compares is log 12, the sheets of RUNOUT log 13, a 41st sheet that is its set's last log 18. -/
def Obligations.LastUncoverIsDeparture : Prop :=
  ∀ (s : State) (k r : Nat) (e : Entry), s.edgeDue (.sensor k) false r →
    let u := s.atEdge (.sensor k) false r
    let n := u.diverterBin
    let delivers : Prop := u.hasRole .exit = true ∧ movingPath u.path = true
    let noEjection : Prop := u.path = .runout → ∀ f ∈ u.recovery.fates.forfeited, f.eject = false
    u.attributes = true → k = u.lastSensor → u.uncoverEntry k = some e → ∃ t,
      exec (.sensorUncover k) s = .next t ∧
      t.track.queue.map (·.serial) = (u.track.queue.map (·.serial)).filter (· != e.serial) ∧
      (u.comesShort k e → u.canClaim → t.jamQueued .short k (some e.serial)) ∧
      (delivers → u.txRoom = true → u.link.slot = none → t.queued u.recovery.epoch (.delivered e.serial n)) ∧
      (delivers → noEjection → t.exit.purgeCount =
        if n = 0 then min (u.exit.purgeCount + 1) u.prof.purgeCapacity else u.exit.purgeCount) ∧
      (delivers → noEjection → (∀ m, m ≠ n → t.bin m = u.bin m) ∧
        (u.isFinishing n = false → t.bin n = u.bin n) ∧
        ((∀ q, u.record e.serial = some q → q.purgeRouted = true ∨ q.fate = some .purge) → t.bin n = u.bin n) ∧
        ∀ q, u.isFinishing n = true → u.record e.serial = some q → q.purgeRouted = false → q.fate ≠ some .purge →
          (s.shapeLaw → q.listedIn u.prof.finishAllowance (u.bin n) (t.bin n)) ∧
          ∀ o, (u.bin n).state = .open → (u.bin n).openSet = some o → u.link.queue.length < 7 → u.link.slot = none →
            (o.job = q.job → o.set = q.set → 40 ≤ o.sheets.length →
              t.queued u.recovery.epoch (.setDone n o.job o.set .oversize)) ∧
            (o.job ≠ q.job ∨ o.set ≠ q.set → t.queued u.recovery.epoch (.setDone n o.job o.set .broken))) ∧
      (u.path = .stopping → t.exit = u.exit ∧ (¬ u.comesShort k e → t.link = u.link)) ∧
      t.roster = u.roster ∧ t.table = u.table ∧ t.track.strays = u.track.strays ∧ State.sameReception u t ∧
      State.sameSetup u t

end

section

open Sys2Proof Sys2Proof.Machine

/-! ### Drive, door, tray and exit inputs -/

/-- 04 R62, R63, R64, R66, 11 R189, 03 R55, 05 R93: a settled rise of DRDY acknowledges speed in SPINNING when no fresh
acknowledgement is needed: the drive is RUNNING, and a station in RESUMING enters RUN, which loads its presence timer; otherwise
the rise changes nothing. A settled fall clears the mark of a spin, ends a halt, and in RUNNING is a DRIVE jam after which the
drive has halted; in OFF it changes nothing. The time still to go passes with the event (log 3). -/
def Obligations.DrdyEdgesByDriveState : Prop :=
  (∀ (s : State) (r : Nat), s.edgeDue .drdy true r →
    let u := s.atEdge .drdy true r
    (u.drive.state = .spinning → u.drive.fresh = false → ∃ t, exec .drdyRise s = .next t ∧
      t.drive.state = .running ∧ t.drive.spin = .stopped ∧ t.drive.halt = u.drive.halt ∧
      t.recovery.path = (if u.path = .resuming then .run else u.path) ∧
      t.track.attributing = (u.path == .resuming || u.track.attributing) ∧
      t.table = (if u.path = .resuming then { u.table with presence := .running 200 } else u.table) ∧
      t.roster = u.roster ∧ State.sameReception u t ∧ State.sameSetup u t) ∧
    (u.drive.state ≠ .spinning ∨ u.drive.fresh = true → exec .drdyRise s = .next u)) ∧
  (∀ (s : State) (r : Nat), s.edgeDue .drdy false r →
    let u := s.atEdge .drdy false r
    (u.drive.state = .off → exec .drdyFall s = .next u) ∧
    (u.drive.state = .spinning → exec .drdyFall s = .next { u with drive.fresh := false }) ∧
    (u.drive.state = .running → u.canClaim → ∃ t, exec .drdyFall s = .next t ∧
      t.drive.state = .off ∧ t.drive.spin = .stopped ∧ t.drive.halt = .stopped ∧ t.den = false ∧
      t.jamQueued .drive 0 none ∧ t.feed.pickOut = false ∧
      t.roster = u.roster ∧ t.table = u.table ∧ State.sameReception u t) ∧
    (u.drive.state = .halting → ∃ t, exec .drdyFall s = .next t ∧ t.drive.halt = .stopped ∧
      (t.drive.state = .off ∨ t.drive.state = .spinning ∧ t.drive.spin = .running 300) ∧
      t.roster = u.roster ∧ t.table = u.table ∧ t.feed = u.feed ∧ t.exit = u.exit ∧ State.sameReception u t))

/-- 04 R61, R65, R70, R71, 05 R87, 11 R177, R178, R181: a settled door open is a DOOR jam in RUN, RUNOUT, PLAN and RESUMING,
stops a turning drive in every path state, and in CLEARANCE makes the station not clear. A settled door close starts the spin
of a standing drive request when the line is released; it sets the door-close mark in STOPPING, SURVEY, RUNOUT, PLAN and
RESUMING and is a DOOR jam in PLAN and RESUMING. In CLEARANCE it is the door-close evaluation: the stray flags of the zones
that read uncovered are cleared, the findings of the two revision tests join the pending revisions, whose head is queued when
no REVISION of the station waits, and the clear flag is evaluated; READY is queued when no revision is pending, with digest 0
when there are no fate results (log 64). The order of several findings is log 67. The time still to go passes with the event
(log 3). -/
def Obligations.DoorEdgesByPathState : Prop :=
  (∀ (s : State) (r : Nat), s.edgeDue .door true r →
    let u := s.atEdge .door true r
    ∃ t, exec .doorOpen s = .next t ∧
      (u.path ∈ [PathState.run, .runout, .plan, .resuming] → u.canClaim → t.jamQueued .door 0 none) ∧
      (u.path = .clearance → t.recovery.clearFlag = false) ∧
      (u.drive.state = .spinning ∨ u.drive.state = .running → t.drive.state = .halting ∨ t.drive.state = .off) ∧
      (u.drive.state = .off ∨ u.drive.state = .halting → t.drive = u.drive) ∧
      t.drive.gate = u.drive.gate ∧ t.drive.gateHeld = u.drive.gateHeld ∧
      t.roster = u.roster ∧ t.table = u.table ∧ t.imaging = u.imaging ∧ t.exit = u.exit ∧ State.sameReception u t ∧
      State.sameSetup u t) ∧
  (∀ (s : State) (r : Nat), s.edgeDue .door false r →
    let u := s.atEdge .door false r
    ∃ t, exec .doorClose s = .next t ∧
      t.recovery.doorMark =
        (decide (u.path ∈ [PathState.stopping, .survey, .runout, .plan, .resuming]) || u.recovery.doorMark) ∧
      (u.path ∈ [PathState.plan, .resuming] → u.canClaim → t.jamQueued .door 0 none) ∧
      (u.drive.state = .off → u.path = .run ∨ u.path = .runout ∧ u.recovery.driveNeed = true →
        (u.lineIsLow = false →
          t.drive.state = .spinning ∧ t.drive.spin = .running 300 ∧ t.drive.fresh = u.reads .drdy) ∧
        (u.lineIsLow = true → t.drive = u.drive)) ∧
      (u.drive.state = .off → u.path ∉ [PathState.run, .runout, .resuming] → t.drive = u.drive) ∧
      (u.path = .clearance →
        let found := u.revisionFindings.filter fun v => !u.recovery.pendingRevs.contains v && !(u.inRevisionList v)
        t.recovery.pendingRevs = u.recovery.pendingRevs ++ found ∧
        (∀ v, t.recovery.pendingRevs.head? = some v → (∀ f ∈ u.link.queue, f.payload.isRevision = false) → u.txRoom = true →
          t.queued u.recovery.epoch (.revision v)) ∧
        (u.link.queue.length < 7 → t.recovery.clearFlag = t.evaluateClear) ∧
        (t.recovery.pendingRevs = [] → (∀ f ∈ u.link.queue, f.payload.isReady = false) → u.txRoom = true →
          t.queued u.recovery.epoch (.ready t.recovery.clearFlag t.ownDigest))) ∧
      (u.path = .clearance → t.track.strays = u.track.strays.mapIdx fun i b => b && u.covered (i + 1)) ∧
      (u.path ≠ .clearance → t.track.strays = u.track.strays) ∧
      (u.path = .run → t.recovery = u.recovery) ∧
      t.drive.gate = u.drive.gate ∧ t.drive.gateHeld = u.drive.gateHeld ∧
      t.roster = u.roster ∧ t.table = u.table ∧ t.imaging = u.imaging ∧ t.exit = u.exit ∧ State.sameReception u t ∧
      State.sameSetup u t)

/-- 07 R113, R114, R116, 05 R88, 10 R173: at a FEED station the tray state follows TEMPTY, and TRAY is sent from RUN on; a
loaded tray that completes the pick conditions issues a pick, which makes PICK active and loads the pick timer and the retry
count. At an EXIT station the empty event of the purge bin sets the purge count to 0 and changes nothing else. The time still
to go passes with the event (log 3). -/
def Obligations.TrayAndPurgeBinInputs : Prop :=
  (∀ (s : State) (level : Bool) (r : Nat), s.edgeDue .tempty level r →
    let u := s.atEdge .tempty level r
    let tray : TrayState := if level then .empty else .loaded
    u.hasRole .feed = true → closedPath u.path = false → ∃ t, exec .temptyChange s = .next t ∧
      t.feed.tray = tray ∧ t.feed.crossing = u.feed.crossing ∧
      (livePath u.path = true → u.txRoom = true → t.queued u.recovery.epoch (.tray tray)) ∧
      (livePath u.path = false → t.link = u.link) ∧
      (tray = .empty ∨ u.path ≠ .run ∨ u.drive.state ≠ .running ∨ u.feed.pick ≠ .idle →
        t.track = u.track ∧ t.feed = { u.feed with tray := tray }) ∧
      (∀ q, tray = .loaded → u.path = .run → u.drive.state = .running → u.feed.pick = .idle →
        (u.intake u.own).head? = some q → u.track.queue.length < u.prof.capacity →
        (∀ e ∈ u.track.queue, e.serial ≠ q.serial ∧ e.trailSensor ≠ 1) → u.covered 1 = false →
        (∀ x ∈ u.roster.records.takeWhile (fun x => x.serial != q.serial), x.stage = .fed ∧
          ∀ h, x.holder = some h → h = u.own ∨ u.roleIs h .feed = false) →
        t.feed.pick = .picking ∧ t.feed.pickOut = true ∧ t.feed.retries = u.prof.pickRetries ∧
        t.track.pickCandidate = some q.serial ∧ t.track.pickTimer = .running u.prof.pickAllowance) ∧
      State.sameReception u t ∧
      t = { u with link := t.link, feed := t.feed, track.pickCandidate := t.track.pickCandidate
                   track.pickTimer := t.track.pickTimer }) ∧
  (∀ (s : State) (r : Nat), s.edgeDue .pempty true r →
    let u := s.atEdge .pempty true r
    u.hasRole .exit = true → closedPath u.path = false →
    exec .pemptyRise s = .next { u with exit.purgeCount := 0 })

/-- 10 R167, 04 R73: the finisher's report ends finishing, from RUN on in whatever path state: FINn goes inactive, the finish
timer stops, SET DONE with FINISHED is queued, and the bin is EMPTY. The other bins stay. A report to a bin that is not
FINISHING has no effect. The time still to go passes with the event (log 3). -/
def Obligations.FinisherReportEndsFinishing : Prop :=
  ∀ (s : State) (n r : Nat) (o : OpenSet), s.shapeLaw → 1 ≤ n → n ≤ 3 → s.edgeDue (.fdone n) true r →
    let u := s.atEdge (.fdone n) true r
    ((u.bin n).state ≠ .finishing → exec (.fdoneRise n) s = .next u) ∧
    (u.hasRole .exit = true → livePath u.path = true → u.isFinishing n = true → (u.bin n).state = .finishing →
    (u.bin n).openSet = some o → ∃ t, exec (.fdoneRise n) s = .next t ∧
      t.bin n = { u.bin n with state := .empty, openSet := none, finish := .stopped, fin := false } ∧
      (∀ m, 1 ≤ m → m ≠ n → t.bin m = u.bin m) ∧ t.exit.purgeCount = u.exit.purgeCount ∧
      (u.txRoom = true → t.queued u.recovery.epoch (.setDone n o.job o.set .finished)) ∧
      t.roster = u.roster ∧ t.table = u.table ∧ t.track.queue = u.track.queue ∧ t.feed = u.feed ∧
      t.imaging = u.imaging ∧ t.recovery = u.recovery ∧ State.sameReception u t ∧ State.sameSetup u t)

/-- 10 R170, R171, R173, 11 R177: a set tray that empties during an ejection ends it, with SET DONE FORFEITED and the set's
sheets added to the purge count; outside one it closes an open set that is not forfeited as BROKEN. The other bins stay. In
CLEARANCE the clear flag is evaluated. The time still to go passes with the event (log 3). -/
def Obligations.TrayFallClosesSet : Prop :=
  ∀ (s : State) (n r : Nat) (o : OpenSet), s.shapeLaw → 1 ≤ n → n ≤ 3 → s.edgeDue (.sett n) false r →
    let u := s.atEdge (.sett n) false r
    u.hasRole .exit = true → livePath u.path = true → n ∈ u.binNumbers →
    (u.bin n).openSet = some o → ∃ t, exec (.setTrayFall n) s = .next t ∧
      ((u.bin n).state = .ejecting →
        t.bin n = { u.bin n with state := .empty, openSet := none, finish := .stopped, fin := false, trayStray := false } ∧
        t.exit.purgeCount = min (u.exit.purgeCount + o.sheets.length) u.prof.purgeCapacity ∧
        (u.txRoom = true → t.queued u.recovery.epoch (.setDone n o.job o.set .forfeited))) ∧
      ((u.bin n).state = .open ∨ (u.bin n).state = .finishPending → u.forfeitedSet n = none →
        t.bin n = { u.bin n with state := .empty, openSet := none, finish := .stopped, fin := false, trayStray := false } ∧
        t.exit.purgeCount = u.exit.purgeCount ∧
        (u.txRoom = true → t.queued u.recovery.epoch (.setDone n o.job o.set .broken))) ∧
      ((u.bin n).state = .finishing →
        t.bin n = { u.bin n with trayStray := false } ∧ t.exit.purgeCount = u.exit.purgeCount) ∧
      (∀ m, 1 ≤ m → m ≠ n → t.bin m = u.bin m) ∧
      (u.path ≠ .clearance → t.recovery = u.recovery) ∧
      (u.path = .clearance → (u.link.queue.length < 7 → t.recovery.clearFlag = t.evaluateClear) ∧
        t.recovery = { u.recovery with clearFlag := t.recovery.clearFlag, readyNext := t.recovery.readyNext }) ∧
      t.roster = u.roster ∧ t.table = u.table ∧ t.track.queue = u.track.queue ∧ t.feed = u.feed ∧
      t.imaging = u.imaging ∧ State.sameReception u t ∧ State.sameSetup u t

/-! ### The stop line -/

/-- 08 R126, 04 R67, 05 R91, 06 R107, 07 R114, 10 R169: a fall outside STOPPING steps the epoch and stops the station: claim
window and line-held timer loaded, survey timer stopped, every entry parked with its marks cleared, every handoff voided, the
pick ended, the drive halting or halted, finishing cut short, recovery frames withdrawn (08 R127); the gate is held and the
roster stays. In STOPPING it leaves the epoch, the path state and the timers of the stop alone, and records the contexts
afresh; in LISTEN, ROLLCALL and the closed states it changes nothing but the sensed level. A station at which the level is low
already is log 2; that the withdrawal ends the plan frames still to be queued as well is log 27. -/
def Obligations.StopLineFallByPathState : Prop :=
  (∀ s : State, s.link.lineLow = false → s.path ∈ [PathState.run, .survey, .runout, .clearance, .plan, .resuming] →
    ∃ t, exec .stopLineFall s = .next t ∧
      t.link.lineLow = true ∧ t.den = false ∧ t.recovery.path = .stopping ∧ t.recovery.epoch = s.recovery.epoch + 1 ∧
      t.recovery.claim = .running 100 ∧ t.recovery.lineHeld = .running 2000 ∧ t.recovery.survey = .stopped ∧
      t.recovery.driveJam = false ∧ t.recovery.report = [] ∧ t.recovery.planOut = [] ∧
      t.track.queue = s.track.queue.map (fun e =>
        let context : Parked :=
          { leadZone := e.leadZone, trailSensor := e.trailSensor, lead := e.lead, trail := e.trail
            trailAllow := e.trailAllow, release := e.release }
        { e with release := false, deferred := false, offer := .unoffered, parked := some context }) ∧
      t.track.expected = s.track.expected ∧ t.track.pickCandidate = s.track.pickCandidate ∧ t.track.pickTimer = .stopped ∧
      t.feed.pick = .idle ∧ t.feed.pickOut = false ∧
      (∀ o ∈ t.handoff.offers, o.state = .idle ∧ o.offered = [] ∧ o.answer = .stopped ∧ o.reoffer = .stopped) ∧
      t.handoff.deferred = [] ∧
      (t.drive.state = .off ∨ t.drive.state = .halting) ∧ t.drive.gate = s.drive.gate ∧ t.drive.gateHeld = true ∧
      t.exit = { s.exit with bins := s.exit.bins.map Bin.stop } ∧
      (∀ f ∈ t.link.queue, f.payload.isRecovery = true → f.sending = true ∧ f.withdrawn = true) ∧
      (∀ f ∈ s.link.queue, f.payload.isRecovery = false → f ∈ t.link.queue) ∧
      t.roster = s.roster ∧ t.imaging = s.imaging ∧ t.link.rx = s.link.rx ∧ t.link.slot = s.link.slot ∧
      State.sameSetup s t ∧ State.sameReplica s t) ∧
  (∀ s : State, s.link.lineLow = false →
    (s.path = .stopping → ∃ t, exec .stopLineFall s = .next t ∧ t.link = { s.link with lineLow := true } ∧
      t.recovery = s.recovery ∧ t.roster = s.roster ∧ t.drive = s.drive ∧ t.exit = s.exit ∧ t.handoff = s.handoff ∧
      t.feed = s.feed ∧ t.imaging = s.imaging ∧ State.sameSetup s t ∧
      t.track = { s.track with queue := s.track.queue.map (fun e =>
        let context : Parked :=
          { leadZone := e.leadZone, trailSensor := e.trailSensor, lead := e.lead, trail := e.trail
            trailAllow := e.trailAllow, release := e.release }
        { e with release := false, deferred := false, parked := some context }) }) ∧
    (s.path ∈ [PathState.profileRead, .listen, .rollcall, .silent, .silentAbsent, .unfit] →
      exec .stopLineFall s = .next { s with link.lineLow := true }))

/-- 02 R36, 04 R61, 08 R129: at a rise a standing drive request starts a spin when the door reads closed, and a station in
STOPPING whose claim window has run out and whose drive has halted opens its survey. The line cannot rise under the station's
own pull (log 2, 6). -/
def Obligations.RiseCompletesConditions : Prop :=
  ∀ s : State, s.link.lineLow = true →
    (s.pulling = true → exec .stopLineRise s = .next s) ∧
    (s.pulling = false → ∃ t, exec .stopLineRise s = .next t ∧ t.link.lineLow = false ∧
      (s.drive.state = .off → (s.path = .run ∨ s.path = .resuming) → s.reads .door = false →
        t.drive.state = .spinning ∧ t.drive.spin = .running 300 ∧ t.drive.fresh = s.reads .drdy) ∧
      (s.path = .stopping → (s.drive.state = .off ∨ s.recovery.driveJam = true) → s.recovery.claim = .expired →
        t.recovery.path = .survey ∧ t.track.expected = [] ∧ t.track.pickCandidate = none ∧
        t.recovery.survey = .running (400 + 100 * s.rank s.own)) ∧
      (s.path = .stopping → s.recovery.claim ≠ .expired → t.recovery = s.recovery) ∧
      t.recovery.epoch = s.recovery.epoch ∧ t.roster = s.roster ∧ t.table = s.table ∧ t.exit = s.exit ∧
      t.imaging = s.imaging ∧ t.link.rx = s.link.rx ∧ State.sameSetup s t)

end

section

open Sys2Proof Sys2Proof.Machine

/-! ### LINK -/

/-- 02 R27, R28, R30, 08 R139: an attempt begins once the link has been quiet for the gap, and the back-off after a collision;
the JAM of the reserved slot goes first, then the oldest URGENT frame, then the oldest frame. A JAM takes the epoch held now. A
CLOSE waits for an empty receive queue and lists the present positions not heard. In LISTEN the listen timer is reloaded (03
R46). A JAM waits for the fall of the station's own pull (log 21); an attempt that cannot begin changes nothing (log 2). -/
def Obligations.AttemptTransmits : Prop :=
  ∀ (s : State) (quiet : Nat) (f : TxFrame), s.path ≠ .profileRead → s.sending = none →
    (match s.link.slot with
      | some x => f = x
      | none => ∃ pre post, s.link.queue = pre ++ f :: post ∧
          ((f.payload.urgent = true ∧ ∀ x ∈ pre, x.payload.urgent = false) ∨
            (pre = [] ∧ ∀ x ∈ s.link.queue, x.payload.urgent = false))) →
    let wait := (if f.payload.urgent then 12 else 40) + (if s.link.backoff then (s.own + 1) * 8 else 0)
    (quiet < wait → exec (.linkAttemptStart quiet) s = .next s) ∧
    (wait ≤ quiet → f.payload.isClose = false → (f.payload.isJam = true → s.link.lineLow = true) → ∃ t,
      exec (.linkAttemptStart quiet) s = .next t ∧
      t.sending = some { f with sending := true, epoch := if f.payload.isJam then s.recovery.epoch else f.epoch } ∧
      t.link.queue.length = s.link.queue.length ∧ (t.link.slot = none ↔ s.link.slot = none) ∧
      t = { s with
        link := { s.link with slot := t.link.slot, queue := t.link.queue, backoff := false }
        table.listen := if s.path = .listen then .running 1500 else s.table.listen }) ∧
    (wait ≤ quiet → f.payload.isClose = true →
      (s.link.rx ≠ [] → exec (.linkAttemptStart quiet) s = .next s) ∧
      (s.link.rx = [] → s.notHeard ≠ [] → ∃ t, exec (.linkAttemptStart quiet) s = .next t ∧
        t.sending = some { f with sending := true, payload := .close s.notHeard }))

/-- 02 R28, R29, 03 R46, R49, 07 R122, 08 R127, 11 R181: a collision before the 16th keeps the frame in its place, its count
one higher, and leaves a back-off for the next attempt; a READY that a newer one waits behind is replaced by that one when
READY is queued at all (log 42, its digest without fate results log 64). The 16th abandons the frame; from RUN on that is a
LINK jam unless it was JAM(LINK); an abandoned PASS leaves the outstanding pass list; in ROLLCALL a JOIN is queued again (log
49 for its occupied flag); a withdrawn frame is removed without that. In LISTEN the listen timer is reloaded. -/
def Obligations.CollisionsBackOffAndAbandon : Prop :=
  ∀ (s : State) (f : TxFrame), s.sending = some f →
    let listen : Timer := if s.path = .listen then .running 1500 else s.table.listen
    let removed : Link := { s.removeSending.link with backoff := true }
    let hit := fun g : TxFrame => if g.sending then { g with sending := false, collisions := g.collisions + 1 } else g
    let kept : Link := { s.link with backoff := true, slot := s.link.slot.map hit, queue := s.link.queue.map hit }
    (f.withdrawn = false → f.collisions + 1 < 16 →
      (s.recovery.readyNext = false → exec .collision s = .next { s with link := kept, table.listen := listen }) ∧
      (s.recovery.readyNext = true → s.path ≠ .clearance ∨ s.recovery.pendingRevs ≠ [] →
        exec .collision s = .next { s with link := kept, table.listen := listen, recovery.readyNext := false }) ∧
      (s.recovery.readyNext = true → s.path = .clearance → s.recovery.pendingRevs = [] → f.payload.isReady = true →
        f ∈ s.link.queue → ∃ t, exec .collision s = .next t ∧
          t.queued s.recovery.epoch (.ready s.recovery.clearFlag s.ownDigest) ∧
          (∀ g ∈ t.link.queue, g.payload.isReady = true → g.collisions = 0 ∧ g.sending = false) ∧
          t.link.queue.length = s.link.queue.length ∧
          t = { s with link := { kept with queue := t.link.queue }, recovery.readyNext := false })) ∧
    (f.withdrawn = true → s.recovery.readyNext = false →
      exec .collision s = .next { s with link := removed, table.listen := listen }) ∧
    (f.withdrawn = false → 16 ≤ f.collisions + 1 →
      (livePath s.path = true → ∃ t, exec .collision s = .next t ∧
        ((∀ zone serial, f.payload ≠ .jam .link zone serial) → s.removeSending.canClaim → t.jamQueued .link 0 none) ∧
        ((∃ zone serial, f.payload = .jam .link zone serial) → s.recovery.readyNext = false →
          t = { s with link := removed }) ∧
        (∀ x side pass, f.payload = .pass x side pass → (x, side) ∉ t.imaging.passes) ∧
        t.link.rx = s.link.rx ∧
        t = { s with
          link := t.link, imaging.passes := t.imaging.passes
          recovery.readyNext := t.recovery.readyNext }) ∧
      (s.path = .listen → s.recovery.readyNext = false → (∀ x side pass, f.payload ≠ .pass x side pass) →
        exec .collision s = .next { s with link := removed, table.listen := listen }) ∧
      (∀ m o, s.path = .rollcall → s.recovery.readyNext = false → f.payload = .join m o → s.removeSending.txRoom = true →
        exec .collision s = .next { s with
          link := { removed with
            queue := removed.queue ++ [{ payload := .join s.prof.summary s.occupied, epoch := s.recovery.epoch }] } }))

/-- 02 R31, R32, R35, 03 R55, 06 R98, 05 R77, 08 R127, R130, 11 R181, R185: the completion of the station's own frame takes it
off the queue, places it in the receive queue with the stop-line level, loads the presence timer, and for an OFFER the answer
timer, for an ACCEPT the arrival timer of its first item. After a frame of the report or of the plan the next one is queued, a
HOLDING with the desynchronised flag of that moment, and after a withdrawn one none; after a READY the newer one that waited.
Frames of the report or of the plan that find the transmit queue full are lost one after the other. A frame that finds 24 in
the receive queue is lost, which puts the station out of step with a JAM(DESYNC). The digest of a READY without fate results is
log 64. -/
def Obligations.OwnCompletionIsReceived : Prop :=
  ∀ (s : State) (f : TxFrame), s.sending = some f → livePath s.path = true →
    let received : RxFrame := { sender := s.own, epoch := f.epoch, payload := f.payload, lineLow := s.lineIsLow }
    let others := s.link.queue.filter fun g => !g.sending
    let plain : Prop := f.tag = .plain ∧ f.payload.isReady = false
    let next (p : Payload) (tag : TxTag) : TxFrame := { payload := p, epoch := s.recovery.epoch, tag := tag }
    let planFrame (n : Nat) : Payload := .plan
      { count := n, omitted := s.recovery.fates.omitted, firstOmitted := s.recovery.fates.firstOmitted
        withdrawn := s.recovery.fates.withdrawn, firstWithdrawn := s.recovery.fates.firstWithdrawn
        firstFree := s.firstFreePass, absent := stations.filter s.isAbsent
        escalated := s.recovery.escalated }
    (s.link.rx.length < 24 → ∃ t, exec (.frameCompletion .own) s = .next t ∧
      t.link.rx = s.link.rx ++ [received] ∧
      (plain ∨ others.length < 8 → t.link.slot = match s.link.slot with
        | some g => if g.sending then none else some g
        | none => none) ∧
      t.table.presence = .running 200 ∧
      (plain → t.link.queue = others ∧ t.recovery = s.recovery) ∧
      (f.tag ≠ .plain → f.withdrawn = true → f.payload.isReady = false →
        t.link.queue = others ∧ t.recovery = s.recovery) ∧
      (f.tag = .report → f.withdrawn = false →
        (s.recovery.report = [] → t.link.queue = others ∧ t.recovery = s.recovery) ∧
        (s.recovery.report ≠ [] → 8 ≤ others.length →
          t.link.outOfStep = true ∧ t.recovery = { s.recovery with report := [] }) ∧
        ∀ p more, s.recovery.report = p :: more → others.length < 8 →
          t.recovery = { s.recovery with report := more } ∧
          ((∀ h, p ≠ .holding h) → t.link.queue = others ++ [next p .report]) ∧
          ∀ h, p = .holding h → t.link.queue = others ++ [next (.holding { h with desync := s.link.outOfStep }) .report]) ∧
      (f.tag = .plan → f.withdrawn = false →
        (s.recovery.planOut = [] → t.link.queue = others ∧ t.recovery = s.recovery) ∧
        (s.recovery.planOut ≠ [] → 8 ≤ others.length →
          t.link.outOfStep = true ∧ t.recovery = { s.recovery with planOut := [] }) ∧
        ∀ i more, s.recovery.planOut = i :: more → others.length < 8 →
          t.recovery = { s.recovery with planOut := more } ∧
          t.link.queue = others ++ [next (match i with
            | .header => planFrame s.recovery.fates.reprint.length
            | .entry e => .planEntry e
            | .final => planFrame 0) .plan]) ∧
      (f.tag = .plain → f.payload.isReady = true →
        (s.recovery.readyNext = false ∨ s.path ≠ .clearance ∨ s.recovery.pendingRevs ≠ [] →
          t.link.queue = others ∧ t.recovery = { s.recovery with readyNext := false }) ∧
        (s.recovery.readyNext = true → s.path = .clearance → s.recovery.pendingRevs = [] → others.length < 8 →
          (∀ g ∈ others, g.payload.isReady = false) →
          t.link.queue = others ++ [next (.ready s.recovery.clearFlag s.ownDigest) .plain] ∧
          t.recovery = { s.recovery with readyNext := false })) ∧
      (∀ dest xs w sp, f.payload = .offer dest xs w sp → ∀ o ∈ t.handoff.offers, o.dest = dest → o.state = .awaiting →
        o.offered = xs → o.answer = .running 50) ∧
      (∀ dest xs n, f.payload = .accept dest xs n → ∀ i ∈ s.track.expected, xs.head? = some i.serial → i.timer = .stopped →
        { i with timer := .running i.window } ∈ t.track.expected) ∧
      t.roster = s.roster ∧ t.track.queue = s.track.queue ∧ t.feed = s.feed ∧
      t.imaging = s.imaging ∧ t.exit = s.exit ∧ t.drive = s.drive ∧ State.sameSetup s t) ∧
    (24 ≤ s.link.rx.length → plain → ∃ t, exec (.frameCompletion .own) s = .next t ∧
      t.link.rx = s.link.rx ∧ t.link.outOfStep = true ∧ t.link.lostSinceHolding = true ∧ t.table.presence = .running 200 ∧
      (s.link.outOfStep = false → s.removeSending.canClaim → t.jamQueued .desync 0 none) ∧
      (s.link.outOfStep = true → t.link.queue = others) ∧
      t.recovery = s.recovery ∧ t.roster = s.roster ∧ t.track.queue = s.track.queue ∧ t.feed = s.feed ∧
      t.imaging = s.imaging ∧ t.exit = s.exit ∧ t.drive = s.drive ∧ State.sameSetup s t)

/-- 02 R25, R26, R32, R35, 03 R56: another sender's frame that passes the checks joins the receive queue with its sender, epoch
and content and reloads the sender's silence timer; one with a bad check, or one that finds 24 frames in the queue, is a lost
frame, which puts the station out of step; one that is over-long, cut short or not well formed has no effect. The layouts that
the manual does not give byte by byte are log 8, values outside their ranges log 58. -/
def Obligations.OtherCompletionIsChecked : Prop :=
  (∀ w : WireFrame,
    let whole := w.b3.toNat ≤ 60 ∧ w.payload.length = w.b3.toNat
    let checks := crc16 (w.b0 :: w.b1 :: w.b2 :: w.b3 :: w.payload) = w.check
    let kind := w.b1.toNat
    let header := w.b0 &&& 0x60#8 = 0#8 ∧ (w.b0 &&& 0x1F#8).toNat ≤ 16 ∧
      (1 ≤ kind ∧ kind ≤ 0x0E ∨ 0x10 ≤ kind ∧ kind ≤ 0x1A) ∧
      (w.b0.getLsbD 7 = false ↔ kind ∈ [0x10, 0x11, 0x12, 0x14])
    (¬ whole → w.read = .discard) ∧
    (whole → ¬ checks → w.read = .bad) ∧
    (whole → checks → ¬ header → w.read = .discard) ∧
    (whole → checks → header → parsePayload w.b1 w.payload w.content = none → w.read = .discard) ∧
    (∀ c, whole → checks → header → parsePayload w.b1 w.payload w.content = some c →
      w.read = .good (w.b0 &&& 0x1F#8).toNat w.b2 c)) ∧
  ∀ (s : State) (w : WireFrame), s.sending = none → livePath s.path = true →
    (∀ p e c, w.read = .good p e c → s.link.rx.length < 24 → ∃ t, exec (.frameCompletion (.other w)) s = .next t ∧
      t.link = { s.link with rx := s.link.rx ++ [{ sender := p, epoch := e, payload := c, lineLow := s.lineIsLow }] } ∧
      (1 ≤ p → p ≤ s.table.entries.length → s.isPresent p = true → p ≠ s.own → (t.entry p).silence = .running 600) ∧
      t = { s with link := t.link, table.entries := t.table.entries }) ∧
    (w.read = .bad ∨ (∃ p e c, w.read = .good p e c ∧ 24 ≤ s.link.rx.length) → ∃ t,
      exec (.frameCompletion (.other w)) s = .next t ∧ t.link.outOfStep = true ∧
      t.link.lostSinceHolding = true ∧ (s.link.outOfStep = false → s.canClaim → t.jamQueued .desync 0 none) ∧
      (s.link.outOfStep = true → t.link.slot = s.link.slot ∧ t.link.queue = s.link.queue) ∧ State.sameReception s t ∧
      t = { s with link := t.link, table.entries := t.table.entries } ∧ (w.read = .bad → t.table = s.table)) ∧
    (w.read = .discard → exec (.frameCompletion (.other w)) s = .next s)

/-! ### Receipts that describe stations -/

/-- 03 R55, R59, 01 R12, 07 R116, R117: from RUN on, the receipt of PRESENCE, REFUSED, DEMAND, TRAY or STATUS takes the frame
and changes nothing else. -/
def Obligations.ReportsChangeNothing : Prop :=
  ∀ (s : State) (f : RxFrame) (rest : List RxFrame), s.receives f rest →
    (∀ p e, f.payload = .presence p e → exec .presenceReceipt s = .next (s.taken rest)) ∧
    (∀ x r, f.payload = .refused x r → exec .refusedReceipt s = .next (s.taken rest)) ∧
    (∀ n, f.payload = .demand n → exec .demandReceipt s = .next (s.taken rest)) ∧
    (∀ a, f.payload = .tray a → exec .trayReceipt s = .next (s.taken rest)) ∧
    (∀ a, f.payload = .status a → exec .statusReceipt s = .next (s.taken rest))

/-- 03 R46, R48, R49, R52: a JOIN heard in LISTEN starts the roll call with its timers; in ROLLCALL it reloads the roll call
timer, makes its sender present, or marks the position duplicated when it is present already. From RUN on, a restarted member,
and later one to which the sender is UNKNOWN, makes the sender present with its summary and computes the path map again (log 38
for the silence timer); any other JOIN is taken without effect. -/
def Obligations.JoinBuildsTable : Prop :=
  (∀ (s : State) (p : Pos) (e : Epoch) (m : Summary) (o low : Bool) (rest : List RxFrame),
    s.link.rx = { sender := p, epoch := e, payload := .join m o, lineLow := low } :: rest → 1 ≤ p → p ≤ 16 →
    s.table.entries.length = 16 → s.path = .listen ∨ s.path = .rollcall → ∃ t, exec .joinReceipt s = .next t ∧
      t.recovery.path = .rollcall ∧ t.table.rollCall = .running 1000 ∧ t.link.rx = rest ∧
      (s.path = .listen → t.table.joinDelay = .running (s.own * 20) ∧ t.table.listen = .stopped) ∧
      t.entry p = (if s.isPresent p then { s.entry p with duplicated := true }
        else { s.entry p with presence := .present, summary := some m }) ∧
      (∀ q, q ≠ p → t.entry q = s.entry q) ∧
      t.roster = s.roster ∧ State.sameSegment s t ∧ State.sameSetup s t) ∧
  (∀ (s : State) (p : Pos) (e : Epoch) (m : Summary) (o low : Bool) (rest : List RxFrame),
    s.link.rx = { sender := p, epoch := e, payload := .join m o, lineLow := low } :: rest → 1 ≤ p → p ≤ 16 →
    s.table.entries.length = 16 → livePath s.path = true →
    (p ≠ s.own → s.isAbsent p = false → (s.recovery.restarted = true ∨ (s.entry p).presence = .unknown) → ∃ t,
      exec .joinReceipt s = .next t ∧
      t.entry p = { s.entry p with presence := .present, summary := some m, silence := .running 600 } ∧
      (∀ q, q ≠ p → t.entry q = s.entry q) ∧ t.table.map = t.pathMap ∧
      t = { s.taken rest with table := { s.table with entries := t.table.entries, map := t.table.map } }) ∧
    (p = s.own ∨ s.isAbsent p = true ∨ (s.recovery.restarted = false ∧ (s.entry p).presence ≠ .unknown) →
      exec .joinReceipt s = .next (s.taken rest)))

/-- 03 R46, R47: a running frame heard in LISTEN or ROLLCALL makes a restarted member: STOPPING, its table cleared but for
itself, its epoch the frame's, stepped when the line is released, and its restart claim. Every other frame but JOIN is
discarded. A PRESENCE of a running path state counts whatever its sender (log 51), and the frame is not applied any further
(log 28); the receipt's command takes the head of the receive queue (log 4). -/
def Obligations.RunningFrameRestarts : Prop :=
  ∀ (s : State) (f : RxFrame) (rest : List RxFrame), s.link.rx = f :: rest → s.path = .listen ∨ s.path = .rollcall →
    (runningFrame f = true ↔
      (∃ p e, f.payload = .presence p e ∧ livePath p = true) ∨
      (1 ≤ f.sender ∧ f.sender ≤ 16 ∧ (∀ m o, f.payload ≠ .join m o) ∧ (∀ p e, f.payload ≠ .presence p e) ∧
        (∀ a, f.payload ≠ .status a))) ∧
    (runningFrame f = true → 1 ≤ s.own → s.own ≤ 16 → s.canClaim → ∃ t, exec (receiptOf f.payload) s = .next t ∧
      t.recovery.path = .stopping ∧ t.recovery.restarted = true ∧ t.recovery.following = true ∧
      t.recovery.epoch = (if s.lineIsLow then f.epoch else f.epoch + 1) ∧
      t.recovery.claim = .running 100 ∧ t.recovery.lineHeld = .running 2000 ∧ t.table.presence = .running 200 ∧
      t.jamQueued .restart 0 none ∧ t.pulling = true ∧
      (∀ p ∈ stations, t.isPresent p = decide (p = s.own)) ∧ t.summaryOf s.own = some s.prof.summary ∧
      t.roster = s.roster ∧ t.track = s.track ∧ t.exit = s.exit ∧ t.link.rx = rest ∧ State.sameSetup s t) ∧
    (runningFrame f = false → (∀ m o, f.payload ≠ .join m o) → exec (receiptOf f.payload) s = .next (s.taken rest))

/-- 03 R51, R59: a PROBE from position 0 naming the station's own position is answered with a STATUS taken at that moment; in
UNFIT the unfit reason stands for the epoch. Every other PROBE is taken without effect, and in SILENT none is answered. -/
def Obligations.ProbeAnsweredWithStatus : Prop :=
  ∀ (s : State) (p q : Pos) (e : Epoch) (low : Bool) (rest : List RxFrame),
    s.link.rx = { sender := p, epoch := e, payload := .probe q, lineLow := low } :: rest →
    (livePath s.path = true ∨ s.path = .unfit ∨ s.path = .silentAbsent →
      (p = 0 → q = s.own → s.txRoom = true → ∃ t st, exec .probeReceipt s = .next t ∧
        t.link = { s.link with rx := rest, queue := s.link.queue ++ [{ payload := .status st, epoch := s.recovery.epoch }] } ∧
        st.pathState = s.path ∧ (s.path ≠ .unfit → st.epoch = s.recovery.epoch) ∧
        (∀ u, s.path = .unfit → s.table.unfit = some u → st.epoch = u.code) ∧
        st.rosterCount = s.roster.records.length ∧ st.occupancy = s.track.queue.length ∧
        st.jams = s.recovery.jams.length ∧ st.profileCrc = s.profileCrc ∧
        st.purgeSpace = (if s.hasRole .exit then s.prof.purgeCapacity - s.exit.purgeCount else 0) ∧
        t = { s with link := t.link }) ∧
      (p ≠ 0 ∨ q ≠ s.own → exec .probeReceipt s = .next (s.taken rest))) ∧
    (s.path = .silent → exec .probeReceipt s = .next (s.taken rest))

end

section

open Sys2Proof Sys2Proof.Machine

/-! ### Receipts that describe sheets -/

/-- 01 R5, R10: the pending pass and the outstanding passes of a record; the four cases in which the pass test of an INTENT
fails, in every other of which it passes. -/
def Obligations.PassesAndPassTest : Prop :=
  (∀ r : SheetRecord, (r.duplex = true ↔ r.backPass.isSome) →
    (r.purgeRouted = true → r.pending = none ∧ r.outstanding = []) ∧
    (r.purgeRouted = false → r.sides = 0 → r.pending = some r.frontPass ∧
      r.outstanding = r.frontPass :: (if r.duplex then r.backPass.toList else [])) ∧
    (r.purgeRouted = false → r.sides = 1 → r.duplex = true →
      r.pending = r.backPass ∧ r.outstanding = r.backPass.toList) ∧
    (r.purgeRouted = false → r.sides = 1 → r.duplex = false → r.pending = none ∧ r.outstanding = []) ∧
    (2 ≤ r.sides → r.pending = none ∧ r.outstanding = []) ∧
    (∀ p, r.pending = some p → p ∈ r.outstanding)) ∧
  (∀ (s : State) (i : IntentFields), s.passTest i = false ↔
    ((∃ r ∈ s.roster.records, i.frontPass ∈ r.outstanding ∨ i.duplex = true ∧ i.backPass ∈ r.outstanding) ∨
      (i.duplex = true ∧ (i.backPass = i.frontPass ∨ precedes i.frontPass i.backPass = false)) ∨
      (i.reprintOf ≠ none ∧ s.roster.planInForce = none) ∨
      (i.reprintOf ≠ none ∧ ∃ free, s.roster.planInForce = some free ∧ precedes i.frontPass free = true)))

/-- 01 R8, R9, R11, R12, 07 R117: an INTENT from the print controller that fails no test appends its record at the end of the
roster and becomes the last accepted serial; the other records stay; free slots that it takes below the demand threshold arm
the crossing at its feed station. One that fails a test leaves the roster as it was; the publishing station alone queues
REFUSED with the reason of the first failing test. An INTENT of another sender is not applied and not answered. R9's eight
conditions are spelled out for the route test. -/
def Obligations.IntentAcceptedOrRefused : Prop :=
  (∀ (s : State) (f : RxFrame) (rest : List RxFrame) (i : IntentFields), s.receives f rest → f.payload = .intent i →
    f.sender = 0 → s.refusal i = none → ∃ t, exec .intentReceipt s = .next t ∧
      t.roster = { s.roster with
        records := s.roster.records ++ [
          { serial := i.serial, job := i.job, set := i.set, index := i.index, last := i.last, media := i.media
            duplex := i.duplex, front := i.front, back := if i.duplex then some i.back else none
            frontPass := i.frontPass, backPass := if i.duplex then some i.backPass else none, exit := i.exit, bin := i.bin
            route := i.route, reprintOf := i.reprintOf, routeIndex := 1, stage := .announced, sides := 0, holder := none
            handoff := none, fate := none, purgeRouted := false }]
        lastSerial := some i.serial } ∧
      s.roster.phase = .normal ∧ s.roster.records.length < 48 ∧ s.record i.serial = none ∧
      (s.hasRole .feed = true → i.route.head? = some s.own → 12 - ((s.intake s.own).length + 1) < s.prof.demandThreshold →
        t.feed.crossing = .armed) ∧
      t.link.rx = rest ∧ t.table = s.table ∧ t.imaging = s.imaging ∧ State.sameSetup s t ∧
      t.recovery.jams = s.recovery.jams ∧ t.recovery.fates = s.recovery.fates ∧ t.recovery.epoch = s.recovery.epoch) ∧
  (∀ (s : State) (f : RxFrame) (rest : List RxFrame) (i : IntentFields), s.receives f rest → f.payload = .intent i →
    (f.sender ≠ 0 → exec .intentReceipt s = .next (s.taken rest)) ∧
    (∀ reason, f.sender = 0 → s.refusal i = some reason →
      (s.publishing ≠ some s.own → exec .intentReceipt s = .next (s.taken rest)) ∧
      (s.publishing = some s.own → s.txRoom = true →
        exec .intentReceipt s = .next ((s.taken rest).pushTx
          { payload := .refused i.serial reason, epoch := s.recovery.epoch }))) ∧
    (s.roster.phase = .recovery → s.refusal i = some .recovery) ∧
    (s.roster.phase = .normal →
      (48 ≤ s.roster.records.length ∨ (∃ p, i.route.head? = some p ∧ 12 ≤ (s.intake p).length) →
        s.refusal i = some .full) ∧
      (s.roster.records.length < 48 → (∀ p, i.route.head? = some p → (s.intake p).length < 12) →
        ((s.record i.serial).isSome → s.refusal i = some .duplicate) ∧
        (s.record i.serial = none →
          (∀ l, s.roster.lastSerial = some l → precedes l i.serial = false → s.refusal i = some .order) ∧
          ((∀ l, s.roster.lastSerial = some l → precedes l i.serial = true) →
            (s.routeTest i = false → s.refusal i = some .route) ∧
            (s.routeTest i = true → s.passTest i = false → s.refusal i = some .pass) ∧
            (s.routeTest i = true → s.passTest i = true → s.refusal i = none)))))) ∧
  (∀ (s : State) (i : IntentFields), s.routeTest i = true ↔
    (i.formOk = true ∧ i.serial ≠ 0 ∧ i.frontPass ≠ 0 ∧ (i.duplex = true → i.backPass ≠ 0) ∧ i.index ≠ 0 ∧ i.media ≤ 15 ∧
      1 ≤ i.bin ∧ i.bin ≤ 3) ∧
    (2 ≤ i.route.length ∧ i.route.length ≤ 12) ∧
    (∀ p ∈ i.route, s.isPresent p = true) ∧
    (∃ p m, i.route.head? = some p ∧ s.summaryOf p = some m ∧ m.role = .feed ∧ m.media = i.media) ∧
    (i.route.getLast? = some i.exit ∧ s.roleIs i.exit .exit = true) ∧
    (∀ pre a b post, i.route = pre ++ a :: b :: post → b ∈ (s.mapOf a).downstream) ∧
    (i.route.filter fun p => s.roleIs p .imaging).length = (if i.duplex then 2 else 1) ∧
    ∃ m, s.summaryOf i.exit = some m ∧ i.bin ≤ m.bins.length)

/-- 01 R13: a WITHDRAW from the print controller in phase NORMAL removes every ANNOUNCED record of its job, the others keeping
their order, as one roster change; in phase RECOVERY it is not applied, and for a job with no ANNOUNCED record it changes
nothing. -/
def Obligations.WithdrawRemovesAnnounced : Prop :=
  ∀ (s : State) (f : RxFrame) (rest : List RxFrame) (job : Byte), s.receives f rest → f.payload = .withdraw job →
    let keep := fun r : SheetRecord => !(r.stage == .announced && r.job == job)
    (f.sender = 0 → s.roster.phase = .normal → (∃ r ∈ s.roster.records, r.stage = .announced ∧ r.job = job) → ∃ t,
      exec .withdrawReceipt s = .next t ∧
      t.roster = { s.roster with records := s.roster.records.filter keep } ∧
      t = ({ s.taken rest with roster.records := s.roster.records.filter keep } : State).rosterChanged ∧
      (∀ r ∈ s.roster.records, r.stage = .fed → r ∈ t.roster.records) ∧
      t.table = s.table ∧ t.imaging = s.imaging ∧ t.link.rx = rest ∧ State.sameSetup s t) ∧
    (f.sender ≠ 0 ∨ s.roster.phase = .recovery → exec .withdrawReceipt s = .next (s.taken rest)) ∧
    ((∀ r ∈ s.roster.records, r.stage = .announced → r.job ≠ job) → exec .withdrawReceipt s = .next (s.taken rest))

/-- 01 R15, R20: what OFFER, ACCEPT and DEFER do to the roster: to the handoff field of the records named, and to nothing else
of it. In phase RECOVERY they are applied to run-out sheets alone, once the survey has closed, and only with the roster's
epoch. -/
def Obligations.HandoffFramesAtRoster : Prop :=
  ∀ (s : State) (f : RxFrame) (rest : List RxFrame), s.receives f rest →
    (∀ dest xs w sp, f.payload = .offer dest xs w sp → ∃ t, exec .offerReceipt s = .next t ∧
      t.roster = { s.roster with records := s.roster.records.map fun r =>
        if r.serial ∈ xs ∧ s.takesHandoff f.epoch r ∧ r.stage = .fed ∧ r.holder = some f.sender ∧ s.nextStation r = some dest
        then { r with handoff := some { dest := dest, accepted := false } } else r }) ∧
    (∀ dest xs n, f.payload = .accept dest xs n → ∃ t, exec .acceptReceipt s = .next t ∧
      t.roster = { s.roster with records := s.roster.records.map fun r =>
        if r.serial ∈ xs ∧ s.takesHandoff f.epoch r ∧ r.handoff = some { dest := f.sender, accepted := false }
        then { r with handoff := some { dest := f.sender, accepted := true } } else r }) ∧
    (∀ dest xs reason n, f.payload = .defer dest xs reason n → ∃ t, exec .deferReceipt s = .next t ∧
      t.roster = { s.roster with records := s.roster.records.map fun r =>
        if r.serial ∈ xs ∧ s.takesHandoff f.epoch r ∧ r.handoff = some { dest := f.sender, accepted := false } ∧
          reason = .room
        then { r with handoff := none } else r })

/-- 06 R101, R102, R103, R104: an OFFER addressed to this station that it answers: no test failing, an ACCEPT is queued and its
items join the expected-arrivals list; else a DEFER with the first failing reason, remembered unless the reason is ROOM. The
reasons are STATE, DRIVE, FINISHING, ORDER and ROOM in that order (R77, 07 R118, R119, 10 R168 for the last three). The group
number of the items is log 20. -/
def Obligations.OfferAnswered : Prop :=
  ∀ (s : State) (f : RxFrame) (rest : List RxFrame) (xs : List Serial) (w sp : Nat), s.receives f rest →
    f.payload = .offer s.own xs w sp →
    let d : DeferredOffer := { upstream := f.sender, serials := xs, window := w, spacing := sp, epoch := f.epoch }
    let v : State := (s.taken rest).applyOffer f.sender s.own f.epoch xs
    let u : State := { v with handoff.deferred := v.handoff.deferred.filter fun x => x.upstream != f.sender }
    (¬ (movingPath v.path = true ∧ f.sender ∈ (v.mapOf v.own).upstream ∧ v.boundHere f.sender xs = true ∧
        v.runoutOffer f.epoch xs = true) → exec .offerReceipt s = .next v) ∧
    (movingPath v.path = true → f.sender ∈ (v.mapOf v.own).upstream → v.boundHere f.sender xs = true →
      v.runoutOffer f.epoch xs = true → u.txRoom = true → ∃ t, exec .offerReceipt s = .next t ∧
        (u.deferReason xs = none →
          t.queued u.recovery.epoch (.accept f.sender xs (u.freeCount - xs.length)) ∧
          ∃ items more, t.track.expected = u.track.expected ++ items ++ more ∧
            items.map (·.serial) = xs ∧ ∀ i ∈ items, i.upstream = f.sender ∧ i.window = w ∧ i.spacing = sp ∧
              i.timer = .stopped ∧ ∀ j ∈ u.track.expected, j.group ≠ i.group) ∧
        (u.deferReason xs = none ↔ u.path ≠ .resuming ∧ u.drive.state = .running ∧ ¬ u.finishingFails xs ∧ ¬ u.orderFails xs ∧
          ¬ u.roomFails xs) ∧
        (u.deferReason xs = some .state ↔ u.path = .resuming) ∧
        (u.deferReason xs = some .drive ↔ u.path ≠ .resuming ∧ u.drive.state ≠ .running) ∧
        (u.deferReason xs = some .finishing ↔ u.path ≠ .resuming ∧ u.drive.state = .running ∧ u.finishingFails xs) ∧
        (u.deferReason xs = some .order ↔ u.path ≠ .resuming ∧ u.drive.state = .running ∧ ¬ u.finishingFails xs ∧
          u.orderFails xs) ∧
        (∀ reason, u.deferReason xs = some reason →
          t = { u with
            link.queue := u.link.queue ++ [{ payload := .defer f.sender xs reason u.freeCount, epoch := u.recovery.epoch }]
            handoff.deferred := if reason = .room then u.handoff.deferred else u.handoff.deferred ++ [d] }) ∧
        t.roster = v.roster ∧ t.table = s.table ∧ t.track.queue = s.track.queue ∧ t.feed = s.feed ∧ t.exit = s.exit ∧
        t.recovery = s.recovery ∧ t.imaging = s.imaging ∧ t.link.rx = rest ∧ State.sameSetup s t)

/-- 06 R95, R96, R97, R99, R108, 04 R67, 05 R75: at a matching ACCEPT, in RUN, RUNOUT or RESUMING, the entries it names are
ACCEPTED, their deferred marks cleared and, at a HOLDS station, released, and the gate follows the gate sheet; the record is
IDLE, or the next offer is made. At a matching DEFER with ROOM the entries are UNOFFERED and the offer is to be made again:
after 50 ms when no slot is free, and otherwise at once, when the first sheet is the station's candidate singly. With another
reason the record is DEFERRED with no timer and its entries stay as they were offered. The deferred marks are set. A mark of
another epoch than the station's does not stand from the survey opening on, nor in RUN once a plan is in force (log 37). A
re-offer that finds the transmit queue full leaves the record in RETRY (log 63). -/
def Obligations.AnswersToAnOffer : Prop :=
  (∀ (s : State) (f : RxFrame) (rest : List RxFrame) (xs : List Serial) (n : Nat), s.receives f rest →
    (s.track.queue.map (·.serial)).Nodup → f.payload = .accept s.own xs n → movingPath s.path = true →
    let stale : Prop := f.epoch ≠ s.recovery.epoch ∧ (s.path ≠ .run ∨ s.roster.planInForce ≠ none)
    s.matchesOffer f.sender s.own xs true = true → ∃ t, exec .acceptReceipt s = .next t ∧
      t.track.queue.map (·.serial) = s.track.queue.map (·.serial) ∧
      (∀ e ∈ t.track.queue, e.serial ∈ xs →
        e.offer = .accepted ∧ e.deferred = false ∧ (s.isHolds = true → ¬ stale → e.release = true)) ∧
      (stale → t.track.queue.map (·.release) = s.track.queue.map (·.release)) ∧
      (s.drive.gateHeld = false → t.drive.gate = (s.isHolds && t.gateSheet.any (·.release))) ∧
      (∀ o ∈ t.handoff.offers, o.dest = f.sender → o.free = some n) ∧
      (∀ o, t.offerTo f.sender = some o → o.answer = .stopped ∧
        (o.state = .idle ∧ o.offered = [] ∨
          o.state = .awaiting ∧ ∃ w sp, t.queued s.recovery.epoch (.offer f.sender o.offered w sp))) ∧
      t.track.expected = s.track.expected ∧ t.table = s.table ∧ t.feed = s.feed ∧ t.exit = s.exit ∧
      t.imaging = s.imaging ∧ t.recovery = s.recovery ∧ t.link.rx = rest ∧ State.sameSetup s t) ∧
  (∀ (s : State) (f : RxFrame) (rest : List RxFrame) (xs : List Serial) (reason : DeferReason) (n : Nat), s.receives f rest →
    f.payload = .defer s.own xs reason n → movingPath s.path = true →
    let stale : Prop := f.epoch ≠ s.recovery.epoch ∧ (s.path ≠ .run ∨ s.roster.planInForce ≠ none)
    s.matchesOffer f.sender s.own xs false = true → ∃ t, exec .deferReceipt s = .next t ∧
      (∀ e ∈ t.track.queue, e.serial ∈ xs → ¬ stale → e.deferred = true) ∧
      (stale → t.track.queue.map (·.deferred) = s.track.queue.map (·.deferred)) ∧
      (∀ e ∈ t.track.queue, e.serial ∈ xs → reason = .room →
        e.offer = .unoffered ∨ 1 ≤ n ∧ e.offer = .offered) ∧
      (reason ≠ .room → t.track.queue.map (·.offer) = s.track.queue.map (·.offer)) ∧
      (∀ o, t.offerTo f.sender = some o → o.answer = .stopped ∧ o.free = some n ∧
        (reason = .room → n = 0 → o.state = .retry ∧ o.offered = [] ∧ o.reoffer = .running 50 ∧ o.retryMet = false) ∧
        (reason = .room → 1 ≤ n → o.reoffer = .stopped ∧
          (o.state = .retry ∧ o.offered = [] ∧ o.retryMet = true ∨
            o.state = .awaiting ∧ ∃ x w sp, o.offered = [x] ∧ t.queued s.recovery.epoch (.offer f.sender [x] w sp))) ∧
        (reason ≠ .room → o.state = .deferred ∧ o.offered = xs)) ∧
      (∀ e post q o, reason = .room → 1 ≤ n → s.path = .run → s.hasRole .exit = false → s.track.queue = e :: post →
        xs.head? = some e.serial → e.leadZone = s.lastSensor → s.record e.serial = some q → q.stage = .fed →
        q.holder = some s.own → s.nextStation q = some f.sender → s.offerTo f.sender = some o → o.retryMet = false →
        s.txRoom = true →
        t.queued s.recovery.epoch (.offer f.sender [e.serial] (s.zone s.lastSensor).lead (s.zone s.lastSensor).trail) ∧
        ∃ o', t.offerTo f.sender = some o' ∧ o'.state = .awaiting ∧ o'.offered = [e.serial]) ∧
      (reason ≠ .room ∨ n = 0 → t.drive = s.drive ∧ t.link = { s.link with rx := rest }) ∧
      t.track.expected = s.track.expected ∧ t.table = s.table ∧ t.feed = s.feed ∧ t.exit = s.exit ∧
      t.imaging = s.imaging ∧ t.recovery = s.recovery ∧ t.link.rx = rest ∧ State.sameSetup s t)

/-- 01 R14, R20, 07 R117: what an ARRIVED does to the roster: a picked sheet becomes FED, held by its feed station; a sheet on
its way gets its next station as holder, its handoff cleared, and its route index one higher unless it follows a purge path.
Once the survey has closed it is applied to run-out sheets alone. At a FEED station the roster change may cross the demand
threshold, at which DEMAND is queued in RUN. -/
def Obligations.ArrivedMovesCustody : Prop :=
  ∀ (s : State) (f : RxFrame) (rest : List RxFrame) (x : Serial) (picked : Bool) (r : SheetRecord), s.receives f rest →
    f.payload = .arrived x picked → s.record x = some r →
    let pickedHere : SheetRecord → SheetRecord := fun q => { q with stage := .fed, holder := some f.sender }
    let movedHere : SheetRecord → SheetRecord := fun q => { q with
      holder := some f.sender, handoff := none
      routeIndex := if q.purging then q.routeIndex else q.routeIndex + 1 }
    let change : SheetRecord → SheetRecord :=
      if s.takesCustody r ∧ picked = true ∧ r.stage = .announced ∧ r.route.head? = some f.sender then pickedHere
      else if s.takesCustody r ∧ picked = false ∧ r.stage = .fed ∧ s.nextStation r = some f.sender then movedHere
      else id
    ∃ t, exec .arrivedReceipt s = .next t ∧
      t.roster = { s.roster with records := s.roster.records.map fun q => if q.serial = x then change q else q } ∧
      (s.hasRole .feed = true → s.takesCustody r → picked = true → r.stage = .announced → r.route.head? = some f.sender →
        let n := 12 - (t.intake s.own).length
        t.feed.crossing = (if n < s.prof.demandThreshold then .armed
          else if s.feed.crossing = .armed ∧ s.path = .run then .spent else s.feed.crossing) ∧
        (s.prof.demandThreshold ≤ n → s.feed.crossing = .armed → s.path = .run → s.handoff.deferred = [] →
          (∀ e ∈ s.track.queue, e.source = .pick → (s.record e.serial).isSome) → s.txRoom = true →
          t.queued s.recovery.epoch (.demand n))) ∧
      t.table = s.table ∧ t.imaging = s.imaging ∧ t.link.rx = rest ∧ State.sameSetup s t ∧
      t.recovery.jams = s.recovery.jams ∧ t.recovery.fates = s.recovery.fates ∧ t.recovery.epoch = s.recovery.epoch

/-- 01 R16: a PASS from the holder for the next side to image, with the pending pass, raises the sides imaged by one, as a
roster change, up to the survey close (R20); its pass leaves the outstanding passes, and the pending pass becomes the back pass
after the front side of a duplex sheet and none otherwise. Every other PASS is not applied. -/
def Obligations.PassRaisesSides : Prop :=
  ∀ (s : State) (f : RxFrame) (rest : List RxFrame) (x : Serial) (side : Nat) (p : Pass), s.receives f rest →
    f.payload = .pass x side p →
    let u : State := if f.sender = s.own then
        { s.taken rest with imaging.passes := s.imaging.passes.filter fun q => q != (x, side) } else s.taken rest
    (∀ r, s.record x = some r → s.roster.phase = .normal ∨ s.roster.stage ≠ .closed → r.stage = .fed →
      r.holder = some f.sender →
      (side = 1 ∧ r.sides = 0 ∨ side = 2 ∧ r.duplex = true ∧ r.sides = 1) → r.pending = some p →
      exec .passReceipt s = .next (u.setRecord x fun q => { q with sides := q.sides + 1 }).rosterChanged ∧
      (u.setRecord x fun q => { q with sides := q.sides + 1 }).rosterChanged.roster =
        { s.roster with records := s.roster.records.map fun q => if q.serial = x then { q with sides := q.sides + 1 } else q } ∧
      ((r.duplex = true ↔ r.backPass.isSome) →
        ({ r with sides := r.sides + 1 } : SheetRecord).outstanding = r.outstanding.drop 1) ∧
      r.outstanding.head? = some p ∧
      ({ r with sides := r.sides + 1 } : SheetRecord).pending = (if side = 1 ∧ r.duplex = true then r.backPass else none)) ∧
    ((s.roster.phase = .recovery ∧ s.roster.stage = .closed ∨
        ∀ r, s.record x = some r → ¬ (r.stage = .fed ∧ r.holder = some f.sender ∧
        (side = 1 ∧ r.sides = 0 ∨ side = 2 ∧ r.duplex = true ∧ r.sides = 1) ∧ r.pending = some p)) →
      exec .passReceipt s = .next u)

/-- 01 R17, R20, 09 R144: a DELIVERED from the holder of a FED record removes it, whatever the bin, the others keeping their
order, as a roster change; any other DELIVERED is not applied. A removed serial comes back only through an INTENT whose serial
follows the last accepted one. In phase RECOVERY a purged sheet joins the run-out account, once; after the survey close only
run-out sheets are delivered. -/
def Obligations.DeliveredRemovesRecord : Prop :=
  ∀ (s : State) (f : RxFrame) (rest : List RxFrame) (x : Serial) (bin : Nat), s.receives f rest →
    f.payload = .delivered x bin →
    (∀ r, s.record x = some r → s.takesCustody r → r.stage = .fed → r.holder = some f.sender → ∃ t,
      exec .deliveredReceipt s = .next t ∧
      t.roster = { s.roster with records := s.roster.records.filter fun q => q.serial != x } ∧
      (s.roster.phase = .normal → s.moving x = false →
        t = ({ s.taken rest with roster.records := s.roster.records.filter fun q => q.serial != x } : State).rosterChanged) ∧
      t.record x = none ∧
      (∀ i : IntentFields, i.serial = x → t.refusal i = none → ∀ l, t.roster.lastSerial = some l → precedes l x = true) ∧
      t.recovery.account = { s.recovery.account with
        purged :=
          if s.roster.phase = .recovery ∧ r.fate = some .purge ∧ r.purgeRouted = false ∧
            (∀ e ∈ s.recovery.account.purged, e.replaced ≠ r.serial) ∧ s.recovery.account.purged.length < 48
          then s.recovery.account.purged ++ [
            { replaced := r.serial, front := r.front, back := r.back.getD 0, job := r.job, set := r.set, idx := r.index
              last := r.last, duplex := r.duplex, media := r.media, exit := r.exit, bin := r.bin, reprintOf := r.reprintOf }]
          else s.recovery.account.purged } ∧
      t.recovery.fates = s.recovery.fates ∧
      t.table = s.table ∧ t.imaging = s.imaging ∧ t.link.rx = rest ∧ State.sameSetup s t) ∧
    ((∀ r, s.record x = some r → ¬ (s.takesCustody r ∧ r.stage = .fed ∧ r.holder = some f.sender)) →
      exec .deliveredReceipt s = .next (s.taken rest))

/-- 09 R144, R160: a SET DONE with FORFEITED from the exit station of a forfeited set marked EJECT puts the set, with its exit,
bin, job, set, media and entries, at the end of the run-out account and completes its ejection; one that names no such set
changes nothing. The account takes one set for each bin (log 32). -/
def Obligations.SetDoneCompletesEjection : Prop :=
  ∀ (s : State) (f : RxFrame) (rest : List RxFrame) (bin : Nat) (job : Byte) (set : BitVec 16), s.receives f rest →
    f.payload = .setDone bin job set .forfeited → s.roleIs f.sender .exit = true →
    let named : ForfeitedSet → Bool := fun g =>
      g.eject && !g.ejected && g.exit == f.sender && g.bin == bin && g.job == job && g.set == set
    (∀ g, s.recovery.fates.forfeited.find? named = some g → ∃ t,
      exec .setDoneReceipt s = .next t ∧
      ((∀ h ∈ s.recovery.account.ejected, ¬ (h.exit = g.exit ∧ h.bin = g.bin)) →
        t.recovery.account.ejected = s.recovery.account.ejected ++ [g]) ∧
      ((∃ h ∈ s.recovery.account.ejected, h.exit = g.exit ∧ h.bin = g.bin) →
        t.recovery.account.ejected = s.recovery.account.ejected) ∧
      t.recovery.fates = { s.recovery.fates with
        forfeited := s.recovery.fates.forfeited.map fun h => if named h then { h with complete := true } else h } ∧
      t.recovery.account.purged = s.recovery.account.purged ∧
      t.roster = s.roster ∧ t.table = s.table ∧ t.imaging = s.imaging ∧ t.link.rx = rest ∧ State.sameSetup s t) ∧
    (s.recovery.fates.forfeited.find? named = none → exec .setDoneReceipt s = .next (s.taken rest))

end

section

open Sys2Proof Sys2Proof.Machine

/-! ### Receipts that carry a recovery -/

/-- 01 R19, 03 R47, R48, 08 R128, R133, 02 R38, 11 R184: a JAM or a HALT of another epoch than the roster's opens that epoch at
the roster, and a station that it finds behind enters STOPPING with it, a restarted member that follows epochs among them (log
50); one of the roster's epoch leaves the roster as it is. In phase RECOVERY it enters the jam list, a HALT with station 0 (log
26: from any sender that is not absent). A JAM(RESTART) of another position marks it restarted, escalates, and is answered with
the re-declaration JOIN. -/
def Obligations.JamAndHaltOpenRecovery : Prop :=
  ∀ (s : State) (f : RxFrame) (rest : List RxFrame), s.receives f rest →
    (∀ (k : JamKind) (zone : Nat) (x : Option Serial), f.payload = .jam k zone x → ∃ t, exec .jamReceipt s = .next t ∧
      (f.epoch ≠ s.roster.epoch → s.opensRecovery t f.epoch) ∧ (f.epoch = s.roster.epoch → t.roster = s.roster) ∧
      (f.epoch ≠ s.roster.epoch → s.behind f.epoch → t.caughtUp f.epoch) ∧
      (f.epoch ≠ s.roster.epoch → s.path = .stopping →
        t.recovery.path = .stopping ∧ t.recovery.epoch = f.epoch ∧ t.recovery.claim = s.recovery.claim) ∧
      (f.epoch = s.roster.epoch → t.recovery.path = s.recovery.path ∧ t.recovery.epoch =
        if s.recovery.following = true ∧ f.sender ≠ s.own then f.epoch else s.recovery.epoch) ∧
      (t.roster.phase = .recovery → s.jamEntered t
        { epoch := f.epoch, kind := .jam k, station := f.sender
          named := if k ∈ [JamKind.late, .stall, .short, .blocked, .stray, .misfeed] then x.toList else [] }) ∧
      (t.roster.phase = .normal → t.recovery.jams = s.recovery.jams) ∧
      (k = .restart → s.shapeLaw → 1 ≤ f.sender → f.sender ≤ 16 → f.sender ≠ s.own →
        (t.entry f.sender).restarted = true ∧ t.recovery.escalated = true ∧
        (s.txRoom = true → t.queued t.recovery.epoch (.join s.prof.summary s.occupied))) ∧
      t.recovery.fates = s.recovery.fates ∧ t.imaging = s.imaging ∧ t.link.rx = rest ∧ State.sameSetup s t) ∧
    (f.payload = .halt → ∃ t, exec .haltReceipt s = .next t ∧
      (f.epoch ≠ s.roster.epoch → s.opensRecovery t f.epoch) ∧ (f.epoch = s.roster.epoch → t.roster = s.roster) ∧
      (f.epoch ≠ s.roster.epoch → s.behind f.epoch → t.caughtUp f.epoch) ∧
      (f.epoch ≠ s.roster.epoch → s.path = .stopping →
        t.recovery.path = .stopping ∧ t.recovery.epoch = f.epoch ∧ t.recovery.claim = s.recovery.claim) ∧
      (f.epoch = s.roster.epoch → t.recovery.path = s.recovery.path ∧ t.recovery.epoch =
        if s.recovery.following = true ∧ f.sender ≠ s.own then f.epoch else s.recovery.epoch) ∧
      (t.roster.phase = .recovery → s.jamEntered t { epoch := f.epoch, kind := .halt, station := 0, named := [] }) ∧
      (t.roster.phase = .normal → t.recovery.jams = s.recovery.jams) ∧
      t.recovery.fates = s.recovery.fates ∧ t.imaging = s.imaging ∧ t.link.rx = rest ∧ State.sameSetup s t)

/-- 08 R134, R137: a HOLDING of the open survey is recorded: its entries join the position's, its flags escalate, the final one
is counted, and closes the survey once every present position has been heard. The first of an epoch adds LINE_HELD to the jam
list when the line was low at its end mark, and UNCLAIMED when the list holds no JAM or HALT of the epoch, unless the epoch was
stepped without a stop. That entries beyond the tenth (R136) are cut off, and not their whole frame, is log 43. -/
def Obligations.HoldingRecorded : Prop :=
  ∀ (s : State) (f : RxFrame) (rest : List RxFrame) (h : HoldingFields), s.receives f rest → s.shapeLaw →
    f.payload = .holding h → f.epoch = s.roster.epoch → s.roster.stage = .open → 1 ≤ f.sender → f.sender ≤ 16 →
    (s.entry f.sender).holdingReceived = false → ∃ t, exec .holdingReceipt s = .next t ∧
      (t.positionReport f.sender).entries = ((s.positionReport f.sender).entries ++ h.entries).take 10 ∧
      (h.restarted = true ∨ h.desync = true → t.recovery.escalated = true) ∧
      (s.recovery.record.seen = true ∨ s.recovery.resurvey = some f.epoch → t.recovery.jams = s.recovery.jams) ∧
      (s.recovery.record.seen = false → s.recovery.resurvey ≠ some f.epoch → s.recovery.jams.length ≤ 6 →
        (∀ j ∈ s.recovery.jams, j.epoch = f.epoch → j.kind ≠ .lineHeld ∧ j.kind ≠ .unclaimed) →
        t.recovery.jams = s.recovery.jams
          ++ (if f.lineLow then [{ epoch := f.epoch, kind := .lineHeld, station := 0, named := [] }] else [])
          ++ (if s.recovery.jams.any fun j => j.epoch == f.epoch then []
              else [{ epoch := f.epoch, kind := .unclaimed, station := 0, named := [] }])) ∧
      (h.final = false → t.roster = s.roster ∧ t.recovery.path = s.recovery.path ∧ State.sameSegment s t ∧
        (∀ p, (t.entry p).holdingReceived = (s.entry p).holdingReceived) ∧
        (f.sender = s.own → t.link.lostSinceHolding = false)) ∧
      (h.final = true →
        (t.positionReport f.sender).purgeSpace = h.purgeSpace ∧ (t.positionReport f.sender).openSets = h.openSets ∧
        (t.entry f.sender).holdingReceived = true ∧
        (((s.positionReport f.sender).sets.filter (·.complete)).length ≠ h.openSets → t.recovery.escalated = true) ∧
        ((∃ q ∈ s.presentList, q ≠ f.sender ∧ (s.entry q).holdingReceived = false) →
          t.roster = s.roster ∧ t.recovery.path = s.recovery.path ∧ State.sameSegment s t) ∧
        (s.recovery.restarted = false → (∀ q ∈ s.presentList, q = f.sender ∨ (s.entry q).holdingReceived = true) →
          s.surveyClosed t)) ∧
      t.imaging = s.imaging ∧ t.link.rx = rest ∧ State.sameSetup s t

/-- 08 R138: a SETLIST of the open survey makes or extends the set list of its bin in its sender's report; a complete list,
another set's, and one that would pass 40 entries stay as they are. Nothing else of the sender's report, no other position's
report and nothing else of the station changes. -/
def Obligations.SetlistRecorded : Prop :=
  ∀ (s : State) (f : RxFrame) (rest : List RxFrame) (bin : Nat) (job : Byte) (set : BitVec 16) (es : List SetEntry)
    (last : Bool), s.receives f rest → f.payload = .setlist bin job set es last → f.epoch = s.roster.epoch →
    s.roster.stage = .open → 1 ≤ f.sender → f.sender ≤ 16 → (s.entry f.sender).holdingReceived = false → ∃ t,
      exec .setlistReceipt s = .next t ∧
      ((∀ l ∈ (s.positionReport f.sender).sets, l.bin ≠ bin) → es.length ≤ 40 →
        (t.positionReport f.sender).sets = (s.positionReport f.sender).sets ++ [
          { bin := bin, job := job, set := set, entries := es, complete := last }]) ∧
      (∀ pre l post, (s.positionReport f.sender).sets = pre ++ l :: post → l.bin = bin → (∀ m ∈ pre ++ post, m.bin ≠ bin) →
        (t.positionReport f.sender).sets = pre ++
          (if l.complete = false ∧ l.job = job ∧ l.set = set ∧ l.entries.length + es.length ≤ 40
            then { l with entries := l.entries ++ es, complete := last } else l) :: post) ∧
      (∀ q, q ≠ f.sender → t.positionReport q = s.positionReport q) ∧
      t.positionReport f.sender = { s.positionReport f.sender with sets := (t.positionReport f.sender).sets } ∧
      t = { s.taken rest with recovery.record.reports := t.recovery.record.reports }

/-- 03 R57, 08 R140: a CLOSE of the open survey makes the positions it lists absent and closes the survey; a station listed
itself enters SILENT-ABSENT. One of a closed survey only withdraws the station's own CLOSE. A sender that is not absent counts
as present (log 30). That the closed station drops its frame in transmission is log 59. -/
def Obligations.CloseEndsSurvey : Prop :=
  ∀ (s : State) (f : RxFrame) (rest : List RxFrame) (ps : List Pos), s.receives f rest → s.shapeLaw →
    f.payload = .close ps → f.epoch = s.roster.epoch → 1 ≤ f.sender → f.sender ≤ 16 → ∃ t,
      exec .closeReceipt s = .next t ∧
      (s.roster.stage = .open → (∀ p ∈ ps, 1 ≤ p → p ≤ 16 → t.isAbsent p = true) ∧
        (∀ p, p ∉ ps → (t.entry p).presence = (s.entry p).presence)) ∧
      (s.roster.stage = .open → s.own ∉ ps → s.surveyClosed t) ∧
      (s.roster.stage = .open → s.own ∈ ps → t.recovery.path = .silentAbsent ∧ t.link.slot = none ∧ t.link.queue = [] ∧
        t.drive.state = .off ∧ t.den = false ∧ t.roster = s.roster) ∧
      (s.roster.stage ≠ .open → t.roster = s.roster ∧ t.table = s.table ∧ t.recovery.path = s.recovery.path ∧
        State.sameSegment s t ∧ (∀ g ∈ t.link.queue, g.payload.isClose = true → g.sending = true ∧ g.withdrawn = true)) ∧
      t.link.rx = rest ∧ State.sameSetup s t

/-- 11 R182, R183: a READY of the clearance epoch with the first digest becomes its sender's last READY, and the station enters
PLAN once every present position's is clear, with its own digest. One with another digest empties the vote, counts a mismatch,
escalates at the third, and steps the epoch: a station in CLEARANCE opens its survey. A sender that is not absent counts as
present (log 30). -/
def Obligations.ReadyCountsInTheVote : Prop :=
  ∀ (s : State) (f : RxFrame) (rest : List RxFrame) (clear : Bool) (digest : Crc), s.receives f rest → s.shapeLaw →
    f.payload = .ready clear digest → s.clearanceFrame f →
    ((∀ d, s.recovery.firstDigest = some d → d = digest) → ∃ t, exec .readyReceipt s = .next t ∧
      t.recovery.firstDigest = some digest ∧
      (t.entry f.sender).lastReady = some { clear := clear, digest := digest, epoch := f.epoch } ∧
      (∀ q, q ≠ f.sender → t.entry q = s.entry q) ∧
      (s.path = .clearance → s.recovery.fates.digest = some digest → clear = true → s.recovery.restarted = false →
        s.presentList ≠ [] →
        (∀ q ∈ s.presentList, q ≠ f.sender →
          (s.entry q).lastReady = some { clear := true, digest := digest, epoch := f.epoch }) →
        t.recovery.path = .plan) ∧
      (clear = false → s.isPresent f.sender = true → t.recovery.path = s.recovery.path) ∧
      (s.path ≠ .clearance → t.recovery.path = s.recovery.path) ∧
      t.roster = s.roster ∧ State.sameSegment s t ∧ t.link.rx = rest ∧ State.sameSetup s t) ∧
    (∀ d, s.recovery.firstDigest = some d → d ≠ digest → ∃ t, exec .readyReceipt s = .next t ∧
      t.recovery.firstDigest = none ∧ (∀ p, (t.entry p).lastReady = none) ∧
      t.recovery.mismatch = min (s.recovery.mismatch + 1) 3 ∧
      t.recovery.escalated = (decide (2 ≤ s.recovery.mismatch) || s.recovery.escalated) ∧
      t.recovery.resurvey = some (s.recovery.clearanceEpoch + 1) ∧
      (s.path = .clearance → t.recovery.path = .survey ∧ t.recovery.epoch = s.recovery.clearanceEpoch + 1) ∧
      (s.path ≠ .clearance → t.recovery.path = s.recovery.path ∧ t.recovery.epoch = s.recovery.epoch) ∧
      t.roster = s.roster ∧ t.exit = s.exit ∧ t.feed = s.feed ∧ t.imaging = s.imaging ∧ t.drive = s.drive ∧
      t.link.rx = rest ∧ State.sameSetup s t)

/-- 11 R178, R179, R180: an applicable REVISION joins the revision list, steps the clearance epoch, empties the vote and the
plan in progress, and has the fates computed again, in which a removed sheet is LOST; a station in CLEARANCE or PLAN goes on in
CLEARANCE with the new epoch. One that is in the list already changes neither. -/
def Obligations.RevisionRecomputesFates : Prop :=
  ∀ (s : State) (f : RxFrame) (rest : List RxFrame) (v : RevisionContent), s.receives f rest →
    f.payload = .revision v → s.clearanceFrame f →
    let item : Revision := match v with
      | .removed x => .removed x
      | .unknown z => .unknown f.sender z
    (item ∉ s.recovery.revisions →
      (∀ x, v = .removed x → ∃ r, s.record x = some r ∧
        (r.fate = some .keep ∨ r.fate = some .park ∨ r.fate = some .release ∨ r.fate = some .purge)) →
      (∀ z, v = .unknown z → 1 ≤ z ∧ z ≤ 4) → ∃ t, exec .revisionReceipt s = .next t ∧
      t.recovery.revisions = s.recovery.revisions ++ [item] ∧
      t.recovery.clearanceEpoch = s.recovery.clearanceEpoch + 1 ∧ t.recovery.firstDigest = none ∧
      (∀ p, (t.entry p).lastReady = none) ∧ t.recovery.planIn = {} ∧ t.recovery.fates.digest.isSome ∧
      t.roster.records.map (·.serial) = s.roster.records.map (·.serial) ∧ (∀ r ∈ t.roster.records, r.fate.isSome) ∧
      (∀ x d, v = .removed x → s.recovery.escalated = false → s.detail x = some d → d.tray = false →
        ∀ r ∈ t.roster.records, r.serial = x → r.fate = some .lost) ∧
      (s.path ∈ [PathState.clearance, .plan] → t.recovery.path = .clearance ∧
        t.recovery.epoch = s.recovery.clearanceEpoch + 1) ∧
      (s.path ∉ [PathState.clearance, .plan] → t.recovery.path = s.recovery.path ∧
        t.recovery.epoch = s.recovery.epoch) ∧
      (f.sender = s.own → s.recovery.doorMark = false → s.recovery.pendingRevs.head? = some v →
        t.recovery.pendingRevs = s.recovery.pendingRevs.drop 1) ∧
      t.exit = s.exit ∧ t.feed = s.feed ∧ t.imaging = s.imaging ∧ t.drive = s.drive ∧ t.link.rx = rest ∧
      State.sameSetup s t) ∧
    (item ∈ s.recovery.revisions → ∃ t, exec .revisionReceipt s = .next t ∧
      t.recovery.revisions = s.recovery.revisions ∧ t.recovery.clearanceEpoch = s.recovery.clearanceEpoch ∧
      (f.sender = s.own → s.recovery.pendingRevs.head? = some v →
        t.recovery.pendingRevs = s.recovery.pendingRevs.drop 1) ∧
      t.roster = s.roster ∧ t.table = s.table ∧ State.sameSegment s t ∧ t.link.rx = rest ∧ State.sameSetup s t)

/-- 03 R57, 11 R186: from the publishing station a PLAN with a count starts the plan in progress, after its absent positions are
struck out, and a PLAN ENTRY joins it; a station struck out itself enters SILENT-ABSENT. A frame that fails R186's conditions is
taken without effect, but that a restarted station applies the absent list of a PLAN from any sender that is UNKNOWN or PRESENT.
That a station struck out drops its frame in transmission is log 59. -/
def Obligations.PlanFramesCollected : Prop :=
  ∀ (s : State) (f : RxFrame) (rest : List RxFrame), s.receives f rest → s.shapeLaw →
    let struckOut (t : State) : Prop := t.recovery.path = .silentAbsent ∧ t.link.slot = none ∧ t.link.queue = [] ∧
      t.drive.state = .off ∧ t.roster = s.roster ∧ t.recovery.fates = s.recovery.fates ∧ State.sameSetup s t
    let applied : Prop := s.clearanceFrame f ∧ s.publishing = some f.sender
    (applied →
      (∀ e, f.payload = .planEntry e → exec .planEntryReceipt s =
        .next { s.taken rest with recovery.planIn.entries := s.recovery.planIn.entries ++ [e] }) ∧
      (∀ p, f.payload = .plan p → p.count ≠ 0 → s.own ∉ p.absent → ∃ t, exec .planReceipt s = .next t ∧
        t.recovery.planIn = { header := some p, entries := [] } ∧
        (∀ q ∈ p.absent, 1 ≤ q → q ≤ 16 → t.isAbsent q = true) ∧
        (∀ q, q ∉ p.absent → t.entry q = s.entry q) ∧
        t = { s.taken rest with recovery.planIn := t.recovery.planIn, table.entries := t.table.entries }) ∧
      (∀ p, f.payload = .plan p → s.own ∈ p.absent → ∃ t, exec .planReceipt s = .next t ∧ struckOut t)) ∧
    (¬ applied →
      (∀ e, f.payload = .planEntry e → exec .planEntryReceipt s = .next (s.taken rest)) ∧
      ∀ p, f.payload = .plan p →
        (s.recovery.restarted = false → exec .planReceipt s = .next (s.taken rest)) ∧
        (s.recovery.restarted = true → 1 ≤ f.sender → f.sender ≤ 16 →
          (s.own ∉ p.absent → ∃ t, exec .planReceipt s = .next t ∧
            (∀ q ∈ p.absent, 1 ≤ q → q ≤ 16 → t.isAbsent q = true) ∧ (∀ q, q ∉ p.absent → t.entry q = s.entry q) ∧
            t = { s.taken rest with table.entries := t.table.entries }) ∧
          (s.own ∈ p.absent → ∃ t, exec .planReceipt s = .next t ∧ struckOut t)))

/-- 11 R187, R188, R189, 01 R22, 02 R35, 10 R171: the final PLAN of the publishing station ends the recovery: the LOST and the
withdrawn records leave, the others take their custody and route index, their pages as carriers and their purge route from the
fates, which then go; the open sets marked STAY are closed with SET DONE(FORFEITED); the phase is NORMAL, the plan is in force,
the jam list, the account and the vote are empty, and a station in PLAN enters RESUMING. A station that has lost no frame since
its last HOLDING is in step again after an escalated plan. A PARK sheet at its park target stays with it (log 16). -/
def Obligations.FinalPlanEndsRecovery : Prop :=
  ∀ (s : State) (f : RxFrame) (rest : List RxFrame) (p : PlanFields), s.receives f rest → s.clearanceFrame f →
    s.publishing = some f.sender → f.payload = .plan p → p.count = 0 → s.own ∉ p.absent → ∃ t,
      exec .planReceipt s = .next t ∧
      t.roster.phase = .normal ∧ t.roster.stage = .notApplicable ∧ t.roster.epoch = f.epoch ∧
      t.roster.planInForce = some p.firstFree ∧ t.roster.lastSerial = s.roster.lastSerial ∧
      t.roster.records.map (·.serial) = (s.roster.records.filter fun r =>
        !(r.fate == some .lost || (r.stage == .announced && (s.detail r.serial).any (·.withdrawn)))).map (·.serial) ∧
      (∀ q ∈ t.roster.records, ∃ r ∈ s.roster.records, q.serial = r.serial ∧ q.fate = none ∧ q.stage = r.stage ∧
        q.sides = r.sides ∧ q.frontPass = r.frontPass ∧ q.backPass = r.backPass ∧ q.route = r.route ∧
        (r.fate = some .purge → q.purgeRouted = true) ∧ (r.fate ≠ some .purge → q.purgeRouted = r.purgeRouted) ∧
        q.media = r.media ∧ q.duplex = r.duplex ∧ q.exit = r.exit ∧ q.handoff = r.handoff ∧
        (r.fate ≠ some .release → q.front = r.front ∧ q.back = r.back ∧ q.job = r.job ∧ q.set = r.set ∧ q.index = r.index ∧
          q.last = r.last ∧ q.bin = r.bin ∧ q.reprintOf = r.reprintOf) ∧
        (∀ e, r.fate = some .release → s.recovery.fates.reprint.find? (fun i => i.carrier == some r.serial) = some e →
          q.front = e.front ∧ q.back = (if r.duplex then some e.back else none) ∧ q.job = e.job ∧ q.set = e.set ∧ q.index = e.idx ∧ q.last = e.last ∧ q.bin = e.bin ∧
          q.reprintOf = some e.replaced) ∧
        (∀ d x, s.detail r.serial = some d → d.rest = some x → r.stage = .fed →
          ¬ (r.fate = some .park ∧ d.parkTarget.isSome ∧ r.holder = d.parkTarget) →
          q.holder = some x.station ∧
            q.routeIndex = if r.holder = some x.station then r.routeIndex else x.routeIndex) ∧
        ((∀ d, s.detail r.serial = some d → d.rest = none ∨ r.stage = .announced ∨
            r.fate = some .park ∧ d.parkTarget.isSome ∧ r.holder = d.parkTarget) →
          q.holder = r.holder ∧ q.routeIndex = r.routeIndex)) ∧
      (s.shapeLaw → ∀ k o, k ∈ s.binNumbers → (s.bin k).openSet = some o →
        (∀ g, s.forfeitedSet k = some g → g.eject = false →
          t.bin k = { s.bin k with state := .empty, openSet := none, finish := .stopped, fin := false } ∧
          (s.link.queue.length ≤ 4 → s.link.slot = none →
            t.queued s.recovery.epoch (.setDone k o.job o.set .forfeited))) ∧
        ((∀ g, s.forfeitedSet k = some g → g.eject = true) → t.bin k = s.bin k)) ∧
      (∀ k, (s.bin k).openSet = none → t.bin k = s.bin k) ∧ t.exit.purgeCount = s.exit.purgeCount ∧
      (s.link.outOfStep = true → p.escalated = false ∨ s.link.lostSinceHolding = true → t.link.outOfStep = true) ∧
      (p.escalated = true → s.link.lostSinceHolding = false → s.path ∈ [PathState.stopping, .survey, .clearance, .plan] →
        s.link.queue = [] → s.link.slot = none → s.handoff.deferred = [] → s.shapeLaw → t.link.outOfStep = false) ∧
      t.recovery.jams = [] ∧ t.recovery.escalated = false ∧ t.recovery.account = {} ∧ t.recovery.fates = {} ∧
      t.recovery.revisions = [] ∧ t.recovery.firstDigest = none ∧ t.recovery.mismatch = 0 ∧
      t.recovery.restarted = false ∧ (∀ q, (t.entry q).lastReady = none ∧ (t.entry q).restarted = false) ∧
      (∀ e ∈ t.track.queue, (t.record e.serial).isSome) ∧
      (s.path = .plan → t.recovery.path = .resuming ∧ t.drive.gateHeld = false) ∧
      (s.path ≠ .plan → t.recovery.path = s.recovery.path) ∧
      t.imaging = s.imaging ∧ t.link.rx = rest ∧ State.sameSetup s t

end

section

open Sys2Proof Sys2Proof.Machine

/-! ### Timers that run out -/

/-- 03 R46, R49, R50, R54, R55, R56: what the ends of the listen timer (log 45), the JOIN delay, the roll call timer, the
presence timer and a silence timer do; the checks of the frozen table in their order, the first that fails giving the unfit
reason. The time still to go passes with the event (log 3). That an UNFIT station drops its frame in transmission is log 59. -/
def Obligations.RollCallTimers : Prop :=
  (∀ w : State, w.shapeLaw →
    let duplicate := ∃ e ∈ w.table.entries, e.duplicated = true
    let missingRole := ¬ ((∃ p ∈ w.presentList, w.roleIs p .feed = true) ∧ (∃ p ∈ w.presentList, w.roleIs p .imaging = true) ∧
      ∃ p ∈ w.presentList, w.roleIs p .exit = true)
    let missingDownstream := ∃ p ∈ w.presentList, ∃ d ∈ w.downs p, w.isPresent d = false
    let upstreamCount := ∃ p ∈ w.presentList, 3 < (w.presentList.filter fun q => (w.downs q).contains p).length
    let mergeUpstream := ∃ p ∈ w.presentList, w.roleIs p .merge = true ∧
      ∃ q ∈ w.presentList, p ∈ w.downs q ∧ w.classIs q .holds = false
    let noPurgePath := ∃ p ∈ w.presentList, w.roleIs p .exit = false ∧ ∀ chain, chain.length ≤ 15 → ¬ w.leads p chain
    let feedDownstream := ∃ p ∈ w.presentList, w.roleIs p .feed = true ∧ ∃ q ∈ w.presentList, p ∈ w.downs q
    (duplicate → w.validate = some .duplicatePosition) ∧
    (¬ duplicate → missingRole → w.validate = some .missingRole) ∧
    (¬ duplicate → ¬ missingRole → missingDownstream → w.validate = some .missingDownstream) ∧
    (¬ duplicate → ¬ missingRole → ¬ missingDownstream →
      (upstreamCount → w.validate = some .upstreamCount) ∧
      (¬ upstreamCount → mergeUpstream → w.validate = some .mergeUpstream) ∧
      (¬ upstreamCount → ¬ mergeUpstream → noPurgePath → w.validate = some .noPurgePath) ∧
      (¬ upstreamCount → ¬ mergeUpstream → ¬ noPurgePath →
        (feedDownstream → w.validate = some .feedDownstream) ∧ (¬ feedDownstream → w.validate = none)))) ∧
  ∀ (s : State) (r : Nat), s.shapeLaw →
    let u := s.elapse r
    (s.table.listen.runsOutIn (s.path == .listen && s.sending.isNone) r → exec .listenTimerExpiry s =
      .next { u with
        recovery.path := .rollcall, table.listen := .stopped, table.rollCall := .running 1000
        table.joinDelay := .running (s.own * 20) }) ∧
    (s.table.joinDelay.runsOutIn (s.path == .rollcall) r → s.txRoom = true → exec .joinDelayExpiry s =
      .next { u with
        table.joinDelay := .expired
        link.queue := s.link.queue ++ [{ payload := .join s.prof.summary u.occupied, epoch := s.recovery.epoch }] }) ∧
    (s.table.rollCall.runsOutIn (s.path == .rollcall) r →
      (s.isPresent s.own = false → ∃ t, exec .rollCallClose s = .next t ∧ t.recovery.path = .listen ∧
        t.table.listen = .running 1500 ∧ (∀ p, t.entry p = {}) ∧ t = { u with recovery.path := .listen, table := t.table }) ∧
      (∀ reason, s.isPresent s.own = true → u.freezeTable.validate = some reason → ∃ t, exec .rollCallClose s = .next t ∧
        t.recovery.path = .unfit ∧ t.table.unfit = some reason ∧ t.link.slot = none ∧ t.link.queue = [] ∧
        t.drive.state = .off ∧ t.roster = s.roster ∧ t.track = u.track) ∧
      (s.isPresent s.own = true → u.freezeTable.validate = none → ∃ t, exec .rollCallClose s = .next t ∧
        t.recovery.path = .run ∧ t.recovery.epoch = 0 ∧ t.table.presence = .running 200 ∧
        (∀ p, 1 ≤ p → p ≤ 16 → t.isPresent p = s.isPresent p ∧ (s.isPresent p = false → t.isAbsent p = true) ∧
          (s.isPresent p = true → p ≠ s.own → (t.entry p).silence = .running 600)) ∧
        t.roster = s.roster ∧ t.imaging = u.imaging ∧ t.inputs = u.inputs ∧ t.link.rx = s.link.rx)) ∧
    (s.table.presence.runsOutIn (livePath s.path) r →
      (s.link.queue = [] → s.link.slot = none → exec .presenceTimerExpiry s =
        .next { u with
          table.presence := .expired
          link.queue := [{ payload := .presence s.path s.recovery.epoch, epoch := s.recovery.epoch }] }) ∧
      (s.link.queue ≠ [] ∨ s.link.slot ≠ none → exec .presenceTimerExpiry s = .next { u with table.presence := .expired })) ∧
    (∀ p, 1 ≤ p → p ≤ 16 → p ≠ s.own → s.isPresent p = true → (s.entry p).silence.runsOutIn (livePath s.path) r →
      s.canClaim → ∃ t, exec (.silenceTimerExpiry p) s = .next t ∧ t.jamQueued .peerLost 0 (some (BitVec.ofNat 16 p)) ∧
        (t.entry p).silence = .expired ∧ (∀ q, q ≠ p → t.entry q = u.entry q) ∧ t.link.rx = s.link.rx ∧
        t = { u with link := t.link, table.entries := t.table.entries })

/-- 04 R62, R64, R66, 08 R129, R139: what the ends of the spin timer, the halt timer, the claim window, the line-held timer and
the survey timer do. The time still to go passes with the event (log 3). -/
def Obligations.DriveAndStopTimers : Prop :=
  ∀ (s : State) (r : Nat),
    let u := s.elapse r
    (s.drive.spin.runsOutIn (s.drive.state == .spinning) r → s.canClaim → ∃ t, exec .spinTimerExpiry s = .next t ∧
      t.jamQueued .drive 0 none ∧ t.recovery.driveJam = true ∧ t.den = false ∧ t.drive.spin = .stopped ∧
      (u.reads .drdy = true → t.drive.state = .halting ∧ t.drive.halt = .running 150) ∧
      (u.reads .drdy = false → t.drive.state = .off ∧ t.drive.halt = .stopped) ∧
      t.recovery.path = s.recovery.path ∧ t.roster = s.roster ∧ t.table = u.table ∧ t.exit = u.exit ∧
      t.link.rx = s.link.rx) ∧
    (s.drive.halt.runsOutIn (s.drive.state == .halting) r → s.canClaim → ∃ t, exec .haltTimerExpiry s = .next t ∧
      t.jamQueued .drive 0 none ∧ t.recovery.driveJam = true ∧ t.drive.state = .off ∧ t.drive.halt = .stopped ∧
      t.recovery.path = s.recovery.path ∧ t.roster = s.roster ∧ t.table = u.table ∧ t.exit = u.exit ∧
      t.link.rx = s.link.rx) ∧
    (s.recovery.claim.runsOutIn (livePath s.path) r →
      (s.path = .stopping → s.lineIsLow = false → s.drive.state = .off ∨ s.recovery.driveJam = true → ∃ t,
        exec .claimWindowExpiry s = .next t ∧ t.recovery.path = .survey ∧
        t.recovery.survey = .running (400 + 100 * s.rank s.own) ∧ t.track.expected = [] ∧ t.track.pickCandidate = none ∧
        (s.txRoom = true → ∃ f ∈ t.link.queue, f.tag = .report ∧ f.epoch = s.recovery.epoch) ∧
        t.recovery.epoch = s.recovery.epoch ∧ t.roster = s.roster ∧ t.table = u.table ∧ t.exit = u.exit) ∧
      (s.path ≠ .stopping ∨ s.lineIsLow = true ∨ (s.drive.state ≠ .off ∧ s.recovery.driveJam = false) →
        exec .claimWindowExpiry s = .next { u with recovery.claim := .expired })) ∧
    (s.recovery.lineHeld.runsOutIn (livePath s.path) r →
      (s.path = .stopping → ∃ t, exec .lineHeldTimerExpiry s = .next t ∧ t.recovery.path = .survey ∧
        t.recovery.survey = .running (400 + 100 * s.rank s.own) ∧ t.track.expected = [] ∧ t.track.pickCandidate = none ∧
        t.recovery.epoch = s.recovery.epoch ∧ t.roster = s.roster ∧ t.table = u.table ∧ t.exit = u.exit) ∧
      (s.path ≠ .stopping → exec .lineHeldTimerExpiry s = .next { u with recovery.lineHeld := .expired })) ∧
    (s.recovery.survey.runsOutIn (s.path == .survey) r →
      (s.roster.stage = .open → s.roster.epoch = s.recovery.epoch → s.recovery.restarted = false → s.txRoom = true →
        exec .surveyTimerExpiry s = .next { u with
          recovery.survey := .expired
          link.queue := s.link.queue ++ [{ payload := .close [], epoch := s.recovery.epoch }] }) ∧
      (s.roster.stage ≠ .open ∨ s.roster.epoch ≠ s.recovery.epoch ∨ s.recovery.restarted = true →
        exec .surveyTimerExpiry s = .next { u with recovery.survey := .expired }))

/-- 05 R86, R88, 06 R98, R99, 10 R167, R170, 04 R72: what the ends of an answer timer, a re-offer timer, an arrival, lead or
trail timer, the pick timer, a finish timer and the image sync pulse do. The time still to go passes with the event (log 3).
That a held purge's timers run in RUNOUT is log 62, that a re-offer which finds the transmit queue full leaves the record in
RETRY log 63. -/
def Obligations.SheetTimers : Prop :=
  ∀ (s : State) (r : Nat), s.shapeLaw →
    let u := s.elapse r
    (∀ dest o, s.offerTo dest = some o → o.answer.runsOutIn (s.path == .run || s.path == .runout) r → s.canClaim → ∃ t,
      exec (.answerTimerExpiry dest) s = .next t ∧ t.jamQueued .noAnswer 0 none ∧ t.link.rx = s.link.rx ∧
      t = { u with
        link := t.link
        handoff.offers := u.handoff.offers.map fun q => if q.dest = dest then { q with answer := .expired } else q }) ∧
    (∀ dest o, s.offerTo dest = some o → o.reoffer.runsOutIn (s.path == .run || s.path == .runout) r →
      o.state = .retry → ∃ t q, exec (.reOfferTimerExpiry dest) s = .next t ∧ t.offerTo dest = some q ∧
      (q.state = .retry ∧ q.retryMet = true ∨
        q.state = .awaiting ∧ ∃ x w sp, q.offered = [x] ∧ t.queued s.recovery.epoch (.offer dest [x] w sp)) ∧
      t.track.queue.map Entry.motion = u.track.queue.map Entry.motion ∧ t.track.expected = u.track.expected ∧
      t.roster = s.roster ∧ t.table = u.table ∧ t.feed = s.feed ∧ t.exit = u.exit ∧ t.recovery = u.recovery) ∧
    (∀ x i, s.item x = some i → i.timer.runsOutIn (s.paced x) r → s.canClaim → ∃ t,
      exec (.arrivalTimerExpiry x) s = .next t ∧ t.jamQueued .late 0 (some x) ∧ t.link.rx = s.link.rx ∧
      t = { u with
        link := t.link
        track.expected := u.track.expected.map fun j => if j.serial = x then { j with timer := .expired } else j }) ∧
    (∀ x e, s.occupant x = some e → e.lead.runsOutIn (s.entryRuns x) r → s.canClaim → ∃ t,
      exec (.leadTimerExpiry x) s = .next t ∧
      t.jamQueued (if s.isHolds = false ∧ e.deferred = true then .blocked else .late) e.leadZone (some x) ∧
      t.link.rx = s.link.rx ∧
      t = { u with
        link := t.link
        track.queue := u.track.queue.map fun g => if g.serial = x then { g with lead := .expired } else g }) ∧
    (∀ x e, s.occupant x = some e → e.trail.runsOutIn (s.entryRuns x) r → s.canClaim → ∃ t,
      exec (.trailTimerExpiry x) s = .next t ∧
      t.jamQueued (if s.isHolds = false ∧ e.deferred = true then .blocked else .stall) e.trailSensor (some x) ∧
      t.link.rx = s.link.rx ∧
      t = { u with
        link := t.link
        track.queue := u.track.queue.map fun g => if g.serial = x then { g with trail := .expired } else g }) ∧
    (s.track.pickTimer.runsOutIn (s.path == .run) r →
      (0 < s.feed.retries → exec .pickTimerExpiry s = .next { u with
        feed.retries := s.feed.retries - 1, feed.pickOut := true
        track.pickTimer := .running s.prof.pickAllowance }) ∧
      (s.feed.retries = 0 → s.canClaim → ∃ t, exec .pickTimerExpiry s = .next t ∧
        t.jamQueued .misfeed 0 s.track.pickCandidate ∧
        (t.feed.pick = .idle ∧ t.feed.pickOut = false ∧ t.track.pickCandidate = none ∧ t.track.pickTimer = .stopped ∨
          t.feed.pick = .picking ∧ t.feed.retries = s.prof.pickRetries ∧ t.track.pickCandidate.isSome) ∧
        t.track.queue = u.track.queue ∧ t.link.rx = s.link.rx ∧
        t = { u with link := t.link, feed := t.feed, track := t.track })) ∧
    (∀ n, 1 ≤ n → n ≤ 3 → (s.bin n).finish.runsOutIn (movingPath s.path) r → s.canClaim → ∃ t,
      exec (.finishTimerExpiry n) s = .next t ∧ t.jamQueued .finish n none ∧
      ((s.bin n).state = .finishing → t.bin n =
        { s.bin n with state := .finishPending, fin := false, finish := .expired }) ∧
      ((s.bin n).state = .ejecting → t.bin n =
        { s.bin n with state := (s.bin n).beforeEject, fin := false, finish := .expired }) ∧
      (∀ m, 1 ≤ m → m ≠ n → t.bin m = u.bin m) ∧ t.exit.purgeCount = s.exit.purgeCount ∧ t.roster = s.roster ∧
      t.table = u.table ∧ t.recovery = u.recovery ∧ t.track.queue = u.track.queue ∧ t.link.rx = s.link.rx) ∧
    (s.imaging.isync = .running r → ∃ t, exec .isyncPulseEnd s = .next t ∧ t.isync = false ∧
      t = { u with imaging.isync := .stopped })

/-! ### The fates -/

/-- 08 R140, 09 R146, R147, R148, R149, R150, R151, R152, R153, R154, R156, 11 R180, R191: after a survey close, by a CLOSE or
by the last HOLDING, every record has the fate that its resting place, the horizon, the sides imaged and the purge space give
it, or, in an escalated recovery, LOST or KEEP withdrawn; the horizons and the forfeited sets are those of the LOST sheets'
destinations. The reprint list has one entry for each sheet given up that is not purge-routed, each purged sheet of the account
and each sheet of a forfeited set, in modular order and numbered, unless entries were omitted; of two items of one sheet that
of its record stands, then that of the account (log 55). A set that the account holds is not forfeited again (log 36), and an
ejected set alone makes no horizon (log 17); a sheet of the revision list's removals is LOST (R180). The carriers are the
RELEASE records in roster order, bound to the first entries of the list. The digest is the CRC-16 over the fate codes, the
carriers and the entry count. -/
def Obligations.GivenUpSheetsAreReprinted : Prop :=
  ∀ (s t : State) (c : Instr), s.rosterLaw → c = .closeReceipt ∨ c = .holdingReceipt → exec c s = .next t →
    s.roster.stage = .open → t.roster.stage = .closed →
      let list := t.recovery.fates.reprint
      let account := t.recovery.account.purged
      let sets := t.recovery.fates.forfeited
      (t.recovery.escalated = false → t.horizonsStand ∧
        ∀ r ∈ t.roster.records, ∃ d, t.detail r.serial = some d ∧ t.fateStands r d) ∧
      (t.recovery.escalated = true → t.recovery.fates.horizons = [] ∧ list = [] ∧
        ∀ r ∈ t.roster.records, ∃ d, t.detail r.serial = some d ∧
          (d.tray = true → r.fate = some .keep ∧ d.withdrawn = true) ∧ (d.tray = false → r.fate = some .lost)) ∧
      list.length ≤ 64 ∧ (t.recovery.escalated = false → t.recovery.fates.omitted ≠ 0 → list.length = 64) ∧
      (list.map (·.replaced)).Nodup ∧
      (∀ i e, list[i]? = some e → e.index = i + 1 ∧ (e.lastEntry = true ↔ i + 1 = list.length)) ∧
      (t.recovery.fates.omitted = 0 →
        (∀ r ∈ t.roster.records, r.givenUp → t.reprints r.reprintItem) ∧
        (∀ a ∈ account, (∀ r ∈ t.roster.records, r.givenUp → r.serial ≠ a.replaced) →
          ∃ b ∈ account, b.replaced = a.replaced ∧ t.reprints b) ∧
        (∀ f ∈ sets, ∀ x ∈ f.entries, (∀ r ∈ t.roster.records, r.givenUp → r.serial ≠ x.serial) →
          (∀ a ∈ account, a.replaced ≠ x.serial) →
          ∃ g ∈ sets, ∃ y ∈ g.entries, y.serial = x.serial ∧ t.reprints (g.reprintItem y)) ∧
        (∀ first ∈ list, (∀ e ∈ list, e.replaced = first.replaced ∨ precedes first.replaced e.replaced = true) →
          list.Pairwise fun a b => (a.replaced - first.replaced).toNat < (b.replaced - first.replaced).toNat)) ∧
      (∀ e ∈ list, (∃ r ∈ t.roster.records, r.givenUp ∧ r.serial = e.replaced) ∨ (∃ a ∈ account, a.replaced = e.replaced) ∨
        ∃ f ∈ sets, ∃ x ∈ f.entries, x.serial = e.replaced) ∧
      list.filterMap (·.carrier) = (t.roster.records.filter fun r => r.fate == some .release).map (·.serial) ∧
      (∃ bound free, list = bound ++ free ∧ (∀ e ∈ bound, e.carrier.isSome) ∧ ∀ e ∈ free, e.carrier = none) ∧
      t.recovery.fates.digest = some (if t.recovery.escalated then crc16 [0] else crc16
        ((t.roster.records.flatMap fun r => be16 r.serial ++ [t.fateCode r]) ++
          (list.flatMap fun e => match e.carrier with
            | some x => be16 x ++ [BitVec.ofNat 8 e.index]
            | none => []) ++ [BitVec.ofNat 8 list.length]))

end
end

