-- ==== Sys2Proof/Laws/State.lean ====
section
/-! SUPPORT. What each shared operation leaves unchanged: one lemma per operation, cited by simp, so that no proof unfolds a
record update. Operations of LINK, TABLE, ROSTER, TRACK, EXIT, HANDOFF, FEED and the survey. -/

namespace Sys2Proof.Machine

/-! Groups of fields that most operations leave unchanged together. -/

@[simp] abbrev OuterKept (s t : State) : Prop :=
  t.pending = s.pending ∧ t.profile = s.profile ∧ t.profileCrc = s.profileCrc ∧ t.profileTimer = s.profileTimer ∧
    t.inputs = s.inputs

@[simp] abbrev LinkInKept (s t : State) : Prop :=
  t.link.rx = s.link.rx ∧ t.link.backoff = s.link.backoff ∧ t.link.lineLow = s.link.lineLow

@[simp] abbrev MotorKept (s t : State) : Prop :=
  t.drive.state = s.drive.state ∧ t.drive.spin = s.drive.spin ∧ t.drive.halt = s.drive.halt ∧
    t.drive.fresh = s.drive.fresh

@[simp] abbrev GateKept (s t : State) : Prop :=
  t.drive.gate = s.drive.gate ∧ t.drive.gateHeld = s.drive.gateHeld

@[simp] abbrev TimersKept (s t : State) : Prop :=
  t.recovery.claim = s.recovery.claim ∧ t.recovery.lineHeld = s.recovery.lineHeld ∧
    t.recovery.survey = s.recovery.survey ∧ t.recovery.driveJam = s.recovery.driveJam

@[simp] abbrev SurveyKept (s t : State) : Prop :=
  t.recovery.jams = s.recovery.jams ∧ t.recovery.record = s.recovery.record ∧
    t.recovery.restarted = s.recovery.restarted ∧ t.recovery.following = s.recovery.following ∧
    t.recovery.fates = s.recovery.fates ∧ t.recovery.account = s.recovery.account

@[simp] abbrev VoteKept (s t : State) : Prop :=
  t.recovery.clearanceEpoch = s.recovery.clearanceEpoch ∧ t.recovery.revisions = s.recovery.revisions ∧
    t.recovery.firstDigest = s.recovery.firstDigest ∧ t.recovery.mismatch = s.recovery.mismatch ∧
    t.recovery.resurvey = s.recovery.resurvey ∧ t.recovery.planIn = s.recovery.planIn

@[simp] abbrev TableTimersKept (s t : State) : Prop :=
  t.table.listen = s.table.listen ∧ t.table.rollCall = s.table.rollCall ∧ t.table.joinDelay = s.table.joinDelay ∧
    t.table.presence = s.table.presence ∧ t.table.unfit = s.table.unfit

@[simp] abbrev FeedLinesKept (s t : State) : Prop :=
  t.feed.tray = s.feed.tray ∧ t.feed.crossing = s.feed.crossing

/-! ### Ops -/

@[simp] theorem State.setEntry_frame (s : State) (p : Pos) (f : TableEntry → TableEntry) :
    let t := s.setEntry p f; OuterKept s t ∧ TableTimersKept s t ∧ t.link = s.link ∧ t.table.map = s.table.map ∧
      t.roster = s.roster ∧ t.track = s.track ∧ t.handoff = s.handoff ∧ t.feed = s.feed ∧ t.imaging = s.imaging ∧
      t.exit = s.exit ∧ t.drive = s.drive ∧ t.recovery = s.recovery := by
  unfold State.setEntry
  dsimp only
  repeat' split
  all_goals simp

@[simp] theorem State.mapEntries_frame (s : State) (f : Pos → TableEntry → TableEntry) :
    let t := s.mapEntries f; OuterKept s t ∧ TableTimersKept s t ∧ t.link = s.link ∧ t.table.map = s.table.map ∧
      t.roster = s.roster ∧ t.track = s.track ∧ t.handoff = s.handoff ∧ t.feed = s.feed ∧ t.imaging = s.imaging ∧
      t.exit = s.exit ∧ t.drive = s.drive ∧ t.recovery = s.recovery := by
  unfold State.mapEntries
  dsimp only
  repeat' split
  all_goals simp

@[simp] theorem State.pushTx_frame (s : State) (f : TxFrame) :
    let t := s.pushTx f; OuterKept s t ∧ LinkInKept s t ∧ t.link.slot = s.link.slot ∧ t.link.outOfStep = s.link.outOfStep ∧
      t.link.lostSinceHolding = s.link.lostSinceHolding ∧ t.table = s.table ∧ t.roster = s.roster ∧ t.track = s.track ∧
      t.handoff = s.handoff ∧ t.feed = s.feed ∧ t.imaging = s.imaging ∧ t.exit = s.exit ∧ t.drive = s.drive ∧
      t.recovery = s.recovery := by
  unfold State.pushTx
  dsimp only
  repeat' split
  all_goals simp

@[simp] theorem State.queueJam_frame (s : State) (k : JamKind) (zone : Nat) (serial : Option Serial) :
    let t := s.queueJam k zone serial; OuterKept s t ∧ LinkInKept s t ∧ t.table = s.table ∧ t.roster = s.roster ∧
      t.track = s.track ∧ t.handoff = s.handoff ∧ t.feed = s.feed ∧ t.imaging = s.imaging ∧ t.exit = s.exit ∧
      t.drive = s.drive ∧ t.recovery = s.recovery := by
  unfold State.queueJam
  dsimp only
  repeat' split
  all_goals simp

@[simp] theorem State.lose_frame (s : State) :
    let t := s.lose; OuterKept s t ∧ LinkInKept s t ∧ t.table = s.table ∧ t.roster = s.roster ∧ t.track = s.track ∧
      t.handoff = s.handoff ∧ t.feed = s.feed ∧ t.imaging = s.imaging ∧ t.exit = s.exit ∧ t.drive = s.drive ∧
      t.recovery = s.recovery := by
  unfold State.lose
  dsimp only
  repeat' split
  all_goals simp

@[simp] theorem State.queueTagged_frame (s : State) (tag : TxTag) (p : Payload) :
    let t := s.queueTagged tag p; OuterKept s t ∧ LinkInKept s t ∧ t.table = s.table ∧ t.roster = s.roster ∧
      t.track = s.track ∧ t.handoff = s.handoff ∧ t.feed = s.feed ∧ t.imaging = s.imaging ∧ t.exit = s.exit ∧
      t.drive = s.drive ∧ t.recovery = s.recovery := by
  unfold State.queueTagged
  dsimp only
  repeat' split
  all_goals simp

@[simp] theorem State.queueFrame_frame (s : State) (p : Payload) :
    let t := s.queueFrame p; OuterKept s t ∧ LinkInKept s t ∧ t.table = s.table ∧ t.roster = s.roster ∧ t.track = s.track ∧
      t.handoff = s.handoff ∧ t.feed = s.feed ∧ t.imaging = s.imaging ∧ t.exit = s.exit ∧ t.drive = s.drive ∧
      t.recovery = s.recovery := by
  unfold State.queueFrame
  dsimp only
  repeat' split
  all_goals simp

@[simp] theorem State.detect_frame (s : State) (k : JamKind) (zone : Nat) (serial : Option Serial) :
    let t := s.detect k zone serial; OuterKept s t ∧ LinkInKept s t ∧ t.table = s.table ∧ t.roster = s.roster ∧
      t.track = s.track ∧ t.handoff = s.handoff ∧ t.feed = s.feed ∧ t.imaging = s.imaging ∧ t.exit = s.exit ∧
      t.drive = s.drive ∧ t.recovery = s.recovery := by
  unfold State.detect
  dsimp only
  repeat' split
  all_goals simp

@[simp] theorem State.detectDrive_frame (s : State) :
    let t := s.detectDrive; OuterKept s t ∧ LinkInKept s t ∧ SurveyKept s t ∧ VoteKept s t ∧ t.table = s.table ∧
      t.roster = s.roster ∧ t.track = s.track ∧ t.handoff = s.handoff ∧ t.feed = s.feed ∧ t.imaging = s.imaging ∧
      t.exit = s.exit ∧ t.drive = s.drive ∧ t.recovery.path = s.recovery.path ∧ t.recovery.epoch = s.recovery.epoch ∧
      t.recovery.claim = s.recovery.claim ∧ t.recovery.lineHeld = s.recovery.lineHeld ∧
      t.recovery.survey = s.recovery.survey ∧ t.recovery.report = s.recovery.report ∧
      t.recovery.escalated = s.recovery.escalated ∧ t.recovery.doorMark = s.recovery.doorMark ∧
      t.recovery.driveNeed = s.recovery.driveNeed ∧ t.recovery.pendingRevs = s.recovery.pendingRevs ∧
      t.recovery.clearFlag = s.recovery.clearFlag ∧ t.recovery.planOut = s.recovery.planOut ∧
      t.recovery.readyNext = s.recovery.readyNext := by
  unfold State.detectDrive
  dsimp only
  repeat' split
  all_goals simp

@[simp] theorem State.withdrawFrames_frame (s : State) (sel : Payload → Bool) :
    let t := s.withdrawFrames sel; OuterKept s t ∧ LinkInKept s t ∧ t.link.slot = s.link.slot ∧
      t.link.outOfStep = s.link.outOfStep ∧ t.link.lostSinceHolding = s.link.lostSinceHolding ∧ t.table = s.table ∧
      t.roster = s.roster ∧ t.track = s.track ∧ t.handoff = s.handoff ∧ t.feed = s.feed ∧ t.imaging = s.imaging ∧
      t.exit = s.exit ∧ t.drive = s.drive ∧ t.recovery = s.recovery := by
  unfold State.withdrawFrames
  dsimp only
  repeat' split
  all_goals simp

@[simp] theorem State.withdrawRecovery_frame (s : State) :
    let t := s.withdrawRecovery; OuterKept s t ∧ LinkInKept s t ∧ TimersKept s t ∧ SurveyKept s t ∧ VoteKept s t ∧
      t.link.slot = s.link.slot ∧ t.link.outOfStep = s.link.outOfStep ∧ t.link.lostSinceHolding = s.link.lostSinceHolding ∧
      t.table = s.table ∧ t.roster = s.roster ∧ t.track = s.track ∧ t.handoff = s.handoff ∧ t.feed = s.feed ∧
      t.imaging = s.imaging ∧ t.exit = s.exit ∧ t.drive = s.drive ∧ t.recovery.path = s.recovery.path ∧
      t.recovery.epoch = s.recovery.epoch ∧ t.recovery.escalated = s.recovery.escalated ∧
      t.recovery.doorMark = s.recovery.doorMark ∧ t.recovery.driveNeed = s.recovery.driveNeed ∧
      t.recovery.pendingRevs = s.recovery.pendingRevs ∧ t.recovery.clearFlag = s.recovery.clearFlag := by
  unfold State.withdrawRecovery
  dsimp only
  repeat' split
  all_goals simp

@[simp] theorem State.emptyTx_frame (s : State) :
    let t := s.emptyTx; OuterKept s t ∧ LinkInKept s t ∧ TimersKept s t ∧ SurveyKept s t ∧ VoteKept s t ∧
      t.link.outOfStep = s.link.outOfStep ∧ t.link.lostSinceHolding = s.link.lostSinceHolding ∧ t.table = s.table ∧
      t.roster = s.roster ∧ t.track = s.track ∧ t.handoff = s.handoff ∧ t.feed = s.feed ∧ t.imaging = s.imaging ∧
      t.exit = s.exit ∧ t.drive = s.drive ∧ t.recovery.path = s.recovery.path ∧ t.recovery.epoch = s.recovery.epoch ∧
      t.recovery.escalated = s.recovery.escalated ∧ t.recovery.doorMark = s.recovery.doorMark ∧
      t.recovery.driveNeed = s.recovery.driveNeed ∧ t.recovery.pendingRevs = s.recovery.pendingRevs ∧
      t.recovery.clearFlag = s.recovery.clearFlag := by
  unfold State.emptyTx
  dsimp only
  repeat' split
  all_goals simp

@[simp] theorem State.escalate_frame (s : State) :
    let t := s.escalate; OuterKept s t ∧ TimersKept s t ∧ SurveyKept s t ∧ VoteKept s t ∧ t.link = s.link ∧
      t.table = s.table ∧ t.roster = s.roster ∧ t.track = s.track ∧ t.handoff = s.handoff ∧ t.feed = s.feed ∧
      t.imaging = s.imaging ∧ t.exit = s.exit ∧ t.drive = s.drive ∧ t.recovery.path = s.recovery.path ∧
      t.recovery.epoch = s.recovery.epoch ∧ t.recovery.report = s.recovery.report ∧
      t.recovery.doorMark = s.recovery.doorMark ∧ t.recovery.driveNeed = s.recovery.driveNeed ∧
      t.recovery.pendingRevs = s.recovery.pendingRevs ∧ t.recovery.clearFlag = s.recovery.clearFlag ∧
      t.recovery.planOut = s.recovery.planOut ∧ t.recovery.readyNext = s.recovery.readyNext := by
  unfold State.escalate
  dsimp only
  repeat' split
  all_goals simp

/-! ### PathMap -/

@[simp] theorem State.rebuildMap_frame (s : State) :
    let t := s.rebuildMap; OuterKept s t ∧ TableTimersKept s t ∧ t.link = s.link ∧ t.table.entries = s.table.entries ∧
      t.roster = s.roster ∧ t.track = s.track ∧ t.handoff = s.handoff ∧ t.feed = s.feed ∧ t.imaging = s.imaging ∧
      t.exit = s.exit ∧ t.drive = s.drive ∧ t.recovery = s.recovery := by
  unfold State.rebuildMap
  dsimp only
  repeat' split
  all_goals simp

/-! ### Roster -/

@[simp] theorem State.setRecord_frame (s : State) (x : Serial) (f : SheetRecord → SheetRecord) :
    let t := s.setRecord x f; OuterKept s t ∧ t.link = s.link ∧ t.table = s.table ∧ t.roster.phase = s.roster.phase ∧
      t.roster.stage = s.roster.stage ∧ t.roster.lastSerial = s.roster.lastSerial ∧ t.roster.epoch = s.roster.epoch ∧
      t.roster.planInForce = s.roster.planInForce ∧ t.track = s.track ∧ t.handoff = s.handoff ∧ t.feed = s.feed ∧
      t.imaging = s.imaging ∧ t.exit = s.exit ∧ t.drive = s.drive ∧ t.recovery = s.recovery := by
  unfold State.setRecord
  dsimp only
  repeat' split
  all_goals simp

@[simp] theorem State.acceptIntent_frame (s : State) (f : IntentFields) :
    let t := s.acceptIntent f; OuterKept s t ∧ t.link = s.link ∧ t.table = s.table ∧ t.roster.phase = s.roster.phase ∧
      t.roster.stage = s.roster.stage ∧ t.roster.epoch = s.roster.epoch ∧ t.roster.planInForce = s.roster.planInForce ∧
      t.track = s.track ∧ t.handoff = s.handoff ∧ t.feed = s.feed ∧ t.imaging = s.imaging ∧ t.exit = s.exit ∧
      t.drive = s.drive ∧ t.recovery = s.recovery := by
  unfold State.acceptIntent
  dsimp only
  repeat' split
  all_goals simp

@[simp] theorem State.withdrawJob_frame (s : State) (job : Byte) :
    let t := s.withdrawJob job; OuterKept s t ∧ t.link = s.link ∧ t.table = s.table ∧ t.roster.phase = s.roster.phase ∧
      t.roster.stage = s.roster.stage ∧ t.roster.lastSerial = s.roster.lastSerial ∧ t.roster.epoch = s.roster.epoch ∧
      t.roster.planInForce = s.roster.planInForce ∧ t.track = s.track ∧ t.handoff = s.handoff ∧ t.feed = s.feed ∧
      t.imaging = s.imaging ∧ t.exit = s.exit ∧ t.drive = s.drive ∧ t.recovery = s.recovery := by
  unfold State.withdrawJob
  dsimp only
  repeat' split
  all_goals simp

@[simp] theorem State.applyOffer_frame (s : State) (sender dest : Pos) (epoch : Epoch) (serials : List Serial) :
    let t := s.applyOffer sender dest epoch serials; OuterKept s t ∧ t.link = s.link ∧ t.table = s.table ∧
      t.roster.phase = s.roster.phase ∧ t.roster.stage = s.roster.stage ∧ t.roster.lastSerial = s.roster.lastSerial ∧
      t.roster.epoch = s.roster.epoch ∧ t.roster.planInForce = s.roster.planInForce ∧ t.track = s.track ∧
      t.handoff = s.handoff ∧ t.feed = s.feed ∧ t.imaging = s.imaging ∧ t.exit = s.exit ∧ t.drive = s.drive ∧
      t.recovery = s.recovery := by
  unfold State.applyOffer
  dsimp only
  repeat' split
  all_goals simp

@[simp] theorem State.applyAccept_frame (s : State) (sender : Pos) (epoch : Epoch) (serials : List Serial) :
    let t := s.applyAccept sender epoch serials; OuterKept s t ∧ t.link = s.link ∧ t.table = s.table ∧
      t.roster.phase = s.roster.phase ∧ t.roster.stage = s.roster.stage ∧ t.roster.lastSerial = s.roster.lastSerial ∧
      t.roster.epoch = s.roster.epoch ∧ t.roster.planInForce = s.roster.planInForce ∧ t.track = s.track ∧
      t.handoff = s.handoff ∧ t.feed = s.feed ∧ t.imaging = s.imaging ∧ t.exit = s.exit ∧ t.drive = s.drive ∧
      t.recovery = s.recovery := by
  unfold State.applyAccept
  dsimp only
  repeat' split
  all_goals simp

@[simp] theorem State.applyDefer_frame (s : State) (sender : Pos) (epoch : Epoch) (serials : List Serial) (reason : DeferReason) :
    let t := s.applyDefer sender epoch serials reason; OuterKept s t ∧ t.link = s.link ∧ t.table = s.table ∧
      t.roster.phase = s.roster.phase ∧ t.roster.stage = s.roster.stage ∧ t.roster.lastSerial = s.roster.lastSerial ∧
      t.roster.epoch = s.roster.epoch ∧ t.roster.planInForce = s.roster.planInForce ∧ t.track = s.track ∧
      t.handoff = s.handoff ∧ t.feed = s.feed ∧ t.imaging = s.imaging ∧ t.exit = s.exit ∧ t.drive = s.drive ∧
      t.recovery = s.recovery := by
  unfold State.applyDefer
  dsimp only
  repeat' split
  all_goals simp

@[simp] theorem State.removeRecord_frame (s : State) (x : Serial) :
    let t := s.removeRecord x; OuterKept s t ∧ t.link = s.link ∧ t.table = s.table ∧ t.roster.phase = s.roster.phase ∧
      t.roster.stage = s.roster.stage ∧ t.roster.lastSerial = s.roster.lastSerial ∧ t.roster.epoch = s.roster.epoch ∧
      t.roster.planInForce = s.roster.planInForce ∧ t.track = s.track ∧ t.handoff = s.handoff ∧ t.feed = s.feed ∧
      t.imaging = s.imaging ∧ t.exit = s.exit ∧ t.drive = s.drive ∧ t.recovery = s.recovery := by
  unfold State.removeRecord
  dsimp only
  repeat' split
  all_goals simp

/-! ### Tracker -/

@[simp] theorem State.mapQueue_frame (s : State) (f : Entry → Entry) :
    let t := s.mapQueue f; OuterKept s t ∧ t.link = s.link ∧ t.table = s.table ∧ t.roster = s.roster ∧
      t.track.expected = s.track.expected ∧ t.track.strays = s.track.strays ∧ t.track.pickCandidate = s.track.pickCandidate ∧
      t.track.pickTimer = s.track.pickTimer ∧ t.track.attributing = s.track.attributing ∧ t.handoff = s.handoff ∧
      t.feed = s.feed ∧ t.imaging = s.imaging ∧ t.exit = s.exit ∧ t.drive = s.drive ∧ t.recovery = s.recovery := by
  unfold State.mapQueue
  dsimp only
  repeat' split
  all_goals simp

@[simp] theorem State.gateFollow_frame (s : State) :
    let t := s.gateFollow; OuterKept s t ∧ MotorKept s t ∧ t.link = s.link ∧ t.table = s.table ∧ t.roster = s.roster ∧
      t.track = s.track ∧ t.handoff = s.handoff ∧ t.feed = s.feed ∧ t.imaging = s.imaging ∧ t.exit = s.exit ∧
      t.drive.gateHeld = s.drive.gateHeld ∧ t.drive.div1 = s.drive.div1 ∧ t.drive.div2 = s.drive.div2 ∧
      t.recovery = s.recovery := by
  unfold State.gateFollow
  dsimp only
  repeat' split
  all_goals simp

@[simp] theorem State.endHold_frame (before s : State) :
    let t := State.endHold before s; OuterKept s t ∧ t.link = s.link ∧ t.table = s.table ∧ t.roster = s.roster ∧
      t.track.expected = s.track.expected ∧ t.track.strays = s.track.strays ∧ t.track.pickCandidate = s.track.pickCandidate ∧
      t.track.pickTimer = s.track.pickTimer ∧ t.track.attributing = s.track.attributing ∧ t.handoff = s.handoff ∧
      t.feed = s.feed ∧ t.imaging = s.imaging ∧ t.exit = s.exit ∧ t.drive = s.drive ∧ t.recovery = s.recovery := by
  unfold State.endHold
  dsimp only
  repeat' split
  all_goals simp

@[simp] theorem State.endPick_frame (s : State) :
    let t := s.endPick; OuterKept s t ∧ FeedLinesKept s t ∧ t.link = s.link ∧ t.table = s.table ∧ t.roster = s.roster ∧
      t.track.queue = s.track.queue ∧ t.track.expected = s.track.expected ∧ t.track.strays = s.track.strays ∧
      t.track.pickCandidate = s.track.pickCandidate ∧ t.track.attributing = s.track.attributing ∧ t.handoff = s.handoff ∧
      t.feed.retries = s.feed.retries ∧ t.imaging = s.imaging ∧ t.exit = s.exit ∧ t.drive = s.drive ∧ t.recovery = s.recovery := by
  unfold State.endPick
  dsimp only
  repeat' split
  all_goals simp

theorem State.coverFirst_frame (s : State) (t : State) (e : Entry) (h : s.coverFirst = some (t, e)) :
    OuterKept s t ∧ FeedLinesKept s t ∧ t.link = s.link ∧ t.table = s.table ∧ t.roster = s.roster ∧
      t.track.strays = s.track.strays ∧ t.track.attributing = s.track.attributing ∧ t.handoff = s.handoff ∧
      t.feed.retries = s.feed.retries ∧ t.imaging = s.imaging ∧ t.exit = s.exit ∧ t.drive = s.drive ∧ t.recovery = s.recovery := by
  unfold State.coverFirst at h
  repeat' split at h
  all_goals simp at h
  all_goals (obtain ⟨rfl, -⟩ := h; simp)

@[simp] theorem State.setStray_frame (s : State) (k : Nat) :
    let t := s.setStray k; OuterKept s t ∧ t.link = s.link ∧ t.table = s.table ∧ t.roster = s.roster ∧
      t.track.queue = s.track.queue ∧ t.track.expected = s.track.expected ∧ t.track.pickCandidate = s.track.pickCandidate ∧
      t.track.pickTimer = s.track.pickTimer ∧ t.track.attributing = s.track.attributing ∧ t.handoff = s.handoff ∧
      t.feed = s.feed ∧ t.imaging = s.imaging ∧ t.exit = s.exit ∧ t.drive = s.drive ∧ t.recovery = s.recovery := by
  unfold State.setStray
  dsimp only
  repeat' split
  all_goals simp

@[simp] theorem State.strayCover_frame (s : State) (k : Nat) :
    let t := s.strayCover k; OuterKept s t ∧ LinkInKept s t ∧ t.table = s.table ∧ t.roster = s.roster ∧
      t.track.queue = s.track.queue ∧ t.track.expected = s.track.expected ∧ t.track.pickCandidate = s.track.pickCandidate ∧
      t.track.pickTimer = s.track.pickTimer ∧ t.track.attributing = s.track.attributing ∧ t.handoff = s.handoff ∧
      t.feed = s.feed ∧ t.imaging = s.imaging ∧ t.exit = s.exit ∧ t.drive = s.drive ∧ t.recovery = s.recovery := by
  unfold State.strayCover
  dsimp only
  repeat' split
  all_goals simp

@[simp] theorem State.uncoverTrack_frame (s : State) (k : Nat) (e : Entry) :
    let t := s.uncoverTrack k e; OuterKept s t ∧ t.link = s.link ∧ t.table = s.table ∧ t.roster = s.roster ∧
      t.track.expected = s.track.expected ∧ t.track.strays = s.track.strays ∧ t.track.pickCandidate = s.track.pickCandidate ∧
      t.track.pickTimer = s.track.pickTimer ∧ t.track.attributing = s.track.attributing ∧ t.handoff = s.handoff ∧
      t.feed = s.feed ∧ t.imaging = s.imaging ∧ t.exit = s.exit ∧ t.drive = s.drive ∧ t.recovery = s.recovery := by
  unfold State.uncoverTrack
  dsimp only
  repeat' split
  all_goals simp

@[simp] theorem State.parkAll_frame (s : State) :
    let t := s.parkAll; OuterKept s t ∧ t.link = s.link ∧ t.table = s.table ∧ t.roster = s.roster ∧
      t.track.expected = s.track.expected ∧ t.track.strays = s.track.strays ∧ t.track.pickCandidate = s.track.pickCandidate ∧
      t.track.pickTimer = s.track.pickTimer ∧ t.track.attributing = s.track.attributing ∧ t.handoff = s.handoff ∧
      t.feed = s.feed ∧ t.imaging = s.imaging ∧ t.exit = s.exit ∧ t.drive = s.drive ∧ t.recovery = s.recovery := by
  unfold State.parkAll
  dsimp only
  repeat' split
  all_goals simp

@[simp] theorem State.strayTest_frame (s : State) :
    let t := s.strayTest; OuterKept s t ∧ LinkInKept s t ∧ t.table = s.table ∧ t.roster = s.roster ∧
      t.track.queue = s.track.queue ∧ t.track.expected = s.track.expected ∧ t.track.pickCandidate = s.track.pickCandidate ∧
      t.track.pickTimer = s.track.pickTimer ∧ t.track.attributing = s.track.attributing ∧ t.handoff = s.handoff ∧
      t.feed = s.feed ∧ t.imaging = s.imaging ∧ t.exit = s.exit ∧ t.drive = s.drive ∧ t.recovery = s.recovery := by
  unfold State.strayTest
  dsimp only
  try split
  all_goals try (generalize List.filter _ _ = xs; induction xs generalizing s)
  all_goals simp_all

/-! ### Exit -/

@[simp] theorem State.setBin_frame (s : State) (n : Nat) (f : Bin → Bin) :
    let t := s.setBin n f; OuterKept s t ∧ t.link = s.link ∧ t.table = s.table ∧ t.roster = s.roster ∧ t.track = s.track ∧
      t.handoff = s.handoff ∧ t.feed = s.feed ∧ t.imaging = s.imaging ∧ t.exit.purgeCount = s.exit.purgeCount ∧
      t.exit.firstPempty = s.exit.firstPempty ∧ t.drive = s.drive ∧ t.recovery = s.recovery := by
  unfold State.setBin
  dsimp only
  repeat' split
  all_goals simp

@[simp] theorem State.setDiverter_frame (s : State) (d : Bool × Bool) :
    let t := s.setDiverter d; OuterKept s t ∧ MotorKept s t ∧ GateKept s t ∧ t.link = s.link ∧ t.table = s.table ∧
      t.roster = s.roster ∧ t.track = s.track ∧ t.handoff = s.handoff ∧ t.feed = s.feed ∧ t.imaging = s.imaging ∧
      t.exit = s.exit ∧ t.recovery = s.recovery := by
  unfold State.setDiverter
  dsimp only
  repeat' split
  all_goals simp

@[simp] theorem State.divertForSheet_frame (s : State) :
    let t := s.divertForSheet; OuterKept s t ∧ MotorKept s t ∧ GateKept s t ∧ t.link = s.link ∧ t.table = s.table ∧
      t.roster = s.roster ∧ t.track = s.track ∧ t.handoff = s.handoff ∧ t.feed = s.feed ∧ t.imaging = s.imaging ∧
      t.exit = s.exit ∧ t.recovery = s.recovery := by
  unfold State.divertForSheet
  dsimp only
  repeat' split
  all_goals simp

@[simp] theorem State.startFinishing_frame (s : State) (n : Nat) :
    let t := s.startFinishing n; OuterKept s t ∧ t.link = s.link ∧ t.table = s.table ∧ t.roster = s.roster ∧
      t.track = s.track ∧ t.handoff = s.handoff ∧ t.feed = s.feed ∧ t.imaging = s.imaging ∧
      t.exit.purgeCount = s.exit.purgeCount ∧ t.exit.firstPempty = s.exit.firstPempty ∧ t.drive = s.drive ∧
      t.recovery = s.recovery := by
  unfold State.startFinishing
  dsimp only
  repeat' split
  all_goals simp

@[simp] theorem State.restartFinishing_frame (s : State) :
    let t := s.restartFinishing; OuterKept s t ∧ t.link = s.link ∧ t.table = s.table ∧ t.roster = s.roster ∧
      t.track = s.track ∧ t.handoff = s.handoff ∧ t.feed = s.feed ∧ t.imaging = s.imaging ∧
      t.exit.purgeCount = s.exit.purgeCount ∧ t.exit.firstPempty = s.exit.firstPempty ∧ t.drive = s.drive ∧
      t.recovery = s.recovery := by
  unfold State.restartFinishing
  dsimp only
  try split
  all_goals try (generalize List.filter _ _ = xs; induction xs generalizing s)
  all_goals simp_all

@[simp] theorem State.addPurged_frame (s : State) (n : Nat) :
    let t := s.addPurged n; OuterKept s t ∧ t.link = s.link ∧ t.table = s.table ∧ t.roster = s.roster ∧ t.track = s.track ∧
      t.handoff = s.handoff ∧ t.feed = s.feed ∧ t.imaging = s.imaging ∧ t.exit.bins = s.exit.bins ∧
      t.exit.firstPempty = s.exit.firstPempty ∧ t.drive = s.drive ∧ t.recovery = s.recovery := by
  unfold State.addPurged
  dsimp only
  repeat' split
  all_goals simp

@[simp] theorem State.openNewSet_frame (s : State) (n : Nat) (r : SheetRecord) :
    let t := s.openNewSet n r; OuterKept s t ∧ t.link = s.link ∧ t.table = s.table ∧ t.roster = s.roster ∧
      t.track = s.track ∧ t.handoff = s.handoff ∧ t.feed = s.feed ∧ t.imaging = s.imaging ∧
      t.exit.purgeCount = s.exit.purgeCount ∧ t.exit.firstPempty = s.exit.firstPempty ∧ t.drive = s.drive ∧
      t.recovery = s.recovery := by
  unfold State.openNewSet
  dsimp only
  repeat' split
  all_goals simp

@[simp] theorem State.listSheet_frame (s : State) (n : Nat) (r : SheetRecord) :
    let t := s.listSheet n r; OuterKept s t ∧ LinkInKept s t ∧ t.table = s.table ∧ t.roster = s.roster ∧ t.track = s.track ∧
      t.handoff = s.handoff ∧ t.feed = s.feed ∧ t.imaging = s.imaging ∧ t.exit.purgeCount = s.exit.purgeCount ∧
      t.exit.firstPempty = s.exit.firstPempty ∧ t.drive = s.drive ∧ t.recovery = s.recovery := by
  unfold State.listSheet
  dsimp only
  repeat' split
  all_goals simp

@[simp] theorem State.deliver_frame (s : State) (x : Serial) :
    let t := s.deliver x; OuterKept s t ∧ LinkInKept s t ∧ MotorKept s t ∧ GateKept s t ∧ t.table = s.table ∧
      t.roster = s.roster ∧ t.track = s.track ∧ t.handoff = s.handoff ∧ t.feed = s.feed ∧ t.imaging = s.imaging ∧
      t.exit.firstPempty = s.exit.firstPempty ∧ t.recovery = s.recovery := by
  unfold State.deliver
  dsimp only
  repeat' split
  all_goals simp

@[simp] theorem State.closeSet_frame (s : State) (n : Nat) (outcome : SetOutcome) :
    let t := s.closeSet n outcome; OuterKept s t ∧ LinkInKept s t ∧ t.table = s.table ∧ t.roster = s.roster ∧
      t.track = s.track ∧ t.handoff = s.handoff ∧ t.feed = s.feed ∧ t.imaging = s.imaging ∧
      t.exit.purgeCount = s.exit.purgeCount ∧ t.exit.firstPempty = s.exit.firstPempty ∧ t.drive = s.drive ∧
      t.recovery = s.recovery := by
  unfold State.closeSet
  dsimp only
  repeat' split
  all_goals simp

@[simp] theorem State.ejected_frame (s : State) (n : Nat) :
    let t := s.ejected n; OuterKept s t ∧ LinkInKept s t ∧ t.table = s.table ∧ t.roster = s.roster ∧ t.track = s.track ∧
      t.handoff = s.handoff ∧ t.feed = s.feed ∧ t.imaging = s.imaging ∧ t.exit.firstPempty = s.exit.firstPempty ∧
      t.drive = s.drive ∧ t.recovery = s.recovery := by
  unfold State.ejected
  dsimp only
  repeat' split
  all_goals simp

@[simp] theorem State.ejectTest_frame (s : State) :
    let t := s.ejectTest; OuterKept s t ∧ LinkInKept s t ∧ MotorKept s t ∧ GateKept s t ∧ t.table = s.table ∧
      t.roster = s.roster ∧ t.track = s.track ∧ t.handoff = s.handoff ∧ t.feed = s.feed ∧ t.imaging = s.imaging ∧
      t.exit.firstPempty = s.exit.firstPempty ∧ t.recovery = s.recovery := by
  unfold State.ejectTest
  dsimp only
  repeat' split
  all_goals simp

@[simp] theorem State.stopBins_frame (s : State) :
    let t := s.stopBins; OuterKept s t ∧ t.link = s.link ∧ t.table = s.table ∧ t.roster = s.roster ∧ t.track = s.track ∧
      t.handoff = s.handoff ∧ t.feed = s.feed ∧ t.imaging = s.imaging ∧ t.exit.purgeCount = s.exit.purgeCount ∧
      t.exit.firstPempty = s.exit.firstPempty ∧ t.drive = s.drive ∧ t.recovery = s.recovery := by
  unfold State.stopBins
  dsimp only
  repeat' split
  all_goals simp

@[simp] theorem State.closeStaySets_frame (s : State) :
    let t := s.closeStaySets; OuterKept s t ∧ LinkInKept s t ∧ t.table = s.table ∧ t.roster = s.roster ∧ t.track = s.track ∧
      t.handoff = s.handoff ∧ t.feed = s.feed ∧ t.imaging = s.imaging ∧ t.exit.purgeCount = s.exit.purgeCount ∧
      t.exit.firstPempty = s.exit.firstPempty ∧ t.drive = s.drive ∧ t.recovery = s.recovery := by
  unfold State.closeStaySets
  dsimp only
  try split
  all_goals try (generalize List.filter _ _ = xs; induction xs generalizing s)
  all_goals simp_all

@[simp] theorem State.trayTaken_frame (s : State) (n : Nat) :
    let t := s.trayTaken n; OuterKept s t ∧ LinkInKept s t ∧ t.table = s.table ∧ t.roster = s.roster ∧ t.track = s.track ∧
      t.handoff = s.handoff ∧ t.feed = s.feed ∧ t.imaging = s.imaging ∧ t.exit.purgeCount = s.exit.purgeCount ∧
      t.exit.firstPempty = s.exit.firstPempty ∧ t.drive = s.drive ∧ t.recovery = s.recovery := by
  unfold State.trayTaken
  dsimp only
  repeat' split
  all_goals simp

/-! ### Handoff -/

@[simp] theorem State.setOffer_frame (s : State) (dest : Pos) (f : OfferRecord → OfferRecord) :
    let t := s.setOffer dest f; OuterKept s t ∧ t.link = s.link ∧ t.table = s.table ∧ t.roster = s.roster ∧
      t.track = s.track ∧ t.handoff.deferred = s.handoff.deferred ∧ t.feed = s.feed ∧ t.imaging = s.imaging ∧
      t.exit = s.exit ∧ t.drive = s.drive ∧ t.recovery = s.recovery := by
  unfold State.setOffer
  dsimp only
  repeat' split
  all_goals simp

@[simp] theorem State.resetFreeCounts_frame (s : State) :
    let t := s.resetFreeCounts; OuterKept s t ∧ t.link = s.link ∧ t.table = s.table ∧ t.roster = s.roster ∧
      t.track = s.track ∧ t.handoff.deferred = s.handoff.deferred ∧ t.feed = s.feed ∧ t.imaging = s.imaging ∧
      t.exit = s.exit ∧ t.drive = s.drive ∧ t.recovery = s.recovery := by
  unfold State.resetFreeCounts
  dsimp only
  repeat' split
  all_goals simp

@[simp] theorem State.makeOffer_frame (s : State) (o : OfferRecord) (serials : List Serial) :
    let t := s.makeOffer o serials; OuterKept s t ∧ LinkInKept s t ∧ MotorKept s t ∧ GateKept s t ∧ t.table = s.table ∧
      t.roster = s.roster ∧ t.track.expected = s.track.expected ∧ t.track.strays = s.track.strays ∧
      t.track.pickCandidate = s.track.pickCandidate ∧ t.track.pickTimer = s.track.pickTimer ∧
      t.track.attributing = s.track.attributing ∧ t.handoff.deferred = s.handoff.deferred ∧ t.feed = s.feed ∧
      t.imaging = s.imaging ∧ t.exit = s.exit ∧ t.recovery = s.recovery := by
  unfold State.makeOffer
  dsimp only
  repeat' split
  all_goals simp

@[simp] theorem State.offerTest_frame (s : State) :
    let t := s.offerTest; OuterKept s t ∧ LinkInKept s t ∧ MotorKept s t ∧ GateKept s t ∧ t.table = s.table ∧
      t.roster = s.roster ∧ t.track.expected = s.track.expected ∧ t.track.strays = s.track.strays ∧
      t.track.pickCandidate = s.track.pickCandidate ∧ t.track.pickTimer = s.track.pickTimer ∧
      t.track.attributing = s.track.attributing ∧ t.handoff.deferred = s.handoff.deferred ∧ t.feed = s.feed ∧
      t.imaging = s.imaging ∧ t.exit = s.exit ∧ t.recovery = s.recovery := by
  unfold State.offerTest
  dsimp only
  repeat' split
  all_goals simp

@[simp] theorem State.voidHandoffs_frame (s : State) :
    let t := s.voidHandoffs; OuterKept s t ∧ t.link = s.link ∧ t.table = s.table ∧ t.roster = s.roster ∧
      t.track.expected = s.track.expected ∧ t.track.strays = s.track.strays ∧ t.track.pickCandidate = s.track.pickCandidate ∧
      t.track.pickTimer = s.track.pickTimer ∧ t.track.attributing = s.track.attributing ∧ t.feed = s.feed ∧
      t.imaging = s.imaging ∧ t.exit = s.exit ∧ t.drive = s.drive ∧ t.recovery = s.recovery := by
  unfold State.voidHandoffs
  dsimp only
  repeat' split
  all_goals simp

@[simp] theorem State.declareFree_frame (s : State) (sender : Pos) (free : Nat) :
    let t := s.declareFree sender free; OuterKept s t ∧ t.link = s.link ∧ t.table = s.table ∧ t.roster = s.roster ∧
      t.track = s.track ∧ t.handoff.deferred = s.handoff.deferred ∧ t.feed = s.feed ∧ t.imaging = s.imaging ∧
      t.exit = s.exit ∧ t.drive = s.drive ∧ t.recovery = s.recovery := by
  unfold State.declareFree
  dsimp only
  repeat' split
  all_goals simp

@[simp] theorem State.setOfferStates_frame (s : State) (serials : List Serial) (st : OfferState) :
    let t := s.setOfferStates serials st; OuterKept s t ∧ t.link = s.link ∧ t.table = s.table ∧ t.roster = s.roster ∧
      t.track.expected = s.track.expected ∧ t.track.strays = s.track.strays ∧ t.track.pickCandidate = s.track.pickCandidate ∧
      t.track.pickTimer = s.track.pickTimer ∧ t.track.attributing = s.track.attributing ∧ t.handoff = s.handoff ∧
      t.feed = s.feed ∧ t.imaging = s.imaging ∧ t.exit = s.exit ∧ t.drive = s.drive ∧ t.recovery = s.recovery := by
  unfold State.setOfferStates
  dsimp only
  repeat' split
  all_goals simp

@[simp] theorem State.offerAccepted_frame (s : State) (dest : Pos) (serials : List Serial) :
    let t := s.offerAccepted dest serials; OuterKept s t ∧ t.link = s.link ∧ t.table = s.table ∧ t.roster = s.roster ∧
      t.track.expected = s.track.expected ∧ t.track.strays = s.track.strays ∧ t.track.pickCandidate = s.track.pickCandidate ∧
      t.track.pickTimer = s.track.pickTimer ∧ t.track.attributing = s.track.attributing ∧
      t.handoff.deferred = s.handoff.deferred ∧ t.feed = s.feed ∧ t.imaging = s.imaging ∧ t.exit = s.exit ∧
      t.drive = s.drive ∧ t.recovery = s.recovery := by
  unfold State.offerAccepted
  dsimp only
  repeat' split
  all_goals simp

@[simp] theorem State.offerDeferred_frame (s : State) (dest : Pos) (serials : List Serial) (reason : DeferReason) (free : Nat) :
    let t := s.offerDeferred dest serials reason free; OuterKept s t ∧ t.link = s.link ∧ t.table = s.table ∧
      t.roster = s.roster ∧ t.track.expected = s.track.expected ∧ t.track.strays = s.track.strays ∧
      t.track.pickCandidate = s.track.pickCandidate ∧ t.track.pickTimer = s.track.pickTimer ∧
      t.track.attributing = s.track.attributing ∧ t.handoff.deferred = s.handoff.deferred ∧ t.feed = s.feed ∧
      t.imaging = s.imaging ∧ t.exit = s.exit ∧ t.drive = s.drive ∧ t.recovery = s.recovery := by
  unfold State.offerDeferred
  dsimp only
  repeat' split
  all_goals simp

@[simp] theorem State.acceptOffer_frame (s : State) (d : DeferredOffer) :
    let t := s.acceptOffer d; OuterKept s t ∧ LinkInKept s t ∧ MotorKept s t ∧ GateKept s t ∧ t.table = s.table ∧
      t.roster = s.roster ∧ t.track.queue = s.track.queue ∧ t.track.strays = s.track.strays ∧
      t.track.pickCandidate = s.track.pickCandidate ∧ t.track.pickTimer = s.track.pickTimer ∧
      t.track.attributing = s.track.attributing ∧ t.handoff = s.handoff ∧ t.feed = s.feed ∧ t.imaging = s.imaging ∧
      t.exit = s.exit ∧ t.recovery = s.recovery := by
  unfold State.acceptOffer
  dsimp only
  repeat' split
  all_goals simp

@[simp] theorem State.retest_frame (s : State) (d : DeferredOffer) :
    let t := (s.retest d).1; OuterKept s t ∧ LinkInKept s t ∧ MotorKept s t ∧ GateKept s t ∧ t.table = s.table ∧
      t.roster = s.roster ∧ t.track.queue = s.track.queue ∧ t.track.strays = s.track.strays ∧
      t.track.pickCandidate = s.track.pickCandidate ∧ t.track.pickTimer = s.track.pickTimer ∧
      t.track.attributing = s.track.attributing ∧ t.handoff = s.handoff ∧ t.feed = s.feed ∧ t.imaging = s.imaging ∧
      t.exit = s.exit ∧ t.recovery = s.recovery := by
  unfold State.retest
  dsimp only
  repeat' split
  all_goals simp

@[simp] theorem State.retestAll_frame (s : State) (xs : List DeferredOffer) :
    let t := (s.retestAll xs).1; OuterKept s t ∧ LinkInKept s t ∧ MotorKept s t ∧ GateKept s t ∧ t.table = s.table ∧
      t.roster = s.roster ∧ t.track.queue = s.track.queue ∧ t.track.strays = s.track.strays ∧
      t.track.pickCandidate = s.track.pickCandidate ∧ t.track.pickTimer = s.track.pickTimer ∧
      t.track.attributing = s.track.attributing ∧ t.handoff = s.handoff ∧ t.feed = s.feed ∧ t.imaging = s.imaging ∧
      t.exit = s.exit ∧ t.recovery = s.recovery := by
  induction xs generalizing s with
  | nil => simp [State.retestAll]
  | cons x xs ih =>
    unfold State.retestAll
    dsimp only
    repeat' split
    all_goals simp [*]

@[simp] theorem State.reevaluate_frame (s : State) :
    let t := s.reevaluate; OuterKept s t ∧ LinkInKept s t ∧ MotorKept s t ∧ GateKept s t ∧ t.table = s.table ∧
      t.roster = s.roster ∧ t.track.queue = s.track.queue ∧ t.track.strays = s.track.strays ∧
      t.track.pickCandidate = s.track.pickCandidate ∧ t.track.pickTimer = s.track.pickTimer ∧
      t.track.attributing = s.track.attributing ∧ t.handoff.offers = s.handoff.offers ∧ t.feed = s.feed ∧
      t.imaging = s.imaging ∧ t.exit = s.exit ∧ t.recovery = s.recovery := by
  unfold State.reevaluate
  dsimp only
  repeat' split
  all_goals simp

@[simp] theorem State.ejectStart_frame (s : State) :
    let t := s.ejectStart; OuterKept s t ∧ LinkInKept s t ∧ MotorKept s t ∧ GateKept s t ∧ t.table = s.table ∧
      t.roster = s.roster ∧ t.track.queue = s.track.queue ∧ t.track.strays = s.track.strays ∧
      t.track.pickCandidate = s.track.pickCandidate ∧ t.track.pickTimer = s.track.pickTimer ∧
      t.track.attributing = s.track.attributing ∧ t.handoff.offers = s.handoff.offers ∧ t.feed = s.feed ∧
      t.imaging = s.imaging ∧ t.exit.firstPempty = s.exit.firstPempty ∧ t.recovery = s.recovery := by
  unfold State.ejectStart
  dsimp only
  repeat' split
  all_goals simp

@[simp] theorem State.answerOffer_frame (s : State) (d : DeferredOffer) :
    let t := s.answerOffer d; OuterKept s t ∧ LinkInKept s t ∧ MotorKept s t ∧ GateKept s t ∧ t.table = s.table ∧
      t.roster = s.roster ∧ t.track.queue = s.track.queue ∧ t.track.strays = s.track.strays ∧
      t.track.pickCandidate = s.track.pickCandidate ∧ t.track.pickTimer = s.track.pickTimer ∧
      t.track.attributing = s.track.attributing ∧ t.handoff.offers = s.handoff.offers ∧ t.feed = s.feed ∧
      t.imaging = s.imaging ∧ t.exit = s.exit ∧ t.recovery = s.recovery := by
  unfold State.answerOffer
  dsimp only
  repeat' split
  all_goals simp

/-! ### Feed -/

@[simp] theorem State.pickTest_frame (s : State) :
    let t := s.pickTest; OuterKept s t ∧ FeedLinesKept s t ∧ t.link = s.link ∧ t.table = s.table ∧ t.roster = s.roster ∧
      t.track.queue = s.track.queue ∧ t.track.expected = s.track.expected ∧ t.track.strays = s.track.strays ∧
      t.track.attributing = s.track.attributing ∧ t.handoff = s.handoff ∧ t.imaging = s.imaging ∧ t.exit = s.exit ∧
      t.drive = s.drive ∧ t.recovery = s.recovery := by
  unfold State.pickTest
  dsimp only
  repeat' split
  all_goals simp

@[simp] theorem State.demandAtEntry_frame (s : State) :
    let t := s.demandAtEntry; OuterKept s t ∧ LinkInKept s t ∧ t.table = s.table ∧ t.roster = s.roster ∧ t.track = s.track ∧
      t.handoff = s.handoff ∧ t.feed.pick = s.feed.pick ∧ t.feed.retries = s.feed.retries ∧ t.feed.tray = s.feed.tray ∧
      t.feed.pickOut = s.feed.pickOut ∧ t.imaging = s.imaging ∧ t.exit = s.exit ∧ t.drive = s.drive ∧ t.recovery = s.recovery := by
  unfold State.demandAtEntry
  dsimp only
  repeat' split
  all_goals simp

@[simp] theorem State.demandCrossing_frame (s : State) :
    let t := s.demandCrossing; OuterKept s t ∧ LinkInKept s t ∧ t.table = s.table ∧ t.roster = s.roster ∧ t.track = s.track ∧
      t.handoff = s.handoff ∧ t.feed.pick = s.feed.pick ∧ t.feed.retries = s.feed.retries ∧ t.feed.tray = s.feed.tray ∧
      t.feed.pickOut = s.feed.pickOut ∧ t.imaging = s.imaging ∧ t.exit = s.exit ∧ t.drive = s.drive ∧ t.recovery = s.recovery := by
  unfold State.demandCrossing
  dsimp only
  repeat' split
  all_goals simp

@[simp] theorem State.reportPicked_frame (s : State) :
    let t := s.reportPicked; OuterKept s t ∧ LinkInKept s t ∧ t.table = s.table ∧ t.roster = s.roster ∧ t.track = s.track ∧
      t.handoff = s.handoff ∧ t.feed = s.feed ∧ t.imaging = s.imaging ∧ t.exit = s.exit ∧ t.drive = s.drive ∧
      t.recovery = s.recovery := by
  unfold State.reportPicked
  dsimp only
  try split
  all_goals try (generalize List.filter _ _ = xs; induction xs generalizing s)
  all_goals simp_all

@[simp] theorem State.markPass_frame (s : State) (x : Serial) :
    let t := s.markPass x; OuterKept s t ∧ LinkInKept s t ∧ t.table = s.table ∧ t.roster = s.roster ∧ t.track = s.track ∧
      t.handoff = s.handoff ∧ t.feed = s.feed ∧ t.exit = s.exit ∧ t.drive = s.drive ∧ t.recovery = s.recovery := by
  unfold State.markPass
  dsimp only
  repeat' split
  all_goals simp

@[simp] theorem State.imageCover_frame (s : State) (k : Nat) (x : Serial) :
    let t := s.imageCover k x; OuterKept s t ∧ LinkInKept s t ∧ t.table = s.table ∧ t.roster = s.roster ∧ t.track = s.track ∧
      t.handoff = s.handoff ∧ t.feed = s.feed ∧ t.exit = s.exit ∧ t.drive = s.drive ∧ t.recovery = s.recovery := by
  unfold State.imageCover
  dsimp only
  repeat' split
  all_goals simp

/-! ### Survey -/

@[simp] theorem State.sendReport_frame (s : State) (xs : List Payload) :
    let t := s.sendReport xs; OuterKept s t ∧ LinkInKept s t ∧ TimersKept s t ∧ SurveyKept s t ∧ VoteKept s t ∧
      t.table = s.table ∧ t.roster = s.roster ∧ t.track = s.track ∧ t.handoff = s.handoff ∧ t.feed = s.feed ∧
      t.imaging = s.imaging ∧ t.exit = s.exit ∧ t.drive = s.drive ∧ t.recovery.path = s.recovery.path ∧
      t.recovery.epoch = s.recovery.epoch ∧ t.recovery.escalated = s.recovery.escalated ∧
      t.recovery.doorMark = s.recovery.doorMark ∧ t.recovery.driveNeed = s.recovery.driveNeed ∧
      t.recovery.pendingRevs = s.recovery.pendingRevs ∧ t.recovery.clearFlag = s.recovery.clearFlag ∧
      t.recovery.planOut = s.recovery.planOut ∧ t.recovery.readyNext = s.recovery.readyNext := by
  induction xs generalizing s with
  | nil => simp [State.sendReport]
  | cons x xs ih =>
    unfold State.sendReport
    dsimp only
    repeat' split
    all_goals simp [*]

@[simp] theorem State.enterSurvey_frame (s : State) :
    let t := s.enterSurvey; OuterKept s t ∧ LinkInKept s t ∧ SurveyKept s t ∧ VoteKept s t ∧ t.table = s.table ∧
      t.roster = s.roster ∧ t.track = s.track ∧ t.handoff = s.handoff ∧ t.feed = s.feed ∧ t.imaging = s.imaging ∧
      t.exit = s.exit ∧ t.drive = s.drive ∧ t.recovery.epoch = s.recovery.epoch ∧ t.recovery.driveJam = s.recovery.driveJam ∧
      t.recovery.escalated = s.recovery.escalated ∧ t.recovery.doorMark = s.recovery.doorMark ∧
      t.recovery.driveNeed = s.recovery.driveNeed ∧ t.recovery.pendingRevs = s.recovery.pendingRevs ∧
      t.recovery.clearFlag = s.recovery.clearFlag ∧ t.recovery.planOut = s.recovery.planOut ∧
      t.recovery.readyNext = s.recovery.readyNext := by
  unfold State.enterSurvey
  dsimp only
  repeat' split
  all_goals simp

@[simp] theorem State.openSurvey_frame (s : State) :
    let t := s.openSurvey; OuterKept s t ∧ LinkInKept s t ∧ SurveyKept s t ∧ VoteKept s t ∧ t.table = s.table ∧
      t.roster = s.roster ∧ t.track.strays = s.track.strays ∧ t.track.pickTimer = s.track.pickTimer ∧
      t.track.attributing = s.track.attributing ∧ t.handoff = s.handoff ∧ t.feed = s.feed ∧ t.imaging = s.imaging ∧
      t.exit = s.exit ∧ t.drive = s.drive ∧ t.recovery.epoch = s.recovery.epoch ∧ t.recovery.driveJam = s.recovery.driveJam ∧
      t.recovery.escalated = s.recovery.escalated ∧ t.recovery.doorMark = s.recovery.doorMark ∧
      t.recovery.driveNeed = s.recovery.driveNeed ∧ t.recovery.pendingRevs = s.recovery.pendingRevs ∧
      t.recovery.clearFlag = s.recovery.clearFlag ∧ t.recovery.planOut = s.recovery.planOut ∧
      t.recovery.readyNext = s.recovery.readyNext := by
  unfold State.openSurvey
  dsimp only
  repeat' split
  all_goals simp

@[simp] theorem State.surveyTest_frame (s : State) :
    let t := s.surveyTest; OuterKept s t ∧ LinkInKept s t ∧ SurveyKept s t ∧ VoteKept s t ∧ t.table = s.table ∧
      t.roster = s.roster ∧ t.track.strays = s.track.strays ∧ t.track.pickTimer = s.track.pickTimer ∧
      t.track.attributing = s.track.attributing ∧ t.handoff = s.handoff ∧ t.feed = s.feed ∧ t.imaging = s.imaging ∧
      t.exit = s.exit ∧ t.drive = s.drive ∧ t.recovery.epoch = s.recovery.epoch ∧ t.recovery.driveJam = s.recovery.driveJam ∧
      t.recovery.escalated = s.recovery.escalated ∧ t.recovery.doorMark = s.recovery.doorMark ∧
      t.recovery.driveNeed = s.recovery.driveNeed ∧ t.recovery.pendingRevs = s.recovery.pendingRevs ∧
      t.recovery.clearFlag = s.recovery.clearFlag ∧ t.recovery.planOut = s.recovery.planOut ∧
      t.recovery.readyNext = s.recovery.readyNext := by
  unfold State.surveyTest
  dsimp only
  repeat' split
  all_goals simp

end Sys2Proof.Machine
end

