-- ==== Sys2Proof/Laws/Stops.lean ====
section
/-! SUPPORT. What the operations of DRIVE, of the fates, of time and of RECOVERY leave unchanged. -/

namespace Sys2Proof.Machine

/-! ### Drive -/

@[simp] theorem State.runFromResuming_frame (s : State) :
    let t := s.runFromResuming; OuterKept s t ∧ LinkInKept s t ∧ MotorKept s t ∧ GateKept s t ∧ TimersKept s t ∧
      SurveyKept s t ∧ VoteKept s t ∧ t.table.entries = s.table.entries ∧ t.table.map = s.table.map ∧
      t.table.unfit = s.table.unfit ∧ t.table.listen = s.table.listen ∧ t.table.rollCall = s.table.rollCall ∧
      t.table.joinDelay = s.table.joinDelay ∧ t.roster = s.roster ∧ t.feed.tray = s.feed.tray ∧ t.imaging = s.imaging ∧
      t.exit.purgeCount = s.exit.purgeCount ∧ t.exit.firstPempty = s.exit.firstPempty ∧ t.recovery.epoch = s.recovery.epoch ∧
      t.recovery.report = s.recovery.report ∧ t.recovery.escalated = s.recovery.escalated ∧
      t.recovery.doorMark = s.recovery.doorMark ∧ t.recovery.driveNeed = s.recovery.driveNeed ∧
      t.recovery.pendingRevs = s.recovery.pendingRevs ∧ t.recovery.clearFlag = s.recovery.clearFlag ∧
      t.recovery.planOut = s.recovery.planOut ∧ t.recovery.readyNext = s.recovery.readyNext := by
  unfold State.runFromResuming
  dsimp only
  repeat' split
  all_goals simp

@[simp] theorem State.driveOff_frame (s : State) :
    let t := s.driveOff; OuterKept s t ∧ LinkInKept s t ∧ GateKept s t ∧ SurveyKept s t ∧ VoteKept s t ∧ t.table = s.table ∧
      t.roster = s.roster ∧ t.track.strays = s.track.strays ∧ t.track.pickTimer = s.track.pickTimer ∧
      t.track.attributing = s.track.attributing ∧ t.handoff.offers = s.handoff.offers ∧ t.feed = s.feed ∧
      t.imaging = s.imaging ∧ t.exit = s.exit ∧ t.drive.spin = s.drive.spin ∧ t.drive.fresh = s.drive.fresh ∧
      t.recovery.epoch = s.recovery.epoch ∧ t.recovery.driveJam = s.recovery.driveJam ∧
      t.recovery.escalated = s.recovery.escalated ∧ t.recovery.doorMark = s.recovery.doorMark ∧
      t.recovery.driveNeed = s.recovery.driveNeed ∧ t.recovery.pendingRevs = s.recovery.pendingRevs ∧
      t.recovery.clearFlag = s.recovery.clearFlag ∧ t.recovery.planOut = s.recovery.planOut ∧
      t.recovery.readyNext = s.recovery.readyNext := by
  unfold State.driveOff
  dsimp only
  repeat' split
  all_goals simp

@[simp] theorem State.spinTest_frame (s : State) :
    let t := s.spinTest; OuterKept s t ∧ LinkInKept s t ∧ GateKept s t ∧ t.table = s.table ∧ t.roster = s.roster ∧
      t.track.queue = s.track.queue ∧ t.track.strays = s.track.strays ∧ t.track.pickCandidate = s.track.pickCandidate ∧
      t.track.pickTimer = s.track.pickTimer ∧ t.track.attributing = s.track.attributing ∧
      t.handoff.offers = s.handoff.offers ∧ t.feed = s.feed ∧ t.imaging = s.imaging ∧ t.exit = s.exit ∧
      t.drive.halt = s.drive.halt ∧ t.recovery = s.recovery := by
  unfold State.spinTest
  dsimp only
  repeat' split
  all_goals simp

@[simp] theorem State.driveHalt_frame (s : State) :
    let t := s.driveHalt; OuterKept s t ∧ LinkInKept s t ∧ GateKept s t ∧ SurveyKept s t ∧ VoteKept s t ∧ FeedLinesKept s t ∧
      t.table = s.table ∧ t.roster = s.roster ∧ t.track.strays = s.track.strays ∧ t.track.attributing = s.track.attributing ∧
      t.handoff.offers = s.handoff.offers ∧ t.feed.retries = s.feed.retries ∧ t.imaging = s.imaging ∧ t.exit = s.exit ∧
      t.recovery.epoch = s.recovery.epoch ∧ t.recovery.driveJam = s.recovery.driveJam ∧
      t.recovery.escalated = s.recovery.escalated ∧ t.recovery.doorMark = s.recovery.doorMark ∧
      t.recovery.driveNeed = s.recovery.driveNeed ∧ t.recovery.pendingRevs = s.recovery.pendingRevs ∧
      t.recovery.clearFlag = s.recovery.clearFlag ∧ t.recovery.planOut = s.recovery.planOut ∧
      t.recovery.readyNext = s.recovery.readyNext := by
  unfold State.driveHalt
  dsimp only
  repeat' split
  all_goals simp

@[simp] theorem State.driveSync_frame (s : State) :
    let t := s.driveSync; OuterKept s t ∧ LinkInKept s t ∧ GateKept s t ∧ SurveyKept s t ∧ VoteKept s t ∧ FeedLinesKept s t ∧
      t.table = s.table ∧ t.roster = s.roster ∧ t.track.strays = s.track.strays ∧ t.track.attributing = s.track.attributing ∧
      t.handoff.offers = s.handoff.offers ∧ t.feed.retries = s.feed.retries ∧ t.imaging = s.imaging ∧ t.exit = s.exit ∧
      t.recovery.epoch = s.recovery.epoch ∧ t.recovery.driveJam = s.recovery.driveJam ∧
      t.recovery.escalated = s.recovery.escalated ∧ t.recovery.doorMark = s.recovery.doorMark ∧
      t.recovery.driveNeed = s.recovery.driveNeed ∧ t.recovery.pendingRevs = s.recovery.pendingRevs ∧
      t.recovery.clearFlag = s.recovery.clearFlag ∧ t.recovery.planOut = s.recovery.planOut ∧
      t.recovery.readyNext = s.recovery.readyNext := by
  unfold State.driveSync
  dsimp only
  repeat' split
  all_goals simp

@[simp] theorem State.driveForcedOff_frame (s : State) :
    let t := s.driveForcedOff; OuterKept s t ∧ LinkInKept s t ∧ GateKept s t ∧ SurveyKept s t ∧ VoteKept s t ∧
      FeedLinesKept s t ∧ t.table = s.table ∧ t.roster = s.roster ∧ t.track.strays = s.track.strays ∧
      t.track.attributing = s.track.attributing ∧ t.handoff.offers = s.handoff.offers ∧ t.feed.retries = s.feed.retries ∧
      t.imaging = s.imaging ∧ t.exit = s.exit ∧ t.recovery.epoch = s.recovery.epoch ∧
      t.recovery.driveJam = s.recovery.driveJam ∧ t.recovery.escalated = s.recovery.escalated ∧
      t.recovery.doorMark = s.recovery.doorMark ∧ t.recovery.driveNeed = s.recovery.driveNeed ∧
      t.recovery.pendingRevs = s.recovery.pendingRevs ∧ t.recovery.clearFlag = s.recovery.clearFlag ∧
      t.recovery.planOut = s.recovery.planOut ∧ t.recovery.readyNext = s.recovery.readyNext := by
  unfold State.driveForcedOff
  dsimp only
  repeat' split
  all_goals simp

@[simp] theorem State.driveRunning_frame (s : State) :
    let t := s.driveRunning; OuterKept s t ∧ LinkInKept s t ∧ GateKept s t ∧ TimersKept s t ∧ SurveyKept s t ∧ VoteKept s t ∧
      t.table.entries = s.table.entries ∧ t.table.map = s.table.map ∧ t.table.unfit = s.table.unfit ∧
      t.table.listen = s.table.listen ∧ t.table.rollCall = s.table.rollCall ∧ t.table.joinDelay = s.table.joinDelay ∧
      t.roster = s.roster ∧ t.feed.tray = s.feed.tray ∧ t.imaging = s.imaging ∧ t.exit.purgeCount = s.exit.purgeCount ∧
      t.exit.firstPempty = s.exit.firstPempty ∧ t.drive.halt = s.drive.halt ∧ t.drive.fresh = s.drive.fresh ∧
      t.recovery.epoch = s.recovery.epoch ∧ t.recovery.report = s.recovery.report ∧
      t.recovery.escalated = s.recovery.escalated ∧ t.recovery.doorMark = s.recovery.doorMark ∧
      t.recovery.driveNeed = s.recovery.driveNeed ∧ t.recovery.pendingRevs = s.recovery.pendingRevs ∧
      t.recovery.clearFlag = s.recovery.clearFlag ∧ t.recovery.planOut = s.recovery.planOut ∧
      t.recovery.readyNext = s.recovery.readyNext := by
  unfold State.driveRunning
  dsimp only
  repeat' split
  all_goals simp

@[simp] theorem State.needTest_frame (s : State) :
    let t := s.needTest; OuterKept s t ∧ LinkInKept s t ∧ GateKept s t ∧ SurveyKept s t ∧ VoteKept s t ∧ FeedLinesKept s t ∧
      t.table = s.table ∧ t.roster = s.roster ∧ t.track.strays = s.track.strays ∧ t.track.attributing = s.track.attributing ∧
      t.handoff.offers = s.handoff.offers ∧ t.feed.retries = s.feed.retries ∧ t.imaging = s.imaging ∧ t.exit = s.exit ∧
      t.recovery.epoch = s.recovery.epoch ∧ t.recovery.driveJam = s.recovery.driveJam ∧
      t.recovery.escalated = s.recovery.escalated ∧ t.recovery.doorMark = s.recovery.doorMark ∧
      t.recovery.pendingRevs = s.recovery.pendingRevs ∧ t.recovery.clearFlag = s.recovery.clearFlag ∧
      t.recovery.planOut = s.recovery.planOut ∧ t.recovery.readyNext = s.recovery.readyNext := by
  unfold State.needTest
  dsimp only
  repeat' split
  all_goals simp

@[simp] theorem State.occupancyChanged_frame (before s : State) :
    let t := State.occupancyChanged before s; OuterKept s t ∧ LinkInKept s t ∧ SurveyKept s t ∧ VoteKept s t ∧
      FeedLinesKept s t ∧ t.table = s.table ∧ t.roster = s.roster ∧ t.track.strays = s.track.strays ∧
      t.track.attributing = s.track.attributing ∧ t.handoff.offers = s.handoff.offers ∧ t.imaging = s.imaging ∧
      t.exit.firstPempty = s.exit.firstPempty ∧ t.drive.gateHeld = s.drive.gateHeld ∧ t.recovery.epoch = s.recovery.epoch ∧
      t.recovery.driveJam = s.recovery.driveJam ∧ t.recovery.escalated = s.recovery.escalated ∧
      t.recovery.doorMark = s.recovery.doorMark ∧ t.recovery.pendingRevs = s.recovery.pendingRevs ∧
      t.recovery.clearFlag = s.recovery.clearFlag ∧ t.recovery.planOut = s.recovery.planOut ∧
      t.recovery.readyNext = s.recovery.readyNext := by
  unfold State.occupancyChanged
  dsimp only
  repeat' split
  all_goals simp

@[simp] theorem State.dropPick_frame (s : State) :
    let t := s.dropPick; OuterKept s t ∧ FeedLinesKept s t ∧ t.link = s.link ∧ t.table = s.table ∧ t.roster = s.roster ∧
      t.track.queue = s.track.queue ∧ t.track.expected = s.track.expected ∧ t.track.strays = s.track.strays ∧
      t.track.attributing = s.track.attributing ∧ t.handoff = s.handoff ∧ t.feed.retries = s.feed.retries ∧
      t.imaging = s.imaging ∧ t.exit = s.exit ∧ t.drive = s.drive ∧ t.recovery = s.recovery := by
  unfold State.dropPick
  dsimp only
  repeat' split
  all_goals simp

@[simp] theorem State.strayCovers_frame (s : State) (xs : List Entry) :
    let t := xs.foldl (fun u e => u.strayCover e.leadZone) s; OuterKept s t ∧ LinkInKept s t ∧ t.table = s.table ∧ t.roster = s.roster ∧
      t.track.queue = s.track.queue ∧ t.track.expected = s.track.expected ∧ t.track.pickCandidate = s.track.pickCandidate ∧
      t.track.pickTimer = s.track.pickTimer ∧ t.track.attributing = s.track.attributing ∧ t.handoff = s.handoff ∧
      t.feed = s.feed ∧ t.imaging = s.imaging ∧ t.exit = s.exit ∧ t.drive = s.drive ∧ t.recovery = s.recovery := by
  dsimp only
  induction xs generalizing s <;> simp_all

@[simp] theorem State.dropEntries_frame (s : State) :
    let t := s.dropEntries; OuterKept s t ∧ LinkInKept s t ∧ SurveyKept s t ∧ VoteKept s t ∧ FeedLinesKept s t ∧
      t.table = s.table ∧ t.roster = s.roster ∧ t.track.attributing = s.track.attributing ∧
      t.handoff.offers = s.handoff.offers ∧ t.imaging = s.imaging ∧ t.exit.firstPempty = s.exit.firstPempty ∧
      t.drive.gateHeld = s.drive.gateHeld ∧ t.recovery.epoch = s.recovery.epoch ∧ t.recovery.driveJam = s.recovery.driveJam ∧
      t.recovery.escalated = s.recovery.escalated ∧ t.recovery.doorMark = s.recovery.doorMark ∧
      t.recovery.pendingRevs = s.recovery.pendingRevs ∧ t.recovery.clearFlag = s.recovery.clearFlag ∧
      t.recovery.planOut = s.recovery.planOut ∧ t.recovery.readyNext = s.recovery.readyNext := by
  unfold State.dropEntries
  dsimp only
  repeat' split
  all_goals simp

@[simp] theorem State.rosterChanged_frame (s : State) :
    let t := s.rosterChanged; OuterKept s t ∧ LinkInKept s t ∧ SurveyKept s t ∧ VoteKept s t ∧ t.table = s.table ∧
      t.roster = s.roster ∧ t.track.attributing = s.track.attributing ∧ t.handoff.offers = s.handoff.offers ∧
      t.feed.tray = s.feed.tray ∧ t.imaging = s.imaging ∧ t.exit.firstPempty = s.exit.firstPempty ∧
      t.drive.gateHeld = s.drive.gateHeld ∧ t.recovery.epoch = s.recovery.epoch ∧ t.recovery.driveJam = s.recovery.driveJam ∧
      t.recovery.escalated = s.recovery.escalated ∧ t.recovery.doorMark = s.recovery.doorMark ∧
      t.recovery.pendingRevs = s.recovery.pendingRevs ∧ t.recovery.clearFlag = s.recovery.clearFlag ∧
      t.recovery.planOut = s.recovery.planOut ∧ t.recovery.readyNext = s.recovery.readyNext := by
  unfold State.rosterChanged
  dsimp only
  repeat' split
  all_goals simp

@[simp] theorem State.doorTest_frame (s : State) :
    let t := s.doorTest; OuterKept s t ∧ LinkInKept s t ∧ t.table = s.table ∧ t.roster = s.roster ∧ t.track = s.track ∧
      t.handoff = s.handoff ∧ t.feed = s.feed ∧ t.imaging = s.imaging ∧ t.exit = s.exit ∧ t.drive = s.drive ∧
      t.recovery = s.recovery := by
  unfold State.doorTest
  dsimp only
  repeat' split
  all_goals simp

@[simp] theorem State.trayStrayTest_frame (s : State) :
    let t := s.trayStrayTest; OuterKept s t ∧ LinkInKept s t ∧ t.table = s.table ∧ t.roster = s.roster ∧ t.track = s.track ∧
      t.handoff = s.handoff ∧ t.feed = s.feed ∧ t.imaging = s.imaging ∧ t.exit.purgeCount = s.exit.purgeCount ∧
      t.exit.firstPempty = s.exit.firstPempty ∧ t.drive = s.drive ∧ t.recovery = s.recovery := by
  unfold State.trayStrayTest
  dsimp only
  split
  · rename_i h
    clear h
    generalize List.filter _ _ = xs
    induction xs generalizing s <;> simp_all
  · simp

@[simp] theorem State.loadSilence_frame (s : State) :
    let t := s.loadSilence; OuterKept s t ∧ TableTimersKept s t ∧ t.link = s.link ∧ t.table.map = s.table.map ∧
      t.roster = s.roster ∧ t.track = s.track ∧ t.handoff = s.handoff ∧ t.feed = s.feed ∧ t.imaging = s.imaging ∧
      t.exit = s.exit ∧ t.drive = s.drive ∧ t.recovery = s.recovery := by
  unfold State.loadSilence
  dsimp only
  repeat' split
  all_goals simp

@[simp] theorem State.reloadSilence_frame (s : State) :
    let t := s.reloadSilence; OuterKept s t ∧ TableTimersKept s t ∧ t.link = s.link ∧ t.table.map = s.table.map ∧
      t.roster = s.roster ∧ t.track = s.track ∧ t.handoff = s.handoff ∧ t.feed = s.feed ∧ t.imaging = s.imaging ∧
      t.exit = s.exit ∧ t.drive = s.drive ∧ t.recovery = s.recovery := by
  unfold State.reloadSilence
  dsimp only
  repeat' split
  all_goals simp

@[simp] theorem State.trayAtEntry_frame (s : State) :
    let t := s.trayAtEntry; OuterKept s t ∧ LinkInKept s t ∧ t.table = s.table ∧ t.roster = s.roster ∧ t.track = s.track ∧
      t.handoff = s.handoff ∧ t.feed = s.feed ∧ t.imaging = s.imaging ∧ t.exit = s.exit ∧ t.drive = s.drive ∧
      t.recovery = s.recovery := by
  unfold State.trayAtEntry
  dsimp only
  repeat' split
  all_goals simp

@[simp] theorem State.desyncTest_frame (s : State) :
    let t := s.desyncTest; OuterKept s t ∧ LinkInKept s t ∧ t.table = s.table ∧ t.roster = s.roster ∧ t.track = s.track ∧
      t.handoff = s.handoff ∧ t.feed = s.feed ∧ t.imaging = s.imaging ∧ t.exit = s.exit ∧ t.drive = s.drive ∧
      t.recovery = s.recovery := by
  unfold State.desyncTest
  dsimp only
  repeat' split
  all_goals simp

@[simp] theorem State.runFromRollCall_frame (s : State) :
    let t := s.runFromRollCall; OuterKept s t ∧ LinkInKept s t ∧ GateKept s t ∧ SurveyKept s t ∧ VoteKept s t ∧
      t.table.map = s.table.map ∧ t.table.unfit = s.table.unfit ∧ t.table.listen = s.table.listen ∧ t.roster = s.roster ∧
      t.feed.retries = s.feed.retries ∧ t.feed.tray = s.feed.tray ∧ t.imaging = s.imaging ∧
      t.exit.purgeCount = s.exit.purgeCount ∧ t.exit.firstPempty = s.exit.firstPempty ∧
      t.recovery.driveJam = s.recovery.driveJam ∧ t.recovery.escalated = s.recovery.escalated ∧
      t.recovery.doorMark = s.recovery.doorMark ∧ t.recovery.driveNeed = s.recovery.driveNeed ∧
      t.recovery.pendingRevs = s.recovery.pendingRevs ∧ t.recovery.clearFlag = s.recovery.clearFlag ∧
      t.recovery.planOut = s.recovery.planOut ∧ t.recovery.readyNext = s.recovery.readyNext := by
  unfold State.runFromRollCall
  dsimp only
  repeat' split
  all_goals simp

/-! ### Fates -/

@[simp] theorem State.countReports_frame (s : State) :
    let t := s.countReports; OuterKept s t ∧ TimersKept s t ∧ VoteKept s t ∧ t.link = s.link ∧ t.table = s.table ∧
      t.roster = s.roster ∧ t.track = s.track ∧ t.handoff = s.handoff ∧ t.feed = s.feed ∧ t.imaging = s.imaging ∧
      t.exit = s.exit ∧ t.drive = s.drive ∧ t.recovery.path = s.recovery.path ∧ t.recovery.epoch = s.recovery.epoch ∧
      t.recovery.report = s.recovery.report ∧ t.recovery.jams = s.recovery.jams ∧
      t.recovery.escalated = s.recovery.escalated ∧ t.recovery.record = s.recovery.record ∧
      t.recovery.restarted = s.recovery.restarted ∧ t.recovery.following = s.recovery.following ∧
      t.recovery.doorMark = s.recovery.doorMark ∧ t.recovery.driveNeed = s.recovery.driveNeed ∧
      t.recovery.account = s.recovery.account ∧ t.recovery.pendingRevs = s.recovery.pendingRevs ∧
      t.recovery.clearFlag = s.recovery.clearFlag ∧ t.recovery.planOut = s.recovery.planOut ∧
      t.recovery.readyNext = s.recovery.readyNext := by
  unfold State.countReports
  dsimp only
  repeat' split
  all_goals simp

@[simp] theorem State.storeFates_frame (s : State) (again : Bool) :
    let t := s.storeFates again; OuterKept s t ∧ TimersKept s t ∧ VoteKept s t ∧ t.link = s.link ∧ t.table = s.table ∧
      t.roster.phase = s.roster.phase ∧ t.roster.stage = s.roster.stage ∧ t.roster.lastSerial = s.roster.lastSerial ∧
      t.roster.epoch = s.roster.epoch ∧ t.roster.planInForce = s.roster.planInForce ∧ t.track = s.track ∧
      t.handoff = s.handoff ∧ t.feed = s.feed ∧ t.imaging = s.imaging ∧ t.exit = s.exit ∧ t.drive = s.drive ∧
      t.recovery.path = s.recovery.path ∧ t.recovery.epoch = s.recovery.epoch ∧ t.recovery.report = s.recovery.report ∧
      t.recovery.jams = s.recovery.jams ∧ t.recovery.escalated = s.recovery.escalated ∧
      t.recovery.record = s.recovery.record ∧ t.recovery.restarted = s.recovery.restarted ∧
      t.recovery.following = s.recovery.following ∧ t.recovery.doorMark = s.recovery.doorMark ∧
      t.recovery.driveNeed = s.recovery.driveNeed ∧ t.recovery.account = s.recovery.account ∧
      t.recovery.pendingRevs = s.recovery.pendingRevs ∧ t.recovery.clearFlag = s.recovery.clearFlag ∧
      t.recovery.planOut = s.recovery.planOut ∧ t.recovery.readyNext = s.recovery.readyNext := by
  unfold State.storeFates
  dsimp only
  repeat' split
  all_goals simp

/-! ### Elapse -/

@[simp] theorem State.elapse_frame (s : State) (n : Nat) :
    let t := s.elapse n; GateKept s t ∧ SurveyKept s t ∧ VoteKept s t ∧ t.pending = s.pending ∧ t.profile = s.profile ∧
      t.profileCrc = s.profileCrc ∧ t.link = s.link ∧ t.table.map = s.table.map ∧ t.table.unfit = s.table.unfit ∧
      t.roster = s.roster ∧ t.track.strays = s.track.strays ∧ t.track.pickCandidate = s.track.pickCandidate ∧
      t.track.attributing = s.track.attributing ∧ t.handoff.deferred = s.handoff.deferred ∧ t.feed = s.feed ∧
      t.imaging.passes = s.imaging.passes ∧ t.exit.purgeCount = s.exit.purgeCount ∧ t.exit.firstPempty = s.exit.firstPempty ∧
      t.drive.state = s.drive.state ∧ t.drive.fresh = s.drive.fresh ∧ t.drive.div1 = s.drive.div1 ∧
      t.drive.div2 = s.drive.div2 ∧ t.recovery.path = s.recovery.path ∧ t.recovery.epoch = s.recovery.epoch ∧
      t.recovery.driveJam = s.recovery.driveJam ∧ t.recovery.report = s.recovery.report ∧
      t.recovery.escalated = s.recovery.escalated ∧ t.recovery.doorMark = s.recovery.doorMark ∧
      t.recovery.driveNeed = s.recovery.driveNeed ∧ t.recovery.pendingRevs = s.recovery.pendingRevs ∧
      t.recovery.clearFlag = s.recovery.clearFlag ∧ t.recovery.planOut = s.recovery.planOut ∧
      t.recovery.readyNext = s.recovery.readyNext := by
  simp [State.elapse, State.passTable, State.passTrack, State.passHandoff, State.passExit, State.passDrive, State.passRecovery]

/-! ### Recovery -/

@[simp] theorem State.enterClosed_frame (s : State) (p : PathState) :
    let t := s.enterClosed p; OuterKept s t ∧ LinkInKept s t ∧ TimersKept s t ∧ SurveyKept s t ∧ VoteKept s t ∧
      FeedLinesKept s t ∧ t.link.outOfStep = s.link.outOfStep ∧ t.link.lostSinceHolding = s.link.lostSinceHolding ∧
      t.table = s.table ∧ t.roster = s.roster ∧ t.track = s.track ∧ t.handoff = s.handoff ∧ t.feed.pick = s.feed.pick ∧
      t.feed.retries = s.feed.retries ∧ t.imaging.passes = s.imaging.passes ∧ t.exit.purgeCount = s.exit.purgeCount ∧
      t.exit.firstPempty = s.exit.firstPempty ∧ t.recovery.epoch = s.recovery.epoch ∧
      t.recovery.escalated = s.recovery.escalated ∧ t.recovery.doorMark = s.recovery.doorMark ∧
      t.recovery.driveNeed = s.recovery.driveNeed ∧ t.recovery.pendingRevs = s.recovery.pendingRevs ∧
      t.recovery.clearFlag = s.recovery.clearFlag := by
  unfold State.enterClosed
  dsimp only
  repeat' split
  all_goals simp

@[simp] theorem State.enterStopping_frame (s : State) (epoch : Epoch) :
    let t := s.enterStopping epoch; OuterKept s t ∧ LinkInKept s t ∧ SurveyKept s t ∧ VoteKept s t ∧ TableTimersKept s t ∧
      FeedLinesKept s t ∧ t.table.map = s.table.map ∧ t.roster = s.roster ∧ t.track.strays = s.track.strays ∧
      t.track.attributing = s.track.attributing ∧ t.feed.retries = s.feed.retries ∧ t.imaging = s.imaging ∧
      t.exit.purgeCount = s.exit.purgeCount ∧ t.exit.firstPempty = s.exit.firstPempty ∧ t.drive.gate = s.drive.gate ∧
      t.recovery.escalated = s.recovery.escalated ∧ t.recovery.doorMark = s.recovery.doorMark ∧
      t.recovery.driveNeed = s.recovery.driveNeed ∧ t.recovery.pendingRevs = s.recovery.pendingRevs ∧
      t.recovery.clearFlag = s.recovery.clearFlag := by
  unfold State.enterStopping
  dsimp only
  repeat' split
  all_goals simp

@[simp] theorem State.openRecovery_frame (s : State) (epoch : Epoch) :
    let t := s.openRecovery epoch; OuterKept s t ∧ TimersKept s t ∧ TableTimersKept s t ∧ t.link = s.link ∧
      t.table.map = s.table.map ∧ t.roster.lastSerial = s.roster.lastSerial ∧ t.roster.planInForce = s.roster.planInForce ∧
      t.track = s.track ∧ t.handoff = s.handoff ∧ t.feed = s.feed ∧ t.imaging = s.imaging ∧ t.exit = s.exit ∧
      t.drive = s.drive ∧ t.recovery.path = s.recovery.path ∧ t.recovery.epoch = s.recovery.epoch ∧
      t.recovery.report = s.recovery.report ∧ t.recovery.jams = s.recovery.jams ∧
      t.recovery.escalated = s.recovery.escalated ∧ t.recovery.restarted = s.recovery.restarted ∧
      t.recovery.following = s.recovery.following ∧ t.recovery.doorMark = s.recovery.doorMark ∧
      t.recovery.driveNeed = s.recovery.driveNeed ∧ t.recovery.fates = s.recovery.fates ∧
      t.recovery.account = s.recovery.account ∧ t.recovery.clearanceEpoch = s.recovery.clearanceEpoch ∧
      t.recovery.revisions = s.recovery.revisions ∧ t.recovery.mismatch = s.recovery.mismatch ∧
      t.recovery.pendingRevs = s.recovery.pendingRevs ∧ t.recovery.clearFlag = s.recovery.clearFlag ∧
      t.recovery.planOut = s.recovery.planOut ∧ t.recovery.readyNext = s.recovery.readyNext := by
  unfold State.openRecovery
  dsimp only
  repeat' split
  all_goals simp

@[simp] theorem State.applyEpoch_frame (s : State) (epoch : Epoch) :
    let t := s.applyEpoch epoch; OuterKept s t ∧ LinkInKept s t ∧ TableTimersKept s t ∧ FeedLinesKept s t ∧
      t.table.map = s.table.map ∧ t.roster.lastSerial = s.roster.lastSerial ∧ t.roster.planInForce = s.roster.planInForce ∧
      t.track.strays = s.track.strays ∧ t.track.attributing = s.track.attributing ∧ t.feed.retries = s.feed.retries ∧
      t.imaging = s.imaging ∧ t.exit.purgeCount = s.exit.purgeCount ∧ t.exit.firstPempty = s.exit.firstPempty ∧
      t.drive.gate = s.drive.gate ∧ t.recovery.jams = s.recovery.jams ∧ t.recovery.escalated = s.recovery.escalated ∧
      t.recovery.restarted = s.recovery.restarted ∧ t.recovery.following = s.recovery.following ∧
      t.recovery.doorMark = s.recovery.doorMark ∧ t.recovery.driveNeed = s.recovery.driveNeed ∧
      t.recovery.fates = s.recovery.fates ∧ t.recovery.account = s.recovery.account ∧
      t.recovery.clearanceEpoch = s.recovery.clearanceEpoch ∧ t.recovery.revisions = s.recovery.revisions ∧
      t.recovery.mismatch = s.recovery.mismatch ∧ t.recovery.pendingRevs = s.recovery.pendingRevs ∧
      t.recovery.clearFlag = s.recovery.clearFlag := by
  unfold State.applyEpoch
  dsimp only
  repeat' split
  all_goals simp

@[simp] theorem State.followEpoch_frame (s : State) (f : RxFrame) :
    let t := s.followEpoch f; OuterKept s t ∧ TimersKept s t ∧ SurveyKept s t ∧ VoteKept s t ∧ t.link = s.link ∧
      t.table = s.table ∧ t.roster = s.roster ∧ t.track = s.track ∧ t.handoff = s.handoff ∧ t.feed = s.feed ∧
      t.imaging = s.imaging ∧ t.exit = s.exit ∧ t.drive = s.drive ∧ t.recovery.path = s.recovery.path ∧
      t.recovery.report = s.recovery.report ∧ t.recovery.escalated = s.recovery.escalated ∧
      t.recovery.doorMark = s.recovery.doorMark ∧ t.recovery.driveNeed = s.recovery.driveNeed ∧
      t.recovery.pendingRevs = s.recovery.pendingRevs ∧ t.recovery.clearFlag = s.recovery.clearFlag ∧
      t.recovery.planOut = s.recovery.planOut ∧ t.recovery.readyNext = s.recovery.readyNext := by
  unfold State.followEpoch
  dsimp only
  repeat' split
  all_goals simp

@[simp] theorem State.epochReceived_frame (s : State) (f : RxFrame) :
    let t := s.epochReceived f; OuterKept s t ∧ LinkInKept s t ∧ TableTimersKept s t ∧ FeedLinesKept s t ∧
      t.table.map = s.table.map ∧ t.roster.lastSerial = s.roster.lastSerial ∧ t.roster.planInForce = s.roster.planInForce ∧
      t.track.strays = s.track.strays ∧ t.track.attributing = s.track.attributing ∧ t.feed.retries = s.feed.retries ∧
      t.imaging = s.imaging ∧ t.exit.purgeCount = s.exit.purgeCount ∧ t.exit.firstPempty = s.exit.firstPempty ∧
      t.drive.gate = s.drive.gate ∧ t.recovery.jams = s.recovery.jams ∧ t.recovery.escalated = s.recovery.escalated ∧
      t.recovery.restarted = s.recovery.restarted ∧ t.recovery.following = s.recovery.following ∧
      t.recovery.doorMark = s.recovery.doorMark ∧ t.recovery.driveNeed = s.recovery.driveNeed ∧
      t.recovery.fates = s.recovery.fates ∧ t.recovery.account = s.recovery.account ∧
      t.recovery.clearanceEpoch = s.recovery.clearanceEpoch ∧ t.recovery.revisions = s.recovery.revisions ∧
      t.recovery.mismatch = s.recovery.mismatch ∧ t.recovery.pendingRevs = s.recovery.pendingRevs ∧
      t.recovery.clearFlag = s.recovery.clearFlag := by
  unfold State.epochReceived
  dsimp only
  repeat' split
  all_goals simp

@[simp] theorem State.addJam_frame (s : State) (j : JamEntry) :
    let t := s.addJam j; OuterKept s t ∧ TimersKept s t ∧ VoteKept s t ∧ t.link = s.link ∧ t.table = s.table ∧
      t.roster = s.roster ∧ t.track = s.track ∧ t.handoff = s.handoff ∧ t.feed = s.feed ∧ t.imaging = s.imaging ∧
      t.exit = s.exit ∧ t.drive = s.drive ∧ t.recovery.path = s.recovery.path ∧ t.recovery.epoch = s.recovery.epoch ∧
      t.recovery.report = s.recovery.report ∧ t.recovery.record = s.recovery.record ∧
      t.recovery.restarted = s.recovery.restarted ∧ t.recovery.following = s.recovery.following ∧
      t.recovery.doorMark = s.recovery.doorMark ∧ t.recovery.driveNeed = s.recovery.driveNeed ∧
      t.recovery.fates = s.recovery.fates ∧ t.recovery.account = s.recovery.account ∧
      t.recovery.pendingRevs = s.recovery.pendingRevs ∧ t.recovery.clearFlag = s.recovery.clearFlag ∧
      t.recovery.planOut = s.recovery.planOut ∧ t.recovery.readyNext = s.recovery.readyNext := by
  unfold State.addJam
  dsimp only
  repeat' split
  all_goals simp

@[simp] theorem State.enterJam_frame (s : State) (j : JamEntry) :
    let t := s.enterJam j; OuterKept s t ∧ TimersKept s t ∧ VoteKept s t ∧ t.link = s.link ∧ t.table = s.table ∧
      t.roster = s.roster ∧ t.track = s.track ∧ t.handoff = s.handoff ∧ t.feed = s.feed ∧ t.imaging = s.imaging ∧
      t.exit = s.exit ∧ t.drive = s.drive ∧ t.recovery.path = s.recovery.path ∧ t.recovery.epoch = s.recovery.epoch ∧
      t.recovery.report = s.recovery.report ∧ t.recovery.record = s.recovery.record ∧
      t.recovery.restarted = s.recovery.restarted ∧ t.recovery.following = s.recovery.following ∧
      t.recovery.doorMark = s.recovery.doorMark ∧ t.recovery.driveNeed = s.recovery.driveNeed ∧
      t.recovery.fates = s.recovery.fates ∧ t.recovery.account = s.recovery.account ∧
      t.recovery.pendingRevs = s.recovery.pendingRevs ∧ t.recovery.clearFlag = s.recovery.clearFlag ∧
      t.recovery.planOut = s.recovery.planOut ∧ t.recovery.readyNext = s.recovery.readyNext := by
  unfold State.enterJam
  dsimp only
  repeat' split
  all_goals simp

@[simp] theorem State.setReport_frame (s : State) (p : Pos) (f : PosReport → PosReport) :
    let t := s.setReport p f; OuterKept s t ∧ TimersKept s t ∧ VoteKept s t ∧ t.link = s.link ∧ t.table = s.table ∧
      t.roster = s.roster ∧ t.track = s.track ∧ t.handoff = s.handoff ∧ t.feed = s.feed ∧ t.imaging = s.imaging ∧
      t.exit = s.exit ∧ t.drive = s.drive ∧ t.recovery.path = s.recovery.path ∧ t.recovery.epoch = s.recovery.epoch ∧
      t.recovery.report = s.recovery.report ∧ t.recovery.jams = s.recovery.jams ∧
      t.recovery.escalated = s.recovery.escalated ∧ t.recovery.restarted = s.recovery.restarted ∧
      t.recovery.following = s.recovery.following ∧ t.recovery.doorMark = s.recovery.doorMark ∧
      t.recovery.driveNeed = s.recovery.driveNeed ∧ t.recovery.fates = s.recovery.fates ∧
      t.recovery.account = s.recovery.account ∧ t.recovery.pendingRevs = s.recovery.pendingRevs ∧
      t.recovery.clearFlag = s.recovery.clearFlag ∧ t.recovery.planOut = s.recovery.planOut ∧
      t.recovery.readyNext = s.recovery.readyNext := by
  unfold State.setReport
  dsimp only
  repeat' split
  all_goals simp

@[simp] theorem State.stopTests_frame (s : State) (lineLow : Bool) :
    let t := s.stopTests lineLow; OuterKept s t ∧ TimersKept s t ∧ VoteKept s t ∧ t.link = s.link ∧ t.table = s.table ∧
      t.roster = s.roster ∧ t.track = s.track ∧ t.handoff = s.handoff ∧ t.feed = s.feed ∧ t.imaging = s.imaging ∧
      t.exit = s.exit ∧ t.drive = s.drive ∧ t.recovery.path = s.recovery.path ∧ t.recovery.epoch = s.recovery.epoch ∧
      t.recovery.report = s.recovery.report ∧ t.recovery.restarted = s.recovery.restarted ∧
      t.recovery.following = s.recovery.following ∧ t.recovery.doorMark = s.recovery.doorMark ∧
      t.recovery.driveNeed = s.recovery.driveNeed ∧ t.recovery.fates = s.recovery.fates ∧
      t.recovery.account = s.recovery.account ∧ t.recovery.pendingRevs = s.recovery.pendingRevs ∧
      t.recovery.clearFlag = s.recovery.clearFlag ∧ t.recovery.planOut = s.recovery.planOut ∧
      t.recovery.readyNext = s.recovery.readyNext := by
  unfold State.stopTests
  dsimp only
  repeat' split
  all_goals simp

@[simp] theorem State.sendReady_frame (s : State) :
    let t := s.sendReady; OuterKept s t ∧ LinkInKept s t ∧ TimersKept s t ∧ SurveyKept s t ∧ VoteKept s t ∧
      t.table = s.table ∧ t.roster = s.roster ∧ t.track = s.track ∧ t.handoff = s.handoff ∧ t.feed = s.feed ∧
      t.imaging = s.imaging ∧ t.exit = s.exit ∧ t.drive = s.drive ∧ t.recovery.path = s.recovery.path ∧
      t.recovery.epoch = s.recovery.epoch ∧ t.recovery.report = s.recovery.report ∧
      t.recovery.escalated = s.recovery.escalated ∧ t.recovery.doorMark = s.recovery.doorMark ∧
      t.recovery.driveNeed = s.recovery.driveNeed ∧ t.recovery.pendingRevs = s.recovery.pendingRevs ∧
      t.recovery.clearFlag = s.recovery.clearFlag ∧ t.recovery.planOut = s.recovery.planOut := by
  unfold State.sendReady
  dsimp only
  repeat' split
  all_goals simp

@[simp] theorem State.queueReady_frame (s : State) :
    let t := s.queueReady; OuterKept s t ∧ LinkInKept s t ∧ TimersKept s t ∧ SurveyKept s t ∧ VoteKept s t ∧
      t.table = s.table ∧ t.roster = s.roster ∧ t.track = s.track ∧ t.handoff = s.handoff ∧ t.feed = s.feed ∧
      t.imaging = s.imaging ∧ t.exit = s.exit ∧ t.drive = s.drive ∧ t.recovery.path = s.recovery.path ∧
      t.recovery.epoch = s.recovery.epoch ∧ t.recovery.report = s.recovery.report ∧
      t.recovery.escalated = s.recovery.escalated ∧ t.recovery.doorMark = s.recovery.doorMark ∧
      t.recovery.driveNeed = s.recovery.driveNeed ∧ t.recovery.pendingRevs = s.recovery.pendingRevs ∧
      t.recovery.clearFlag = s.recovery.clearFlag ∧ t.recovery.planOut = s.recovery.planOut := by
  unfold State.queueReady
  dsimp only
  repeat' split
  all_goals simp

@[simp] theorem State.evaluateReady_frame (s : State) :
    let t := s.evaluateReady; OuterKept s t ∧ LinkInKept s t ∧ TimersKept s t ∧ SurveyKept s t ∧ VoteKept s t ∧
      t.table = s.table ∧ t.roster = s.roster ∧ t.track = s.track ∧ t.handoff = s.handoff ∧ t.feed = s.feed ∧
      t.imaging = s.imaging ∧ t.exit = s.exit ∧ t.drive = s.drive ∧ t.recovery.path = s.recovery.path ∧
      t.recovery.epoch = s.recovery.epoch ∧ t.recovery.report = s.recovery.report ∧
      t.recovery.escalated = s.recovery.escalated ∧ t.recovery.doorMark = s.recovery.doorMark ∧
      t.recovery.driveNeed = s.recovery.driveNeed ∧ t.recovery.pendingRevs = s.recovery.pendingRevs ∧
      t.recovery.planOut = s.recovery.planOut := by
  unfold State.evaluateReady
  dsimp only
  repeat' split
  all_goals simp

@[simp] theorem State.queueRevision_frame (s : State) :
    let t := s.queueRevision; OuterKept s t ∧ LinkInKept s t ∧ t.table = s.table ∧ t.roster = s.roster ∧ t.track = s.track ∧
      t.handoff = s.handoff ∧ t.feed = s.feed ∧ t.imaging = s.imaging ∧ t.exit = s.exit ∧ t.drive = s.drive ∧
      t.recovery = s.recovery := by
  unfold State.queueRevision
  dsimp only
  repeat' split
  all_goals simp

@[simp] theorem State.doorCloseEvaluation_frame (s : State) :
    let t := s.doorCloseEvaluation; OuterKept s t ∧ LinkInKept s t ∧ TimersKept s t ∧ SurveyKept s t ∧ VoteKept s t ∧
      t.table = s.table ∧ t.roster = s.roster ∧ t.track.queue = s.track.queue ∧ t.track.expected = s.track.expected ∧
      t.track.pickCandidate = s.track.pickCandidate ∧ t.track.pickTimer = s.track.pickTimer ∧
      t.track.attributing = s.track.attributing ∧ t.handoff = s.handoff ∧ t.feed = s.feed ∧ t.imaging = s.imaging ∧
      t.exit = s.exit ∧ t.drive = s.drive ∧ t.recovery.path = s.recovery.path ∧ t.recovery.epoch = s.recovery.epoch ∧
      t.recovery.report = s.recovery.report ∧ t.recovery.escalated = s.recovery.escalated ∧
      t.recovery.doorMark = s.recovery.doorMark ∧ t.recovery.driveNeed = s.recovery.driveNeed ∧
      t.recovery.planOut = s.recovery.planOut := by
  unfold State.doorCloseEvaluation
  dsimp only
  repeat' split
  all_goals simp

@[simp] theorem State.sendPlan_frame (s : State) (xs : List PlanItem) :
    let t := s.sendPlan xs; OuterKept s t ∧ LinkInKept s t ∧ TimersKept s t ∧ SurveyKept s t ∧ VoteKept s t ∧
      t.table = s.table ∧ t.roster = s.roster ∧ t.track = s.track ∧ t.handoff = s.handoff ∧ t.feed = s.feed ∧
      t.imaging = s.imaging ∧ t.exit = s.exit ∧ t.drive = s.drive ∧ t.recovery.path = s.recovery.path ∧
      t.recovery.epoch = s.recovery.epoch ∧ t.recovery.report = s.recovery.report ∧
      t.recovery.escalated = s.recovery.escalated ∧ t.recovery.doorMark = s.recovery.doorMark ∧
      t.recovery.driveNeed = s.recovery.driveNeed ∧ t.recovery.pendingRevs = s.recovery.pendingRevs ∧
      t.recovery.clearFlag = s.recovery.clearFlag ∧ t.recovery.readyNext = s.recovery.readyNext := by
  induction xs generalizing s with
  | nil => simp [State.sendPlan]
  | cons x xs ih =>
    unfold State.sendPlan
    dsimp only
    repeat' split
    all_goals simp [*]

@[simp] theorem State.enterPlan_frame (s : State) :
    let t := s.enterPlan; OuterKept s t ∧ LinkInKept s t ∧ TimersKept s t ∧ SurveyKept s t ∧ VoteKept s t ∧
      t.table = s.table ∧ t.roster = s.roster ∧ t.track = s.track ∧ t.handoff = s.handoff ∧ t.feed = s.feed ∧
      t.imaging = s.imaging ∧ t.exit = s.exit ∧ t.drive = s.drive ∧ t.recovery.epoch = s.recovery.epoch ∧
      t.recovery.report = s.recovery.report ∧ t.recovery.escalated = s.recovery.escalated ∧
      t.recovery.doorMark = s.recovery.doorMark ∧ t.recovery.driveNeed = s.recovery.driveNeed ∧
      t.recovery.pendingRevs = s.recovery.pendingRevs ∧ t.recovery.clearFlag = s.recovery.clearFlag ∧
      t.recovery.readyNext = s.recovery.readyNext := by
  unfold State.enterPlan
  dsimp only
  repeat' split
  all_goals simp

@[simp] theorem State.voteTest_frame (s : State) :
    let t := s.voteTest; OuterKept s t ∧ LinkInKept s t ∧ TimersKept s t ∧ SurveyKept s t ∧ VoteKept s t ∧
      t.table = s.table ∧ t.roster = s.roster ∧ t.track = s.track ∧ t.handoff = s.handoff ∧ t.feed = s.feed ∧
      t.imaging = s.imaging ∧ t.exit = s.exit ∧ t.drive = s.drive ∧ t.recovery.epoch = s.recovery.epoch ∧
      t.recovery.report = s.recovery.report ∧ t.recovery.escalated = s.recovery.escalated ∧
      t.recovery.doorMark = s.recovery.doorMark ∧ t.recovery.driveNeed = s.recovery.driveNeed ∧
      t.recovery.pendingRevs = s.recovery.pendingRevs ∧ t.recovery.clearFlag = s.recovery.clearFlag ∧
      t.recovery.readyNext = s.recovery.readyNext := by
  unfold State.voteTest
  dsimp only
  repeat' split
  all_goals simp

@[simp] theorem State.clearanceTests_frame (s : State) :
    let t := s.clearanceTests; OuterKept s t ∧ LinkInKept s t ∧ TimersKept s t ∧ SurveyKept s t ∧ VoteKept s t ∧
      t.table = s.table ∧ t.roster = s.roster ∧ t.track.queue = s.track.queue ∧ t.track.expected = s.track.expected ∧
      t.track.pickCandidate = s.track.pickCandidate ∧ t.track.pickTimer = s.track.pickTimer ∧
      t.track.attributing = s.track.attributing ∧ t.handoff = s.handoff ∧ t.feed = s.feed ∧ t.imaging = s.imaging ∧
      t.exit = s.exit ∧ t.drive = s.drive ∧ t.recovery.epoch = s.recovery.epoch ∧ t.recovery.report = s.recovery.report ∧
      t.recovery.escalated = s.recovery.escalated ∧ t.recovery.driveNeed = s.recovery.driveNeed := by
  unfold State.clearanceTests
  dsimp only
  repeat' split
  all_goals simp

@[simp] theorem State.enterClearance_frame (s : State) :
    let t := s.enterClearance; OuterKept s t ∧ LinkInKept s t ∧ GateKept s t ∧ SurveyKept s t ∧ VoteKept s t ∧
      FeedLinesKept s t ∧ t.table = s.table ∧ t.roster = s.roster ∧ t.track.attributing = s.track.attributing ∧
      t.handoff.offers = s.handoff.offers ∧ t.feed.retries = s.feed.retries ∧ t.imaging = s.imaging ∧ t.exit = s.exit ∧
      t.recovery.epoch = s.recovery.epoch ∧ t.recovery.driveJam = s.recovery.driveJam ∧
      t.recovery.escalated = s.recovery.escalated := by
  unfold State.enterClearance
  dsimp only
  repeat' split
  all_goals simp

@[simp] theorem State.runoutTest_frame (s : State) :
    let t := s.runoutTest; OuterKept s t ∧ LinkInKept s t ∧ SurveyKept s t ∧ VoteKept s t ∧ FeedLinesKept s t ∧
      t.table = s.table ∧ t.roster = s.roster ∧ t.track.attributing = s.track.attributing ∧ t.feed.retries = s.feed.retries ∧
      t.imaging = s.imaging ∧ t.exit = s.exit ∧ t.drive.gateHeld = s.drive.gateHeld ∧ t.recovery.epoch = s.recovery.epoch ∧
      t.recovery.driveJam = s.recovery.driveJam ∧ t.recovery.escalated = s.recovery.escalated := by
  unfold State.runoutTest
  dsimp only
  repeat' split
  all_goals simp

@[simp] theorem State.completed_frame (s : State) :
    let t := s.completed; OuterKept s t ∧ LinkInKept s t ∧ SurveyKept s t ∧ VoteKept s t ∧ FeedLinesKept s t ∧
      t.table = s.table ∧ t.roster = s.roster ∧ t.track.attributing = s.track.attributing ∧ t.feed.retries = s.feed.retries ∧
      t.imaging = s.imaging ∧ t.exit.firstPempty = s.exit.firstPempty ∧ t.drive.gateHeld = s.drive.gateHeld ∧
      t.recovery.epoch = s.recovery.epoch ∧ t.recovery.driveJam = s.recovery.driveJam ∧
      t.recovery.escalated = s.recovery.escalated := by
  unfold State.completed
  dsimp only
  repeat' split
  all_goals simp

@[simp] theorem State.setCompleted_frame (s : State) :
    let t := s.setCompleted; OuterKept s t ∧ LinkInKept s t ∧ SurveyKept s t ∧ VoteKept s t ∧ FeedLinesKept s t ∧
      t.table = s.table ∧ t.roster = s.roster ∧ t.track.attributing = s.track.attributing ∧ t.feed.retries = s.feed.retries ∧
      t.imaging = s.imaging ∧ t.exit = s.exit ∧ t.drive.gateHeld = s.drive.gateHeld ∧ t.recovery.epoch = s.recovery.epoch ∧
      t.recovery.driveJam = s.recovery.driveJam ∧ t.recovery.escalated = s.recovery.escalated := by
  unfold State.setCompleted
  dsimp only
  repeat' split
  all_goals simp

@[simp] theorem State.restoreRunout_frame (s : State) :
    let t := s.restoreRunout; OuterKept s t ∧ t.link = s.link ∧ t.table = s.table ∧ t.roster = s.roster ∧
      t.track.expected = s.track.expected ∧ t.track.strays = s.track.strays ∧ t.track.pickCandidate = s.track.pickCandidate ∧
      t.track.pickTimer = s.track.pickTimer ∧ t.track.attributing = s.track.attributing ∧ t.handoff = s.handoff ∧
      t.feed = s.feed ∧ t.imaging = s.imaging ∧ t.exit = s.exit ∧ t.drive = s.drive ∧ t.recovery = s.recovery := by
  unfold State.restoreRunout
  dsimp only
  repeat' split
  all_goals simp

@[simp] theorem State.reportCoasted_frame (s : State) :
    let t := s.reportCoasted; OuterKept s t ∧ LinkInKept s t ∧ t.table = s.table ∧ t.roster = s.roster ∧ t.track = s.track ∧
      t.handoff = s.handoff ∧ t.feed = s.feed ∧ t.imaging = s.imaging ∧ t.exit = s.exit ∧ t.drive = s.drive ∧
      t.recovery = s.recovery := by
  unfold State.reportCoasted
  dsimp only
  try split
  all_goals try (generalize List.filter _ _ = xs; induction xs generalizing s)
  all_goals simp_all

@[simp] theorem State.enterRunout_frame (s : State) :
    let t := s.enterRunout; OuterKept s t ∧ LinkInKept s t ∧ SurveyKept s t ∧ VoteKept s t ∧ FeedLinesKept s t ∧
      t.table = s.table ∧ t.roster = s.roster ∧ t.track.strays = s.track.strays ∧ t.track.attributing = s.track.attributing ∧
      t.feed.retries = s.feed.retries ∧ t.imaging = s.imaging ∧ t.exit.firstPempty = s.exit.firstPempty ∧
      t.recovery.epoch = s.recovery.epoch ∧ t.recovery.driveJam = s.recovery.driveJam ∧
      t.recovery.escalated = s.recovery.escalated ∧ t.recovery.doorMark = s.recovery.doorMark ∧
      t.recovery.pendingRevs = s.recovery.pendingRevs ∧ t.recovery.clearFlag = s.recovery.clearFlag ∧
      t.recovery.planOut = s.recovery.planOut ∧ t.recovery.readyNext = s.recovery.readyNext := by
  unfold State.enterRunout
  dsimp only
  repeat' split
  all_goals simp

@[simp] theorem State.closeSurvey_frame (s : State) :
    let t := s.closeSurvey; OuterKept s t ∧ LinkInKept s t ∧ TableTimersKept s t ∧ FeedLinesKept s t ∧
      t.table.map = s.table.map ∧ t.roster.phase = s.roster.phase ∧ t.roster.lastSerial = s.roster.lastSerial ∧
      t.roster.epoch = s.roster.epoch ∧ t.roster.planInForce = s.roster.planInForce ∧
      t.track.attributing = s.track.attributing ∧ t.feed.retries = s.feed.retries ∧ t.imaging = s.imaging ∧
      t.exit.firstPempty = s.exit.firstPempty ∧ t.recovery.epoch = s.recovery.epoch ∧
      t.recovery.driveJam = s.recovery.driveJam ∧ t.recovery.jams = s.recovery.jams ∧
      t.recovery.escalated = s.recovery.escalated ∧ t.recovery.record = s.recovery.record ∧
      t.recovery.restarted = s.recovery.restarted ∧ t.recovery.account = s.recovery.account ∧
      t.recovery.revisions = s.recovery.revisions ∧ t.recovery.mismatch = s.recovery.mismatch ∧
      t.recovery.resurvey = s.recovery.resurvey ∧ t.recovery.planIn = s.recovery.planIn := by
  unfold State.closeSurvey
  dsimp only
  repeat' split
  all_goals simp

@[simp] theorem State.strikeOut_frame (s : State) (ps : List Pos) :
    let t := s.strikeOut ps; OuterKept s t ∧ LinkInKept s t ∧ TimersKept s t ∧ SurveyKept s t ∧ VoteKept s t ∧
      TableTimersKept s t ∧ FeedLinesKept s t ∧ t.link.outOfStep = s.link.outOfStep ∧
      t.link.lostSinceHolding = s.link.lostSinceHolding ∧ t.table.map = s.table.map ∧ t.roster = s.roster ∧
      t.track = s.track ∧ t.handoff = s.handoff ∧ t.feed.pick = s.feed.pick ∧ t.feed.retries = s.feed.retries ∧
      t.imaging.passes = s.imaging.passes ∧ t.exit.purgeCount = s.exit.purgeCount ∧ t.exit.firstPempty = s.exit.firstPempty ∧
      t.recovery.epoch = s.recovery.epoch ∧ t.recovery.escalated = s.recovery.escalated ∧
      t.recovery.doorMark = s.recovery.doorMark ∧ t.recovery.driveNeed = s.recovery.driveNeed ∧
      t.recovery.pendingRevs = s.recovery.pendingRevs ∧ t.recovery.clearFlag = s.recovery.clearFlag := by
  unfold State.strikeOut
  dsimp only
  repeat' split
  all_goals simp

@[simp] theorem State.dropGone_frame (s : State) :
    let t := s.dropGone; OuterKept s t ∧ t.link = s.link ∧ t.table = s.table ∧ t.roster = s.roster ∧
      t.track.expected = s.track.expected ∧ t.track.strays = s.track.strays ∧ t.track.pickCandidate = s.track.pickCandidate ∧
      t.track.pickTimer = s.track.pickTimer ∧ t.track.attributing = s.track.attributing ∧ t.handoff = s.handoff ∧
      t.feed = s.feed ∧ t.imaging = s.imaging ∧ t.exit = s.exit ∧ t.drive = s.drive ∧ t.recovery = s.recovery := by
  unfold State.dropGone
  dsimp only
  repeat' split
  all_goals simp

@[simp] theorem State.enterResuming_frame (s : State) :
    let t := s.enterResuming; OuterKept s t ∧ LinkInKept s t ∧ SurveyKept s t ∧ VoteKept s t ∧ FeedLinesKept s t ∧
      t.table = s.table ∧ t.roster = s.roster ∧ t.track.strays = s.track.strays ∧ t.track.attributing = s.track.attributing ∧
      t.handoff.offers = s.handoff.offers ∧ t.feed.retries = s.feed.retries ∧ t.imaging = s.imaging ∧ t.exit = s.exit ∧
      t.recovery.epoch = s.recovery.epoch ∧ t.recovery.driveJam = s.recovery.driveJam ∧
      t.recovery.escalated = s.recovery.escalated ∧ t.recovery.doorMark = s.recovery.doorMark ∧
      t.recovery.driveNeed = s.recovery.driveNeed ∧ t.recovery.pendingRevs = s.recovery.pendingRevs ∧
      t.recovery.clearFlag = s.recovery.clearFlag ∧ t.recovery.planOut = s.recovery.planOut ∧
      t.recovery.readyNext = s.recovery.readyNext := by
  unfold State.enterResuming
  dsimp only
  repeat' split
  all_goals simp

@[simp] theorem State.applyFinalPlan_frame (s : State) (epoch : Epoch) (f : PlanFields) :
    let t := s.applyFinalPlan epoch f; OuterKept s t ∧ LinkInKept s t ∧ TableTimersKept s t ∧ t.table.map = s.table.map ∧
      t.roster.lastSerial = s.roster.lastSerial ∧ t.track.attributing = s.track.attributing ∧
      t.handoff.offers = s.handoff.offers ∧ t.feed.tray = s.feed.tray ∧ t.imaging = s.imaging ∧
      t.exit.firstPempty = s.exit.firstPempty ∧ t.recovery.epoch = s.recovery.epoch ∧
      t.recovery.driveJam = s.recovery.driveJam ∧ t.recovery.record = s.recovery.record ∧
      t.recovery.following = s.recovery.following ∧ t.recovery.clearanceEpoch = s.recovery.clearanceEpoch ∧
      t.recovery.resurvey = s.recovery.resurvey ∧ t.recovery.clearFlag = s.recovery.clearFlag ∧
      t.recovery.planIn = s.recovery.planIn ∧ t.recovery.planOut = s.recovery.planOut ∧
      t.recovery.readyNext = s.recovery.readyNext := by
  unfold State.applyFinalPlan
  dsimp only
  repeat' split
  all_goals simp

@[simp] theorem State.restart_frame (s : State) (e : Epoch) :
    let t := s.restart e; OuterKept s t ∧ LinkInKept s t ∧ MotorKept s t ∧ VoteKept s t ∧ t.roster = s.roster ∧
      t.track = s.track ∧ t.handoff = s.handoff ∧ t.feed = s.feed ∧ t.imaging = s.imaging ∧ t.exit = s.exit ∧
      t.drive.gate = s.drive.gate ∧ t.drive.div1 = s.drive.div1 ∧ t.drive.div2 = s.drive.div2 ∧
      t.recovery.survey = s.recovery.survey ∧ t.recovery.report = s.recovery.report ∧ t.recovery.jams = s.recovery.jams ∧
      t.recovery.escalated = s.recovery.escalated ∧ t.recovery.record = s.recovery.record ∧
      t.recovery.doorMark = s.recovery.doorMark ∧ t.recovery.driveNeed = s.recovery.driveNeed ∧
      t.recovery.fates = s.recovery.fates ∧ t.recovery.account = s.recovery.account ∧
      t.recovery.pendingRevs = s.recovery.pendingRevs ∧ t.recovery.clearFlag = s.recovery.clearFlag ∧
      t.recovery.planOut = s.recovery.planOut ∧ t.recovery.readyNext = s.recovery.readyNext := by
  unfold State.restart
  dsimp only
  repeat' split
  all_goals simp

/-! ### ResetEvents -/

@[simp] theorem State.enterSilent_frame (s : State) (crc : Crc) :
    let t := s.enterSilent crc; LinkInKept s t ∧ TimersKept s t ∧ SurveyKept s t ∧ VoteKept s t ∧ FeedLinesKept s t ∧
      t.pending = s.pending ∧ t.profile = s.profile ∧ t.inputs = s.inputs ∧ t.link.outOfStep = s.link.outOfStep ∧
      t.link.lostSinceHolding = s.link.lostSinceHolding ∧ t.table = s.table ∧ t.roster = s.roster ∧ t.track = s.track ∧
      t.handoff = s.handoff ∧ t.feed.pick = s.feed.pick ∧ t.feed.retries = s.feed.retries ∧
      t.imaging.passes = s.imaging.passes ∧ t.exit.purgeCount = s.exit.purgeCount ∧ t.exit.firstPempty = s.exit.firstPempty ∧
      t.recovery.epoch = s.recovery.epoch ∧ t.recovery.escalated = s.recovery.escalated ∧
      t.recovery.doorMark = s.recovery.doorMark ∧ t.recovery.driveNeed = s.recovery.driveNeed ∧
      t.recovery.pendingRevs = s.recovery.pendingRevs ∧ t.recovery.clearFlag = s.recovery.clearFlag := by
  unfold State.enterSilent
  dsimp only
  repeat' split
  all_goals simp

@[simp] theorem State.takePurgeCount_frame (s : State) :
    let t := s.takePurgeCount; OuterKept s t ∧ t.link = s.link ∧ t.table = s.table ∧ t.roster = s.roster ∧
      t.track = s.track ∧ t.handoff = s.handoff ∧ t.feed = s.feed ∧ t.imaging = s.imaging ∧ t.exit.bins = s.exit.bins ∧
      t.exit.firstPempty = s.exit.firstPempty ∧ t.drive = s.drive ∧ t.recovery = s.recovery := by
  unfold State.takePurgeCount
  dsimp only
  repeat' split
  all_goals simp

@[simp] theorem State.enterListen_frame (s : State) (p : Profile) (crc : Crc) :
    let t := s.enterListen p crc; MotorKept s t ∧ GateKept s t ∧ TimersKept s t ∧ SurveyKept s t ∧ VoteKept s t ∧
      t.pending = s.pending ∧ t.inputs = s.inputs ∧ t.link.slot = s.link.slot ∧ t.link.queue = s.link.queue ∧
      t.link.backoff = s.link.backoff ∧ t.link.outOfStep = s.link.outOfStep ∧
      t.link.lostSinceHolding = s.link.lostSinceHolding ∧ t.link.lineLow = s.link.lineLow ∧
      t.table.entries = s.table.entries ∧ t.table.map = s.table.map ∧ t.table.unfit = s.table.unfit ∧
      t.table.rollCall = s.table.rollCall ∧ t.table.joinDelay = s.table.joinDelay ∧ t.table.presence = s.table.presence ∧
      t.roster = s.roster ∧ t.track = s.track ∧ t.handoff.deferred = s.handoff.deferred ∧ t.feed.pick = s.feed.pick ∧
      t.feed.crossing = s.feed.crossing ∧ t.feed.pickOut = s.feed.pickOut ∧ t.imaging = s.imaging ∧
      t.exit.bins = s.exit.bins ∧ t.exit.firstPempty = s.exit.firstPempty ∧ t.recovery.epoch = s.recovery.epoch ∧
      t.recovery.report = s.recovery.report ∧ t.recovery.escalated = s.recovery.escalated ∧
      t.recovery.doorMark = s.recovery.doorMark ∧ t.recovery.driveNeed = s.recovery.driveNeed ∧
      t.recovery.pendingRevs = s.recovery.pendingRevs ∧ t.recovery.clearFlag = s.recovery.clearFlag ∧
      t.recovery.planOut = s.recovery.planOut ∧ t.recovery.readyNext = s.recovery.readyNext := by
  unfold State.enterListen
  dsimp only
  repeat' split
  all_goals simp

@[simp] theorem State.takeTray_frame (s : State) :
    let t := s.takeTray; OuterKept s t ∧ t.link = s.link ∧ t.table = s.table ∧ t.roster = s.roster ∧ t.track = s.track ∧
      t.handoff = s.handoff ∧ t.feed.pick = s.feed.pick ∧ t.feed.retries = s.feed.retries ∧
      t.feed.crossing = s.feed.crossing ∧ t.feed.pickOut = s.feed.pickOut ∧ t.imaging = s.imaging ∧ t.exit = s.exit ∧
      t.drive = s.drive ∧ t.recovery = s.recovery := by
  unfold State.takeTray
  dsimp only
  repeat' split
  all_goals simp

@[simp] theorem State.takePempty_frame (s : State) :
    let t := s.takePempty; OuterKept s t ∧ t.link = s.link ∧ t.table = s.table ∧ t.roster = s.roster ∧ t.track = s.track ∧
      t.handoff = s.handoff ∧ t.feed = s.feed ∧ t.imaging = s.imaging ∧ t.exit.bins = s.exit.bins ∧ t.drive = s.drive ∧
      t.recovery = s.recovery := by
  unfold State.takePempty
  dsimp only
  repeat' split
  all_goals simp

end Sys2Proof.Machine
end

