-- ==== Sys2Proof/Laws/Events.lean ====
section
/-! SUPPORT. What the operations behind the commands leave unchanged. -/

namespace Sys2Proof.Machine

/-! ### InputEvents -/

@[simp] theorem State.offerCover_frame (s : State) (k : Nat) :
    let t := s.offerCover k; OuterKept s t ∧ LinkInKept s t ∧ MotorKept s t ∧ GateKept s t ∧ t.table = s.table ∧
      t.roster = s.roster ∧ t.track.expected = s.track.expected ∧ t.track.strays = s.track.strays ∧
      t.track.pickCandidate = s.track.pickCandidate ∧ t.track.pickTimer = s.track.pickTimer ∧
      t.track.attributing = s.track.attributing ∧ t.handoff.deferred = s.handoff.deferred ∧ t.feed = s.feed ∧
      t.imaging = s.imaging ∧ t.exit = s.exit ∧ t.recovery = s.recovery := by
  unfold State.offerCover
  dsimp only
  repeat' split
  all_goals simp

@[simp] theorem State.arrivalReport_frame (s : State) (e : Entry) :
    let t := s.arrivalReport e; OuterKept s t ∧ LinkInKept s t ∧ t.table = s.table ∧ t.roster = s.roster ∧
      t.track = s.track ∧ t.handoff = s.handoff ∧ t.feed = s.feed ∧ t.imaging = s.imaging ∧ t.exit = s.exit ∧
      t.drive = s.drive ∧ t.recovery = s.recovery := by
  unfold State.arrivalReport
  dsimp only
  repeat' split
  all_goals simp

@[simp] theorem State.coverSensor1_frame (s : State) :
    let t := s.coverSensor1; OuterKept s t ∧ LinkInKept s t ∧ SurveyKept s t ∧ VoteKept s t ∧ FeedLinesKept s t ∧
      t.table = s.table ∧ t.roster = s.roster ∧ t.track.attributing = s.track.attributing ∧
      t.exit.firstPempty = s.exit.firstPempty ∧ t.drive.gateHeld = s.drive.gateHeld ∧ t.recovery.epoch = s.recovery.epoch ∧
      t.recovery.driveJam = s.recovery.driveJam ∧ t.recovery.escalated = s.recovery.escalated ∧
      t.recovery.doorMark = s.recovery.doorMark ∧ t.recovery.pendingRevs = s.recovery.pendingRevs ∧
      t.recovery.clearFlag = s.recovery.clearFlag ∧ t.recovery.planOut = s.recovery.planOut ∧
      t.recovery.readyNext = s.recovery.readyNext := by
  unfold State.coverSensor1
  dsimp only
  repeat' split
  · simp
  · rename_i h
    have := State.coverFirst_frame _ _ _ h
    simp_all
  · simp

@[simp] theorem State.coverSensorK_frame (s : State) (k : Nat) :
    let t := s.coverSensorK k; OuterKept s t ∧ LinkInKept s t ∧ MotorKept s t ∧ GateKept s t ∧ t.table = s.table ∧
      t.roster = s.roster ∧ t.track.expected = s.track.expected ∧ t.track.pickCandidate = s.track.pickCandidate ∧
      t.track.pickTimer = s.track.pickTimer ∧ t.track.attributing = s.track.attributing ∧
      t.handoff.deferred = s.handoff.deferred ∧ t.feed = s.feed ∧ t.exit = s.exit ∧ t.recovery = s.recovery := by
  unfold State.coverSensorK
  dsimp only
  repeat' split
  all_goals simp

@[simp] theorem State.departure_frame (s : State) (x : Serial) :
    let t := s.departure x; OuterKept s t ∧ LinkInKept s t ∧ MotorKept s t ∧ GateKept s t ∧ t.table = s.table ∧
      t.roster = s.roster ∧ t.track.expected = s.track.expected ∧ t.track.strays = s.track.strays ∧
      t.track.pickCandidate = s.track.pickCandidate ∧ t.track.pickTimer = s.track.pickTimer ∧
      t.track.attributing = s.track.attributing ∧ t.handoff.deferred = s.handoff.deferred ∧ t.feed = s.feed ∧
      t.imaging = s.imaging ∧ t.exit.firstPempty = s.exit.firstPempty ∧ t.recovery = s.recovery := by
  unfold State.departure
  dsimp only
  repeat' split
  all_goals simp

@[simp] theorem State.uncoverSensor_frame (s : State) (k : Nat) :
    let t := s.uncoverSensor k; OuterKept s t ∧ LinkInKept s t ∧ SurveyKept s t ∧ VoteKept s t ∧ FeedLinesKept s t ∧
      t.table = s.table ∧ t.roster = s.roster ∧ t.track.strays = s.track.strays ∧ t.track.attributing = s.track.attributing ∧
      t.imaging = s.imaging ∧ t.exit.firstPempty = s.exit.firstPempty ∧ t.drive.gateHeld = s.drive.gateHeld ∧
      t.recovery.epoch = s.recovery.epoch ∧ t.recovery.driveJam = s.recovery.driveJam ∧
      t.recovery.escalated = s.recovery.escalated ∧ t.recovery.doorMark = s.recovery.doorMark ∧
      t.recovery.pendingRevs = s.recovery.pendingRevs ∧ t.recovery.clearFlag = s.recovery.clearFlag ∧
      t.recovery.planOut = s.recovery.planOut ∧ t.recovery.readyNext = s.recovery.readyNext := by
  unfold State.uncoverSensor
  dsimp only
  repeat' split
  all_goals simp

@[simp] theorem State.throatCleared_frame (s : State) (k : Nat) :
    let t := s.throatCleared k; OuterKept s t ∧ FeedLinesKept s t ∧ t.link = s.link ∧ t.table = s.table ∧
      t.roster = s.roster ∧ t.track.queue = s.track.queue ∧ t.track.expected = s.track.expected ∧
      t.track.strays = s.track.strays ∧ t.track.attributing = s.track.attributing ∧ t.handoff = s.handoff ∧
      t.imaging = s.imaging ∧ t.exit = s.exit ∧ t.drive = s.drive ∧ t.recovery = s.recovery := by
  unfold State.throatCleared
  dsimp only
  repeat' split
  all_goals simp

@[simp] theorem State.drdyRisen_frame (s : State) :
    let t := s.drdyRisen; OuterKept s t ∧ LinkInKept s t ∧ GateKept s t ∧ TimersKept s t ∧ SurveyKept s t ∧ VoteKept s t ∧
      t.table.entries = s.table.entries ∧ t.table.map = s.table.map ∧ t.table.unfit = s.table.unfit ∧
      t.table.listen = s.table.listen ∧ t.table.rollCall = s.table.rollCall ∧ t.table.joinDelay = s.table.joinDelay ∧
      t.roster = s.roster ∧ t.feed.tray = s.feed.tray ∧ t.imaging = s.imaging ∧ t.exit.purgeCount = s.exit.purgeCount ∧
      t.exit.firstPempty = s.exit.firstPempty ∧ t.drive.halt = s.drive.halt ∧ t.drive.fresh = s.drive.fresh ∧
      t.recovery.epoch = s.recovery.epoch ∧ t.recovery.report = s.recovery.report ∧
      t.recovery.escalated = s.recovery.escalated ∧ t.recovery.doorMark = s.recovery.doorMark ∧
      t.recovery.driveNeed = s.recovery.driveNeed ∧ t.recovery.pendingRevs = s.recovery.pendingRevs ∧
      t.recovery.clearFlag = s.recovery.clearFlag ∧ t.recovery.planOut = s.recovery.planOut ∧
      t.recovery.readyNext = s.recovery.readyNext := by
  unfold State.drdyRisen
  dsimp only
  repeat' split
  all_goals simp

@[simp] theorem State.drdyFallen_frame (s : State) :
    let t := s.drdyFallen; OuterKept s t ∧ LinkInKept s t ∧ GateKept s t ∧ SurveyKept s t ∧ VoteKept s t ∧
      FeedLinesKept s t ∧ t.table = s.table ∧ t.roster = s.roster ∧ t.track.strays = s.track.strays ∧
      t.track.attributing = s.track.attributing ∧ t.handoff.offers = s.handoff.offers ∧ t.feed.retries = s.feed.retries ∧
      t.imaging = s.imaging ∧ t.exit = s.exit ∧ t.recovery.epoch = s.recovery.epoch ∧
      t.recovery.escalated = s.recovery.escalated ∧ t.recovery.doorMark = s.recovery.doorMark ∧
      t.recovery.driveNeed = s.recovery.driveNeed ∧ t.recovery.pendingRevs = s.recovery.pendingRevs ∧
      t.recovery.clearFlag = s.recovery.clearFlag ∧ t.recovery.planOut = s.recovery.planOut ∧
      t.recovery.readyNext = s.recovery.readyNext := by
  unfold State.drdyFallen
  dsimp only
  repeat' split
  all_goals simp

@[simp] theorem State.doorOpened_frame (s : State) :
    let t := s.doorOpened; OuterKept s t ∧ LinkInKept s t ∧ GateKept s t ∧ SurveyKept s t ∧ VoteKept s t ∧
      FeedLinesKept s t ∧ t.table = s.table ∧ t.roster = s.roster ∧ t.track.strays = s.track.strays ∧
      t.track.attributing = s.track.attributing ∧ t.handoff.offers = s.handoff.offers ∧ t.feed.retries = s.feed.retries ∧
      t.imaging = s.imaging ∧ t.exit = s.exit ∧ t.recovery.epoch = s.recovery.epoch ∧
      t.recovery.driveJam = s.recovery.driveJam ∧ t.recovery.escalated = s.recovery.escalated ∧
      t.recovery.doorMark = s.recovery.doorMark ∧ t.recovery.driveNeed = s.recovery.driveNeed ∧
      t.recovery.pendingRevs = s.recovery.pendingRevs ∧ t.recovery.planOut = s.recovery.planOut := by
  unfold State.doorOpened
  dsimp only
  repeat' split
  all_goals simp

@[simp] theorem State.doorClosed_frame (s : State) :
    let t := s.doorClosed; OuterKept s t ∧ LinkInKept s t ∧ GateKept s t ∧ SurveyKept s t ∧ VoteKept s t ∧
      FeedLinesKept s t ∧ t.table = s.table ∧ t.roster = s.roster ∧ t.track.attributing = s.track.attributing ∧
      t.handoff.offers = s.handoff.offers ∧ t.feed.retries = s.feed.retries ∧ t.imaging = s.imaging ∧ t.exit = s.exit ∧
      t.recovery.epoch = s.recovery.epoch ∧ t.recovery.driveJam = s.recovery.driveJam ∧
      t.recovery.escalated = s.recovery.escalated ∧ t.recovery.driveNeed = s.recovery.driveNeed ∧
      t.recovery.planOut = s.recovery.planOut := by
  unfold State.doorClosed
  dsimp only
  repeat' split
  all_goals simp

@[simp] theorem State.trayChanged_frame (s : State) :
    let t := s.trayChanged; OuterKept s t ∧ LinkInKept s t ∧ t.table = s.table ∧ t.roster = s.roster ∧
      t.track.queue = s.track.queue ∧ t.track.expected = s.track.expected ∧ t.track.strays = s.track.strays ∧
      t.track.attributing = s.track.attributing ∧ t.handoff = s.handoff ∧ t.feed.crossing = s.feed.crossing ∧
      t.imaging = s.imaging ∧ t.exit = s.exit ∧ t.drive = s.drive ∧ t.recovery = s.recovery := by
  unfold State.trayChanged
  dsimp only
  repeat' split
  all_goals simp

@[simp] theorem State.finisherDone_frame (s : State) (n : Nat) :
    let t := s.finisherDone n; OuterKept s t ∧ LinkInKept s t ∧ MotorKept s t ∧ GateKept s t ∧ t.table = s.table ∧
      t.roster = s.roster ∧ t.track.queue = s.track.queue ∧ t.track.strays = s.track.strays ∧
      t.track.pickCandidate = s.track.pickCandidate ∧ t.track.pickTimer = s.track.pickTimer ∧
      t.track.attributing = s.track.attributing ∧ t.handoff.offers = s.handoff.offers ∧ t.feed = s.feed ∧
      t.imaging = s.imaging ∧ t.exit.purgeCount = s.exit.purgeCount ∧ t.exit.firstPempty = s.exit.firstPempty ∧
      t.recovery = s.recovery := by
  unfold State.finisherDone
  dsimp only
  repeat' split
  all_goals simp

@[simp] theorem State.trayFallen_frame (s : State) (n : Nat) :
    let t := s.trayFallen n; OuterKept s t ∧ LinkInKept s t ∧ MotorKept s t ∧ GateKept s t ∧ TimersKept s t ∧
      SurveyKept s t ∧ VoteKept s t ∧ t.table = s.table ∧ t.roster = s.roster ∧ t.track.queue = s.track.queue ∧
      t.track.strays = s.track.strays ∧ t.track.pickCandidate = s.track.pickCandidate ∧
      t.track.pickTimer = s.track.pickTimer ∧ t.track.attributing = s.track.attributing ∧
      t.handoff.offers = s.handoff.offers ∧ t.feed = s.feed ∧ t.imaging = s.imaging ∧
      t.exit.firstPempty = s.exit.firstPempty ∧ t.recovery.path = s.recovery.path ∧ t.recovery.epoch = s.recovery.epoch ∧
      t.recovery.report = s.recovery.report ∧ t.recovery.escalated = s.recovery.escalated ∧
      t.recovery.doorMark = s.recovery.doorMark ∧ t.recovery.driveNeed = s.recovery.driveNeed ∧
      t.recovery.pendingRevs = s.recovery.pendingRevs ∧ t.recovery.planOut = s.recovery.planOut := by
  unfold State.trayFallen
  dsimp only
  repeat' split
  all_goals simp

@[simp] theorem State.purgeEmptied_frame (s : State) :
    let t := s.purgeEmptied; OuterKept s t ∧ t.link = s.link ∧ t.table = s.table ∧ t.roster = s.roster ∧ t.track = s.track ∧
      t.handoff = s.handoff ∧ t.feed = s.feed ∧ t.imaging = s.imaging ∧ t.exit.bins = s.exit.bins ∧
      t.exit.firstPempty = s.exit.firstPempty ∧ t.drive = s.drive ∧ t.recovery = s.recovery := by
  unfold State.purgeEmptied
  dsimp only
  repeat' split
  all_goals simp

/-! ### LineEvents -/

@[simp] theorem State.fallen_frame (s : State) :
    let t := s.fallen; OuterKept s t ∧ LinkInKept s t ∧ SurveyKept s t ∧ VoteKept s t ∧ TableTimersKept s t ∧
      FeedLinesKept s t ∧ t.table.map = s.table.map ∧ t.roster = s.roster ∧ t.track.strays = s.track.strays ∧
      t.track.attributing = s.track.attributing ∧ t.feed.retries = s.feed.retries ∧ t.imaging = s.imaging ∧
      t.exit.purgeCount = s.exit.purgeCount ∧ t.exit.firstPempty = s.exit.firstPempty ∧ t.drive.gate = s.drive.gate ∧
      t.recovery.escalated = s.recovery.escalated ∧ t.recovery.doorMark = s.recovery.doorMark ∧
      t.recovery.driveNeed = s.recovery.driveNeed ∧ t.recovery.pendingRevs = s.recovery.pendingRevs ∧
      t.recovery.clearFlag = s.recovery.clearFlag := by
  unfold State.fallen
  dsimp only
  repeat' split
  all_goals simp

@[simp] theorem State.risen_frame (s : State) :
    let t := s.risen; OuterKept s t ∧ LinkInKept s t ∧ GateKept s t ∧ SurveyKept s t ∧ VoteKept s t ∧ FeedLinesKept s t ∧
      t.table = s.table ∧ t.roster = s.roster ∧ t.track.strays = s.track.strays ∧ t.track.attributing = s.track.attributing ∧
      t.handoff.offers = s.handoff.offers ∧ t.feed.retries = s.feed.retries ∧ t.imaging = s.imaging ∧ t.exit = s.exit ∧
      t.recovery.epoch = s.recovery.epoch ∧ t.recovery.driveJam = s.recovery.driveJam ∧
      t.recovery.escalated = s.recovery.escalated ∧ t.recovery.doorMark = s.recovery.doorMark ∧
      t.recovery.driveNeed = s.recovery.driveNeed ∧ t.recovery.pendingRevs = s.recovery.pendingRevs ∧
      t.recovery.planOut = s.recovery.planOut := by
  unfold State.risen
  dsimp only
  repeat' split
  all_goals simp

/-! ### LinkEvents -/

@[simp] theorem State.linkBusy_frame (s : State) :
    let t := s.linkBusy; OuterKept s t ∧ t.link = s.link ∧ t.table.entries = s.table.entries ∧ t.table.map = s.table.map ∧
      t.table.unfit = s.table.unfit ∧ t.table.rollCall = s.table.rollCall ∧ t.table.joinDelay = s.table.joinDelay ∧
      t.table.presence = s.table.presence ∧ t.roster = s.roster ∧ t.track = s.track ∧ t.handoff = s.handoff ∧
      t.feed = s.feed ∧ t.imaging = s.imaging ∧ t.exit = s.exit ∧ t.drive = s.drive ∧ t.recovery = s.recovery := by
  unfold State.linkBusy
  dsimp only
  repeat' split
  all_goals simp

@[simp] theorem State.transmit_frame (s : State) (f : TxFrame → TxFrame) :
    let t := s.transmit f; OuterKept s t ∧ t.link.rx = s.link.rx ∧ t.link.outOfStep = s.link.outOfStep ∧
      t.link.lostSinceHolding = s.link.lostSinceHolding ∧ t.link.lineLow = s.link.lineLow ∧
      t.table.entries = s.table.entries ∧ t.table.map = s.table.map ∧ t.table.unfit = s.table.unfit ∧
      t.table.rollCall = s.table.rollCall ∧ t.table.joinDelay = s.table.joinDelay ∧ t.table.presence = s.table.presence ∧
      t.roster = s.roster ∧ t.track = s.track ∧ t.handoff = s.handoff ∧ t.feed = s.feed ∧ t.imaging = s.imaging ∧
      t.exit = s.exit ∧ t.drive = s.drive ∧ t.recovery = s.recovery := by
  unfold State.transmit
  dsimp only
  repeat' split
  all_goals simp

@[simp] theorem State.attempt_frame (s : State) (f : TxFrame) :
    let t := s.attempt f; OuterKept s t ∧ t.link.rx = s.link.rx ∧ t.link.outOfStep = s.link.outOfStep ∧
      t.link.lostSinceHolding = s.link.lostSinceHolding ∧ t.link.lineLow = s.link.lineLow ∧
      t.table.entries = s.table.entries ∧ t.table.map = s.table.map ∧ t.table.unfit = s.table.unfit ∧
      t.table.rollCall = s.table.rollCall ∧ t.table.joinDelay = s.table.joinDelay ∧ t.table.presence = s.table.presence ∧
      t.roster = s.roster ∧ t.track = s.track ∧ t.handoff = s.handoff ∧ t.feed = s.feed ∧ t.imaging = s.imaging ∧
      t.exit = s.exit ∧ t.drive = s.drive ∧ t.recovery = s.recovery := by
  unfold State.attempt
  dsimp only
  repeat' split
  all_goals simp

@[simp] theorem State.removeSending_frame (s : State) :
    let t := s.removeSending; OuterKept s t ∧ LinkInKept s t ∧ t.link.outOfStep = s.link.outOfStep ∧
      t.link.lostSinceHolding = s.link.lostSinceHolding ∧ t.table = s.table ∧ t.roster = s.roster ∧ t.track = s.track ∧
      t.handoff = s.handoff ∧ t.feed = s.feed ∧ t.imaging = s.imaging ∧ t.exit = s.exit ∧ t.drive = s.drive ∧
      t.recovery = s.recovery := by
  unfold State.removeSending
  dsimp only
  repeat' split
  all_goals simp

@[simp] theorem State.countCollision_frame (s : State) :
    let t := s.countCollision; OuterKept s t ∧ LinkInKept s t ∧ t.link.outOfStep = s.link.outOfStep ∧
      t.link.lostSinceHolding = s.link.lostSinceHolding ∧ t.table = s.table ∧ t.roster = s.roster ∧ t.track = s.track ∧
      t.handoff = s.handoff ∧ t.feed = s.feed ∧ t.imaging = s.imaging ∧ t.exit = s.exit ∧ t.drive = s.drive ∧
      t.recovery = s.recovery := by
  unfold State.countCollision
  dsimp only
  repeat' split
  all_goals simp

@[simp] theorem State.abandoned_frame (s : State) (f : TxFrame) :
    let t := s.abandoned f; OuterKept s t ∧ LinkInKept s t ∧ t.table = s.table ∧ t.roster = s.roster ∧ t.track = s.track ∧
      t.handoff = s.handoff ∧ t.feed = s.feed ∧ t.imaging.isync = s.imaging.isync ∧ t.exit = s.exit ∧ t.drive = s.drive ∧
      t.recovery = s.recovery := by
  unfold State.abandoned
  dsimp only
  repeat' split
  all_goals simp

@[simp] theorem State.nextReady_frame (s : State) :
    let t := s.nextReady; OuterKept s t ∧ LinkInKept s t ∧ TimersKept s t ∧ SurveyKept s t ∧ VoteKept s t ∧
      t.table = s.table ∧ t.roster = s.roster ∧ t.track = s.track ∧ t.handoff = s.handoff ∧ t.feed = s.feed ∧
      t.imaging = s.imaging ∧ t.exit = s.exit ∧ t.drive = s.drive ∧ t.recovery.path = s.recovery.path ∧
      t.recovery.epoch = s.recovery.epoch ∧ t.recovery.report = s.recovery.report ∧
      t.recovery.escalated = s.recovery.escalated ∧ t.recovery.doorMark = s.recovery.doorMark ∧
      t.recovery.driveNeed = s.recovery.driveNeed ∧ t.recovery.pendingRevs = s.recovery.pendingRevs ∧
      t.recovery.clearFlag = s.recovery.clearFlag ∧ t.recovery.planOut = s.recovery.planOut := by
  unfold State.nextReady
  dsimp only
  repeat' split
  all_goals simp

@[simp] theorem State.collide_frame (s : State) (f : TxFrame) :
    let t := s.collide f; OuterKept s t ∧ TimersKept s t ∧ SurveyKept s t ∧ VoteKept s t ∧ t.link.rx = s.link.rx ∧
      t.link.lineLow = s.link.lineLow ∧ t.table.entries = s.table.entries ∧ t.table.map = s.table.map ∧
      t.table.unfit = s.table.unfit ∧ t.table.rollCall = s.table.rollCall ∧ t.table.joinDelay = s.table.joinDelay ∧
      t.table.presence = s.table.presence ∧ t.roster = s.roster ∧ t.track = s.track ∧ t.handoff = s.handoff ∧
      t.feed = s.feed ∧ t.imaging.isync = s.imaging.isync ∧ t.exit = s.exit ∧ t.drive = s.drive ∧
      t.recovery.path = s.recovery.path ∧ t.recovery.epoch = s.recovery.epoch ∧ t.recovery.report = s.recovery.report ∧
      t.recovery.escalated = s.recovery.escalated ∧ t.recovery.doorMark = s.recovery.doorMark ∧
      t.recovery.driveNeed = s.recovery.driveNeed ∧ t.recovery.pendingRevs = s.recovery.pendingRevs ∧
      t.recovery.clearFlag = s.recovery.clearFlag ∧ t.recovery.planOut = s.recovery.planOut := by
  unfold State.collide
  dsimp only
  repeat' split
  all_goals simp

@[simp] theorem State.takeIn_frame (s : State) (f : RxFrame) :
    let t := s.takeIn f; OuterKept s t ∧ t.link.backoff = s.link.backoff ∧ t.link.lineLow = s.link.lineLow ∧
      t.table = s.table ∧ t.roster = s.roster ∧ t.track = s.track ∧ t.handoff = s.handoff ∧ t.feed = s.feed ∧
      t.imaging = s.imaging ∧ t.exit = s.exit ∧ t.drive = s.drive ∧ t.recovery = s.recovery := by
  unfold State.takeIn
  dsimp only
  repeat' split
  all_goals simp

@[simp] theorem State.ownCompleted_frame (s : State) (p : Payload) :
    let t := s.ownCompleted p; OuterKept s t ∧ t.link = s.link ∧ t.table.entries = s.table.entries ∧
      t.table.map = s.table.map ∧ t.table.unfit = s.table.unfit ∧ t.table.listen = s.table.listen ∧
      t.table.rollCall = s.table.rollCall ∧ t.table.joinDelay = s.table.joinDelay ∧ t.roster = s.roster ∧
      t.track.queue = s.track.queue ∧ t.track.strays = s.track.strays ∧ t.track.pickCandidate = s.track.pickCandidate ∧
      t.track.pickTimer = s.track.pickTimer ∧ t.track.attributing = s.track.attributing ∧
      t.handoff.deferred = s.handoff.deferred ∧ t.feed = s.feed ∧ t.imaging = s.imaging ∧ t.exit = s.exit ∧
      t.drive = s.drive ∧ t.recovery = s.recovery := by
  unfold State.ownCompleted
  dsimp only
  repeat' split
  all_goals simp

@[simp] theorem State.continueAfter_frame (s : State) (f : TxFrame) :
    let t := s.continueAfter f; OuterKept s t ∧ LinkInKept s t ∧ TimersKept s t ∧ SurveyKept s t ∧ VoteKept s t ∧
      t.table = s.table ∧ t.roster = s.roster ∧ t.track = s.track ∧ t.handoff = s.handoff ∧ t.feed = s.feed ∧
      t.imaging = s.imaging ∧ t.exit = s.exit ∧ t.drive = s.drive ∧ t.recovery.path = s.recovery.path ∧
      t.recovery.epoch = s.recovery.epoch ∧ t.recovery.escalated = s.recovery.escalated ∧
      t.recovery.doorMark = s.recovery.doorMark ∧ t.recovery.driveNeed = s.recovery.driveNeed ∧
      t.recovery.pendingRevs = s.recovery.pendingRevs ∧ t.recovery.clearFlag = s.recovery.clearFlag := by
  unfold State.continueAfter
  dsimp only
  repeat' split
  all_goals simp

@[simp] theorem State.completeOwn_frame (s : State) (f : TxFrame) :
    let t := s.completeOwn f; OuterKept s t ∧ TimersKept s t ∧ SurveyKept s t ∧ VoteKept s t ∧
      t.link.backoff = s.link.backoff ∧ t.link.lineLow = s.link.lineLow ∧ t.table.entries = s.table.entries ∧
      t.table.map = s.table.map ∧ t.table.unfit = s.table.unfit ∧ t.table.rollCall = s.table.rollCall ∧
      t.table.joinDelay = s.table.joinDelay ∧ t.roster = s.roster ∧ t.track.queue = s.track.queue ∧
      t.track.strays = s.track.strays ∧ t.track.pickCandidate = s.track.pickCandidate ∧
      t.track.pickTimer = s.track.pickTimer ∧ t.track.attributing = s.track.attributing ∧
      t.handoff.deferred = s.handoff.deferred ∧ t.feed = s.feed ∧ t.imaging = s.imaging ∧ t.exit = s.exit ∧
      t.drive = s.drive ∧ t.recovery.path = s.recovery.path ∧ t.recovery.epoch = s.recovery.epoch ∧
      t.recovery.escalated = s.recovery.escalated ∧ t.recovery.doorMark = s.recovery.doorMark ∧
      t.recovery.driveNeed = s.recovery.driveNeed ∧ t.recovery.pendingRevs = s.recovery.pendingRevs ∧
      t.recovery.clearFlag = s.recovery.clearFlag := by
  unfold State.completeOwn
  dsimp only
  repeat' split
  all_goals simp

@[simp] theorem State.heardFrom_frame (s : State) (p : Pos) :
    let t := s.heardFrom p; OuterKept s t ∧ TableTimersKept s t ∧ t.link = s.link ∧ t.table.map = s.table.map ∧
      t.roster = s.roster ∧ t.track = s.track ∧ t.handoff = s.handoff ∧ t.feed = s.feed ∧ t.imaging = s.imaging ∧
      t.exit = s.exit ∧ t.drive = s.drive ∧ t.recovery = s.recovery := by
  unfold State.heardFrom
  dsimp only
  repeat' split
  all_goals simp

@[simp] theorem State.completeOther_frame (s : State) (w : WireFrame) :
    let t := s.completeOther w; OuterKept s t ∧ t.link.backoff = s.link.backoff ∧ t.link.lineLow = s.link.lineLow ∧
      t.table.map = s.table.map ∧ t.table.unfit = s.table.unfit ∧ t.table.rollCall = s.table.rollCall ∧
      t.table.joinDelay = s.table.joinDelay ∧ t.table.presence = s.table.presence ∧ t.roster = s.roster ∧ t.track = s.track ∧
      t.handoff = s.handoff ∧ t.feed = s.feed ∧ t.imaging = s.imaging ∧ t.exit = s.exit ∧ t.drive = s.drive ∧
      t.recovery = s.recovery := by
  unfold State.completeOther
  dsimp only
  repeat' split
  all_goals simp

/-! ### FormingReceipts -/

@[simp] theorem State.formingReceipt_frame (s : State) (f : RxFrame) :
    let t := s.formingReceipt f; OuterKept s t ∧ LinkInKept s t ∧ MotorKept s t ∧ VoteKept s t ∧ t.roster = s.roster ∧
      t.track = s.track ∧ t.handoff = s.handoff ∧ t.feed = s.feed ∧ t.imaging = s.imaging ∧ t.exit = s.exit ∧
      t.drive.gate = s.drive.gate ∧ t.drive.div1 = s.drive.div1 ∧ t.drive.div2 = s.drive.div2 ∧
      t.recovery.survey = s.recovery.survey ∧ t.recovery.report = s.recovery.report ∧ t.recovery.jams = s.recovery.jams ∧
      t.recovery.escalated = s.recovery.escalated ∧ t.recovery.record = s.recovery.record ∧
      t.recovery.doorMark = s.recovery.doorMark ∧ t.recovery.driveNeed = s.recovery.driveNeed ∧
      t.recovery.fates = s.recovery.fates ∧ t.recovery.account = s.recovery.account ∧
      t.recovery.pendingRevs = s.recovery.pendingRevs ∧ t.recovery.clearFlag = s.recovery.clearFlag ∧
      t.recovery.planOut = s.recovery.planOut ∧ t.recovery.readyNext = s.recovery.readyNext := by
  unfold State.formingReceipt
  dsimp only
  repeat' split
  all_goals simp

@[simp] theorem State.enterRollCall_frame (s : State) :
    let t := s.enterRollCall; OuterKept s t ∧ TimersKept s t ∧ SurveyKept s t ∧ VoteKept s t ∧ t.link = s.link ∧
      t.table.entries = s.table.entries ∧ t.table.map = s.table.map ∧ t.table.unfit = s.table.unfit ∧
      t.table.presence = s.table.presence ∧ t.roster = s.roster ∧ t.track = s.track ∧ t.handoff = s.handoff ∧
      t.feed = s.feed ∧ t.imaging = s.imaging ∧ t.exit = s.exit ∧ t.drive = s.drive ∧ t.recovery.epoch = s.recovery.epoch ∧
      t.recovery.report = s.recovery.report ∧ t.recovery.escalated = s.recovery.escalated ∧
      t.recovery.doorMark = s.recovery.doorMark ∧ t.recovery.driveNeed = s.recovery.driveNeed ∧
      t.recovery.pendingRevs = s.recovery.pendingRevs ∧ t.recovery.clearFlag = s.recovery.clearFlag ∧
      t.recovery.planOut = s.recovery.planOut ∧ t.recovery.readyNext = s.recovery.readyNext := by
  unfold State.enterRollCall
  dsimp only
  repeat' split
  all_goals simp

@[simp] theorem State.joinRollCall_frame (s : State) (p : Pos) (m : Summary) :
    let t := s.joinRollCall p m; OuterKept s t ∧ t.link = s.link ∧ t.table.map = s.table.map ∧
      t.table.unfit = s.table.unfit ∧ t.table.listen = s.table.listen ∧ t.table.joinDelay = s.table.joinDelay ∧
      t.table.presence = s.table.presence ∧ t.roster = s.roster ∧ t.track = s.track ∧ t.handoff = s.handoff ∧
      t.feed = s.feed ∧ t.imaging = s.imaging ∧ t.exit = s.exit ∧ t.drive = s.drive ∧ t.recovery = s.recovery := by
  unfold State.joinRollCall
  dsimp only
  repeat' split
  all_goals simp

@[simp] theorem State.joinRestarted_frame (s : State) (p : Pos) (m : Summary) :
    let t := s.joinRestarted p m; OuterKept s t ∧ TableTimersKept s t ∧ t.link = s.link ∧ t.roster = s.roster ∧
      t.track = s.track ∧ t.handoff = s.handoff ∧ t.feed = s.feed ∧ t.imaging = s.imaging ∧ t.exit = s.exit ∧
      t.drive = s.drive ∧ t.recovery = s.recovery := by
  unfold State.joinRestarted
  dsimp only
  repeat' split
  all_goals simp

@[simp] theorem State.joinReceived_frame (s : State) (p : Pos) (m : Summary) :
    let t := s.joinReceived p m; OuterKept s t ∧ TimersKept s t ∧ SurveyKept s t ∧ VoteKept s t ∧ t.link = s.link ∧
      t.table.unfit = s.table.unfit ∧ t.table.presence = s.table.presence ∧ t.roster = s.roster ∧ t.track = s.track ∧
      t.handoff = s.handoff ∧ t.feed = s.feed ∧ t.imaging = s.imaging ∧ t.exit = s.exit ∧ t.drive = s.drive ∧
      t.recovery.epoch = s.recovery.epoch ∧ t.recovery.report = s.recovery.report ∧
      t.recovery.escalated = s.recovery.escalated ∧ t.recovery.doorMark = s.recovery.doorMark ∧
      t.recovery.driveNeed = s.recovery.driveNeed ∧ t.recovery.pendingRevs = s.recovery.pendingRevs ∧
      t.recovery.clearFlag = s.recovery.clearFlag ∧ t.recovery.planOut = s.recovery.planOut ∧
      t.recovery.readyNext = s.recovery.readyNext := by
  unfold State.joinReceived
  dsimp only
  repeat' split
  all_goals simp

/-! ### SheetReceipts -/

@[simp] theorem State.intentReceived_frame (s : State) (sender : Pos) (f : IntentFields) :
    let t := s.intentReceived sender f; OuterKept s t ∧ LinkInKept s t ∧ SurveyKept s t ∧ VoteKept s t ∧ t.table = s.table ∧
      t.roster.phase = s.roster.phase ∧ t.roster.stage = s.roster.stage ∧ t.roster.epoch = s.roster.epoch ∧
      t.roster.planInForce = s.roster.planInForce ∧ t.track.attributing = s.track.attributing ∧
      t.handoff.offers = s.handoff.offers ∧ t.feed.tray = s.feed.tray ∧ t.imaging = s.imaging ∧
      t.exit.firstPempty = s.exit.firstPempty ∧ t.drive.gateHeld = s.drive.gateHeld ∧ t.recovery.epoch = s.recovery.epoch ∧
      t.recovery.driveJam = s.recovery.driveJam ∧ t.recovery.escalated = s.recovery.escalated ∧
      t.recovery.doorMark = s.recovery.doorMark ∧ t.recovery.pendingRevs = s.recovery.pendingRevs ∧
      t.recovery.clearFlag = s.recovery.clearFlag ∧ t.recovery.planOut = s.recovery.planOut ∧
      t.recovery.readyNext = s.recovery.readyNext := by
  unfold State.intentReceived
  dsimp only
  repeat' split
  all_goals simp

@[simp] theorem State.withdrawReceived_frame (s : State) (sender : Pos) (job : Byte) :
    let t := s.withdrawReceived sender job; OuterKept s t ∧ LinkInKept s t ∧ SurveyKept s t ∧ VoteKept s t ∧
      t.table = s.table ∧ t.roster.phase = s.roster.phase ∧ t.roster.stage = s.roster.stage ∧
      t.roster.lastSerial = s.roster.lastSerial ∧ t.roster.epoch = s.roster.epoch ∧
      t.roster.planInForce = s.roster.planInForce ∧ t.track.attributing = s.track.attributing ∧
      t.handoff.offers = s.handoff.offers ∧ t.feed.tray = s.feed.tray ∧ t.imaging = s.imaging ∧
      t.exit.firstPempty = s.exit.firstPempty ∧ t.drive.gateHeld = s.drive.gateHeld ∧ t.recovery.epoch = s.recovery.epoch ∧
      t.recovery.driveJam = s.recovery.driveJam ∧ t.recovery.escalated = s.recovery.escalated ∧
      t.recovery.doorMark = s.recovery.doorMark ∧ t.recovery.pendingRevs = s.recovery.pendingRevs ∧
      t.recovery.clearFlag = s.recovery.clearFlag ∧ t.recovery.planOut = s.recovery.planOut ∧
      t.recovery.readyNext = s.recovery.readyNext := by
  unfold State.withdrawReceived
  dsimp only
  repeat' split
  all_goals simp

@[simp] theorem State.offerReceived_frame (s : State) (f : RxFrame) (dest : Pos) (xs : List Serial) (window spacing : Nat) :
    let t := s.offerReceived f dest xs window spacing; OuterKept s t ∧ LinkInKept s t ∧ MotorKept s t ∧ GateKept s t ∧
      t.table = s.table ∧ t.roster.phase = s.roster.phase ∧ t.roster.stage = s.roster.stage ∧
      t.roster.lastSerial = s.roster.lastSerial ∧ t.roster.epoch = s.roster.epoch ∧
      t.roster.planInForce = s.roster.planInForce ∧ t.track.queue = s.track.queue ∧ t.track.strays = s.track.strays ∧
      t.track.pickCandidate = s.track.pickCandidate ∧ t.track.pickTimer = s.track.pickTimer ∧
      t.track.attributing = s.track.attributing ∧ t.handoff.offers = s.handoff.offers ∧ t.feed = s.feed ∧
      t.imaging = s.imaging ∧ t.exit = s.exit ∧ t.recovery = s.recovery := by
  unfold State.offerReceived
  dsimp only
  repeat' split
  all_goals simp

@[simp] theorem State.markAccepted_frame (s : State) (epoch : Epoch) (xs : List Serial) :
    let t := s.markAccepted epoch xs; OuterKept s t ∧ MotorKept s t ∧ t.link = s.link ∧ t.table = s.table ∧
      t.roster = s.roster ∧ t.track.expected = s.track.expected ∧ t.track.strays = s.track.strays ∧
      t.track.pickCandidate = s.track.pickCandidate ∧ t.track.pickTimer = s.track.pickTimer ∧
      t.track.attributing = s.track.attributing ∧ t.handoff = s.handoff ∧ t.feed = s.feed ∧ t.imaging = s.imaging ∧
      t.exit = s.exit ∧ t.drive.gateHeld = s.drive.gateHeld ∧ t.drive.div1 = s.drive.div1 ∧ t.drive.div2 = s.drive.div2 ∧
      t.recovery = s.recovery := by
  unfold State.markAccepted
  dsimp only
  repeat' split
  all_goals simp

@[simp] theorem State.markDeferred_frame (s : State) (epoch : Epoch) (xs : List Serial) :
    let t := s.markDeferred epoch xs; OuterKept s t ∧ t.link = s.link ∧ t.table = s.table ∧ t.roster = s.roster ∧
      t.track.expected = s.track.expected ∧ t.track.strays = s.track.strays ∧ t.track.pickCandidate = s.track.pickCandidate ∧
      t.track.pickTimer = s.track.pickTimer ∧ t.track.attributing = s.track.attributing ∧ t.handoff = s.handoff ∧
      t.feed = s.feed ∧ t.imaging = s.imaging ∧ t.exit = s.exit ∧ t.drive = s.drive ∧ t.recovery = s.recovery := by
  unfold State.markDeferred
  dsimp only
  repeat' split
  all_goals simp

@[simp] theorem State.acceptReceived_frame (s : State) (f : RxFrame) (dest : Pos) (xs : List Serial) (free : Nat) :
    let t := s.acceptReceived f dest xs free; OuterKept s t ∧ LinkInKept s t ∧ MotorKept s t ∧ t.table = s.table ∧
      t.roster.phase = s.roster.phase ∧ t.roster.stage = s.roster.stage ∧ t.roster.lastSerial = s.roster.lastSerial ∧
      t.roster.epoch = s.roster.epoch ∧ t.roster.planInForce = s.roster.planInForce ∧ t.track.expected = s.track.expected ∧
      t.track.strays = s.track.strays ∧ t.track.pickCandidate = s.track.pickCandidate ∧
      t.track.pickTimer = s.track.pickTimer ∧ t.track.attributing = s.track.attributing ∧
      t.handoff.deferred = s.handoff.deferred ∧ t.feed = s.feed ∧ t.imaging = s.imaging ∧ t.exit = s.exit ∧
      t.drive.gateHeld = s.drive.gateHeld ∧ t.recovery = s.recovery := by
  unfold State.acceptReceived
  dsimp only
  repeat' split
  all_goals simp

@[simp] theorem State.deferReceived_frame (s : State) (f : RxFrame) (dest : Pos) (xs : List Serial) (reason : DeferReason) (free : Nat) :
    let t := s.deferReceived f dest xs reason free; OuterKept s t ∧ LinkInKept s t ∧ MotorKept s t ∧ GateKept s t ∧
      t.table = s.table ∧ t.roster.phase = s.roster.phase ∧ t.roster.stage = s.roster.stage ∧
      t.roster.lastSerial = s.roster.lastSerial ∧ t.roster.epoch = s.roster.epoch ∧
      t.roster.planInForce = s.roster.planInForce ∧ t.track.expected = s.track.expected ∧ t.track.strays = s.track.strays ∧
      t.track.pickCandidate = s.track.pickCandidate ∧ t.track.pickTimer = s.track.pickTimer ∧
      t.track.attributing = s.track.attributing ∧ t.handoff.deferred = s.handoff.deferred ∧ t.feed = s.feed ∧
      t.imaging = s.imaging ∧ t.exit = s.exit ∧ t.recovery = s.recovery := by
  unfold State.deferReceived
  dsimp only
  repeat' split
  all_goals simp

@[simp] theorem State.ownArrived_frame (s : State) (sender : Pos) :
    let t := s.ownArrived sender; OuterKept s t ∧ LinkInKept s t ∧ MotorKept s t ∧ GateKept s t ∧ t.table = s.table ∧
      t.roster = s.roster ∧ t.track.expected = s.track.expected ∧ t.track.strays = s.track.strays ∧
      t.track.pickCandidate = s.track.pickCandidate ∧ t.track.pickTimer = s.track.pickTimer ∧
      t.track.attributing = s.track.attributing ∧ t.handoff.deferred = s.handoff.deferred ∧ t.feed = s.feed ∧
      t.imaging = s.imaging ∧ t.exit = s.exit ∧ t.recovery = s.recovery := by
  unfold State.ownArrived
  dsimp only
  repeat' split
  all_goals simp

@[simp] theorem State.arrivedReceived_frame (s : State) (sender : Pos) (x : Serial) (picked : Bool) :
    let t := s.arrivedReceived sender x picked; OuterKept s t ∧ LinkInKept s t ∧ SurveyKept s t ∧ VoteKept s t ∧
      t.table = s.table ∧ t.roster.phase = s.roster.phase ∧ t.roster.stage = s.roster.stage ∧
      t.roster.lastSerial = s.roster.lastSerial ∧ t.roster.epoch = s.roster.epoch ∧
      t.roster.planInForce = s.roster.planInForce ∧ t.track.attributing = s.track.attributing ∧ t.feed.tray = s.feed.tray ∧
      t.imaging = s.imaging ∧ t.exit.firstPempty = s.exit.firstPempty ∧ t.drive.gateHeld = s.drive.gateHeld ∧
      t.recovery.epoch = s.recovery.epoch ∧ t.recovery.driveJam = s.recovery.driveJam ∧
      t.recovery.escalated = s.recovery.escalated := by
  unfold State.arrivedReceived
  dsimp only
  repeat' split
  all_goals simp

@[simp] theorem State.arrivedForPick_frame (s : State) (sender : Pos) (picked : Bool) :
    let t := s.arrivedForPick sender picked; OuterKept s t ∧ LinkInKept s t ∧ SurveyKept s t ∧ VoteKept s t ∧
      FeedLinesKept s t ∧ t.table = s.table ∧ t.roster = s.roster ∧ t.track.attributing = s.track.attributing ∧
      t.handoff.offers = s.handoff.offers ∧ t.imaging = s.imaging ∧ t.exit.firstPempty = s.exit.firstPempty ∧
      t.drive.gateHeld = s.drive.gateHeld ∧ t.recovery.epoch = s.recovery.epoch ∧ t.recovery.driveJam = s.recovery.driveJam ∧
      t.recovery.escalated = s.recovery.escalated ∧ t.recovery.doorMark = s.recovery.doorMark ∧
      t.recovery.pendingRevs = s.recovery.pendingRevs ∧ t.recovery.clearFlag = s.recovery.clearFlag ∧
      t.recovery.planOut = s.recovery.planOut ∧ t.recovery.readyNext = s.recovery.readyNext := by
  unfold State.arrivedForPick
  dsimp only
  repeat' split
  all_goals simp

@[simp] theorem State.passReceived_frame (s : State) (sender : Pos) (x : Serial) (side : Nat) (pass : Pass) :
    let t := s.passReceived sender x side pass; OuterKept s t ∧ LinkInKept s t ∧ SurveyKept s t ∧ VoteKept s t ∧
      t.table = s.table ∧ t.roster.phase = s.roster.phase ∧ t.roster.stage = s.roster.stage ∧
      t.roster.lastSerial = s.roster.lastSerial ∧ t.roster.epoch = s.roster.epoch ∧
      t.roster.planInForce = s.roster.planInForce ∧ t.track.attributing = s.track.attributing ∧
      t.handoff.offers = s.handoff.offers ∧ t.feed.tray = s.feed.tray ∧ t.imaging.isync = s.imaging.isync ∧
      t.exit.firstPempty = s.exit.firstPempty ∧ t.drive.gateHeld = s.drive.gateHeld ∧ t.recovery.epoch = s.recovery.epoch ∧
      t.recovery.driveJam = s.recovery.driveJam ∧ t.recovery.escalated = s.recovery.escalated ∧
      t.recovery.doorMark = s.recovery.doorMark ∧ t.recovery.pendingRevs = s.recovery.pendingRevs ∧
      t.recovery.clearFlag = s.recovery.clearFlag ∧ t.recovery.planOut = s.recovery.planOut ∧
      t.recovery.readyNext = s.recovery.readyNext := by
  unfold State.passReceived
  dsimp only
  repeat' split
  all_goals simp

@[simp] theorem State.accountPurged_frame (s : State) (r : SheetRecord) :
    let t := s.accountPurged r; OuterKept s t ∧ TimersKept s t ∧ VoteKept s t ∧ t.link = s.link ∧ t.table = s.table ∧
      t.roster = s.roster ∧ t.track = s.track ∧ t.handoff = s.handoff ∧ t.feed = s.feed ∧ t.imaging = s.imaging ∧
      t.exit = s.exit ∧ t.drive = s.drive ∧ t.recovery.path = s.recovery.path ∧ t.recovery.epoch = s.recovery.epoch ∧
      t.recovery.report = s.recovery.report ∧ t.recovery.jams = s.recovery.jams ∧
      t.recovery.escalated = s.recovery.escalated ∧ t.recovery.record = s.recovery.record ∧
      t.recovery.restarted = s.recovery.restarted ∧ t.recovery.following = s.recovery.following ∧
      t.recovery.doorMark = s.recovery.doorMark ∧ t.recovery.driveNeed = s.recovery.driveNeed ∧
      t.recovery.fates = s.recovery.fates ∧ t.recovery.pendingRevs = s.recovery.pendingRevs ∧
      t.recovery.clearFlag = s.recovery.clearFlag ∧ t.recovery.planOut = s.recovery.planOut ∧
      t.recovery.readyNext = s.recovery.readyNext := by
  unfold State.accountPurged
  dsimp only
  repeat' split
  all_goals simp

@[simp] theorem State.deliveredReceived_frame (s : State) (sender : Pos) (x : Serial) :
    let t := s.deliveredReceived sender x; OuterKept s t ∧ LinkInKept s t ∧ VoteKept s t ∧ t.table = s.table ∧
      t.roster.phase = s.roster.phase ∧ t.roster.stage = s.roster.stage ∧ t.roster.lastSerial = s.roster.lastSerial ∧
      t.roster.epoch = s.roster.epoch ∧ t.roster.planInForce = s.roster.planInForce ∧
      t.track.attributing = s.track.attributing ∧ t.feed.tray = s.feed.tray ∧ t.imaging = s.imaging ∧
      t.exit.firstPempty = s.exit.firstPempty ∧ t.drive.gateHeld = s.drive.gateHeld ∧ t.recovery.epoch = s.recovery.epoch ∧
      t.recovery.driveJam = s.recovery.driveJam ∧ t.recovery.jams = s.recovery.jams ∧
      t.recovery.escalated = s.recovery.escalated ∧ t.recovery.record = s.recovery.record ∧
      t.recovery.restarted = s.recovery.restarted ∧ t.recovery.following = s.recovery.following ∧
      t.recovery.fates = s.recovery.fates := by
  unfold State.deliveredReceived
  dsimp only
  repeat' split
  all_goals simp

@[simp] theorem State.accountEjected_frame (s : State) (f : ForfeitedSet) :
    let t := s.accountEjected f; OuterKept s t ∧ LinkInKept s t ∧ TimersKept s t ∧ VoteKept s t ∧ t.table = s.table ∧
      t.roster = s.roster ∧ t.track = s.track ∧ t.handoff = s.handoff ∧ t.feed = s.feed ∧ t.imaging = s.imaging ∧
      t.exit.firstPempty = s.exit.firstPempty ∧ t.drive = s.drive ∧ t.recovery.path = s.recovery.path ∧
      t.recovery.epoch = s.recovery.epoch ∧ t.recovery.report = s.recovery.report ∧ t.recovery.jams = s.recovery.jams ∧
      t.recovery.escalated = s.recovery.escalated ∧ t.recovery.record = s.recovery.record ∧
      t.recovery.restarted = s.recovery.restarted ∧ t.recovery.following = s.recovery.following ∧
      t.recovery.doorMark = s.recovery.doorMark ∧ t.recovery.driveNeed = s.recovery.driveNeed ∧
      t.recovery.fates = s.recovery.fates ∧ t.recovery.pendingRevs = s.recovery.pendingRevs ∧
      t.recovery.clearFlag = s.recovery.clearFlag ∧ t.recovery.planOut = s.recovery.planOut ∧
      t.recovery.readyNext = s.recovery.readyNext := by
  unfold State.accountEjected
  dsimp only
  repeat' split
  all_goals simp

@[simp] theorem State.setDoneReceived_frame (s : State) (sender : Pos) (bin : Nat) (job : Byte) (set : BitVec 16) :
    let t := s.setDoneReceived sender bin job set; OuterKept s t ∧ LinkInKept s t ∧ VoteKept s t ∧ FeedLinesKept s t ∧
      t.table = s.table ∧ t.roster = s.roster ∧ t.track.attributing = s.track.attributing ∧ t.feed.retries = s.feed.retries ∧
      t.imaging = s.imaging ∧ t.exit.firstPempty = s.exit.firstPempty ∧ t.drive.gateHeld = s.drive.gateHeld ∧
      t.recovery.epoch = s.recovery.epoch ∧ t.recovery.driveJam = s.recovery.driveJam ∧ t.recovery.jams = s.recovery.jams ∧
      t.recovery.escalated = s.recovery.escalated ∧ t.recovery.record = s.recovery.record ∧
      t.recovery.restarted = s.recovery.restarted ∧ t.recovery.following = s.recovery.following := by
  unfold State.setDoneReceived
  dsimp only
  repeat' split
  all_goals simp

/-! ### RecoveryReceipts -/

@[simp] theorem State.restartClaimed_frame (s : State) (p : Pos) :
    let t := s.restartClaimed p; OuterKept s t ∧ LinkInKept s t ∧ TimersKept s t ∧ SurveyKept s t ∧ VoteKept s t ∧
      TableTimersKept s t ∧ t.table.map = s.table.map ∧ t.roster = s.roster ∧ t.track = s.track ∧ t.handoff = s.handoff ∧
      t.feed = s.feed ∧ t.imaging = s.imaging ∧ t.exit = s.exit ∧ t.drive = s.drive ∧ t.recovery.path = s.recovery.path ∧
      t.recovery.epoch = s.recovery.epoch ∧ t.recovery.report = s.recovery.report ∧
      t.recovery.doorMark = s.recovery.doorMark ∧ t.recovery.driveNeed = s.recovery.driveNeed ∧
      t.recovery.pendingRevs = s.recovery.pendingRevs ∧ t.recovery.clearFlag = s.recovery.clearFlag ∧
      t.recovery.planOut = s.recovery.planOut ∧ t.recovery.readyNext = s.recovery.readyNext := by
  unfold State.restartClaimed
  dsimp only
  repeat' split
  all_goals simp

@[simp] theorem State.peerLost_frame (s : State) (epoch : Epoch) (serial : Option Serial) :
    let t := s.peerLost epoch serial; OuterKept s t ∧ TableTimersKept s t ∧ t.link = s.link ∧ t.table.map = s.table.map ∧
      t.roster = s.roster ∧ t.track = s.track ∧ t.handoff = s.handoff ∧ t.feed = s.feed ∧ t.imaging = s.imaging ∧
      t.exit = s.exit ∧ t.drive = s.drive ∧ t.recovery = s.recovery := by
  unfold State.peerLost
  dsimp only
  repeat' split
  all_goals simp

@[simp] theorem State.jamReceived_frame (s : State) (f : RxFrame) (k : JamKind) (serial : Option Serial) :
    let t := s.jamReceived f k serial; OuterKept s t ∧ LinkInKept s t ∧ FeedLinesKept s t ∧
      t.roster.lastSerial = s.roster.lastSerial ∧ t.roster.planInForce = s.roster.planInForce ∧
      t.track.strays = s.track.strays ∧ t.track.attributing = s.track.attributing ∧ t.feed.retries = s.feed.retries ∧
      t.imaging = s.imaging ∧ t.exit.purgeCount = s.exit.purgeCount ∧ t.exit.firstPempty = s.exit.firstPempty ∧
      t.drive.gate = s.drive.gate ∧ t.recovery.doorMark = s.recovery.doorMark ∧ t.recovery.driveNeed = s.recovery.driveNeed ∧
      t.recovery.fates = s.recovery.fates ∧ t.recovery.account = s.recovery.account ∧
      t.recovery.clearanceEpoch = s.recovery.clearanceEpoch ∧ t.recovery.revisions = s.recovery.revisions ∧
      t.recovery.mismatch = s.recovery.mismatch ∧ t.recovery.pendingRevs = s.recovery.pendingRevs ∧
      t.recovery.clearFlag = s.recovery.clearFlag := by
  unfold State.jamReceived
  dsimp only
  repeat' split
  all_goals simp

@[simp] theorem State.haltReceived_frame (s : State) (f : RxFrame) :
    let t := s.haltReceived f; OuterKept s t ∧ LinkInKept s t ∧ TableTimersKept s t ∧ FeedLinesKept s t ∧
      t.table.map = s.table.map ∧ t.roster.lastSerial = s.roster.lastSerial ∧ t.roster.planInForce = s.roster.planInForce ∧
      t.track.strays = s.track.strays ∧ t.track.attributing = s.track.attributing ∧ t.feed.retries = s.feed.retries ∧
      t.imaging = s.imaging ∧ t.exit.purgeCount = s.exit.purgeCount ∧ t.exit.firstPempty = s.exit.firstPempty ∧
      t.drive.gate = s.drive.gate ∧ t.recovery.restarted = s.recovery.restarted ∧
      t.recovery.following = s.recovery.following ∧ t.recovery.doorMark = s.recovery.doorMark ∧
      t.recovery.driveNeed = s.recovery.driveNeed ∧ t.recovery.fates = s.recovery.fates ∧
      t.recovery.account = s.recovery.account ∧ t.recovery.clearanceEpoch = s.recovery.clearanceEpoch ∧
      t.recovery.revisions = s.recovery.revisions ∧ t.recovery.mismatch = s.recovery.mismatch ∧
      t.recovery.pendingRevs = s.recovery.pendingRevs ∧ t.recovery.clearFlag = s.recovery.clearFlag := by
  unfold State.haltReceived
  dsimp only
  repeat' split
  all_goals simp

@[simp] theorem State.recordHolding_frame (s : State) (p : Pos) (h : HoldingFields) :
    let t := s.recordHolding p h; OuterKept s t ∧ TimersKept s t ∧ VoteKept s t ∧ TableTimersKept s t ∧ t.link = s.link ∧
      t.table.map = s.table.map ∧ t.roster = s.roster ∧ t.track = s.track ∧ t.handoff = s.handoff ∧ t.feed = s.feed ∧
      t.imaging = s.imaging ∧ t.exit = s.exit ∧ t.drive = s.drive ∧ t.recovery.path = s.recovery.path ∧
      t.recovery.epoch = s.recovery.epoch ∧ t.recovery.report = s.recovery.report ∧ t.recovery.jams = s.recovery.jams ∧
      t.recovery.restarted = s.recovery.restarted ∧ t.recovery.following = s.recovery.following ∧
      t.recovery.doorMark = s.recovery.doorMark ∧ t.recovery.driveNeed = s.recovery.driveNeed ∧
      t.recovery.fates = s.recovery.fates ∧ t.recovery.account = s.recovery.account ∧
      t.recovery.pendingRevs = s.recovery.pendingRevs ∧ t.recovery.clearFlag = s.recovery.clearFlag ∧
      t.recovery.planOut = s.recovery.planOut ∧ t.recovery.readyNext = s.recovery.readyNext := by
  unfold State.recordHolding
  dsimp only
  repeat' split
  all_goals simp

@[simp] theorem State.finalHolding_frame (s : State) (p : Pos) (h : HoldingFields) :
    let t := s.finalHolding p h; OuterKept s t ∧ LinkInKept s t ∧ TableTimersKept s t ∧ FeedLinesKept s t ∧
      t.table.map = s.table.map ∧ t.roster.phase = s.roster.phase ∧ t.roster.lastSerial = s.roster.lastSerial ∧
      t.roster.epoch = s.roster.epoch ∧ t.roster.planInForce = s.roster.planInForce ∧
      t.track.attributing = s.track.attributing ∧ t.feed.retries = s.feed.retries ∧ t.imaging = s.imaging ∧
      t.exit.firstPempty = s.exit.firstPempty ∧ t.recovery.epoch = s.recovery.epoch ∧
      t.recovery.driveJam = s.recovery.driveJam ∧ t.recovery.jams = s.recovery.jams ∧
      t.recovery.restarted = s.recovery.restarted ∧ t.recovery.account = s.recovery.account ∧
      t.recovery.revisions = s.recovery.revisions ∧ t.recovery.mismatch = s.recovery.mismatch ∧
      t.recovery.resurvey = s.recovery.resurvey ∧ t.recovery.planIn = s.recovery.planIn := by
  unfold State.finalHolding
  dsimp only
  repeat' split
  all_goals simp

@[simp] theorem State.ownHolding_frame (s : State) (p : Pos) :
    let t := s.ownHolding p; OuterKept s t ∧ LinkInKept s t ∧ t.link.slot = s.link.slot ∧ t.link.queue = s.link.queue ∧
      t.link.outOfStep = s.link.outOfStep ∧ t.table = s.table ∧ t.roster = s.roster ∧ t.track = s.track ∧
      t.handoff = s.handoff ∧ t.feed = s.feed ∧ t.imaging = s.imaging ∧ t.exit = s.exit ∧ t.drive = s.drive ∧
      t.recovery = s.recovery := by
  unfold State.ownHolding
  dsimp only
  repeat' split
  all_goals simp

@[simp] theorem State.holdingReceivedFrom_frame (s : State) (f : RxFrame) (h : HoldingFields) :
    let t := s.holdingReceivedFrom f h; OuterKept s t ∧ LinkInKept s t ∧ TableTimersKept s t ∧ FeedLinesKept s t ∧
      t.table.map = s.table.map ∧ t.roster.lastSerial = s.roster.lastSerial ∧ t.roster.planInForce = s.roster.planInForce ∧
      t.track.attributing = s.track.attributing ∧ t.feed.retries = s.feed.retries ∧ t.imaging = s.imaging ∧
      t.exit.firstPempty = s.exit.firstPempty ∧ t.recovery.restarted = s.recovery.restarted ∧
      t.recovery.account = s.recovery.account ∧ t.recovery.revisions = s.recovery.revisions ∧
      t.recovery.mismatch = s.recovery.mismatch := by
  unfold State.holdingReceivedFrom
  dsimp only
  repeat' split
  all_goals simp

@[simp] theorem State.setlistReceived_frame (s : State) (f : RxFrame) (bin : Nat) (job : Byte) (set : BitVec 16) (es : List SetEntry) (last : Bool) :
    let t := s.setlistReceived f bin job set es last; OuterKept s t ∧ TimersKept s t ∧ VoteKept s t ∧ t.link = s.link ∧
      t.table = s.table ∧ t.roster = s.roster ∧ t.track = s.track ∧ t.handoff = s.handoff ∧ t.feed = s.feed ∧
      t.imaging = s.imaging ∧ t.exit = s.exit ∧ t.drive = s.drive ∧ t.recovery.path = s.recovery.path ∧
      t.recovery.epoch = s.recovery.epoch ∧ t.recovery.report = s.recovery.report ∧ t.recovery.jams = s.recovery.jams ∧
      t.recovery.escalated = s.recovery.escalated ∧ t.recovery.restarted = s.recovery.restarted ∧
      t.recovery.following = s.recovery.following ∧ t.recovery.doorMark = s.recovery.doorMark ∧
      t.recovery.driveNeed = s.recovery.driveNeed ∧ t.recovery.fates = s.recovery.fates ∧
      t.recovery.account = s.recovery.account ∧ t.recovery.pendingRevs = s.recovery.pendingRevs ∧
      t.recovery.clearFlag = s.recovery.clearFlag ∧ t.recovery.planOut = s.recovery.planOut ∧
      t.recovery.readyNext = s.recovery.readyNext := by
  unfold State.setlistReceived
  dsimp only
  repeat' split
  all_goals simp

@[simp] theorem State.closeReceived_frame (s : State) (f : RxFrame) (ps : List Pos) :
    let t := s.closeReceived f ps; OuterKept s t ∧ LinkInKept s t ∧ TableTimersKept s t ∧ FeedLinesKept s t ∧
      t.table.map = s.table.map ∧ t.roster.phase = s.roster.phase ∧ t.roster.lastSerial = s.roster.lastSerial ∧
      t.roster.epoch = s.roster.epoch ∧ t.roster.planInForce = s.roster.planInForce ∧
      t.track.attributing = s.track.attributing ∧ t.feed.retries = s.feed.retries ∧ t.imaging.passes = s.imaging.passes ∧
      t.exit.firstPempty = s.exit.firstPempty ∧ t.recovery.driveJam = s.recovery.driveJam ∧
      t.recovery.jams = s.recovery.jams ∧ t.recovery.escalated = s.recovery.escalated ∧
      t.recovery.record = s.recovery.record ∧ t.recovery.restarted = s.recovery.restarted ∧
      t.recovery.account = s.recovery.account ∧ t.recovery.revisions = s.recovery.revisions ∧
      t.recovery.mismatch = s.recovery.mismatch ∧ t.recovery.resurvey = s.recovery.resurvey ∧
      t.recovery.planIn = s.recovery.planIn := by
  unfold State.closeReceived
  dsimp only
  repeat' split
  all_goals simp

@[simp] theorem State.emptyVote_frame (s : State) :
    let t := s.emptyVote; OuterKept s t ∧ TimersKept s t ∧ SurveyKept s t ∧ TableTimersKept s t ∧ t.link = s.link ∧
      t.table.map = s.table.map ∧ t.roster = s.roster ∧ t.track = s.track ∧ t.handoff = s.handoff ∧ t.feed = s.feed ∧
      t.imaging = s.imaging ∧ t.exit = s.exit ∧ t.drive = s.drive ∧ t.recovery.path = s.recovery.path ∧
      t.recovery.epoch = s.recovery.epoch ∧ t.recovery.report = s.recovery.report ∧
      t.recovery.escalated = s.recovery.escalated ∧ t.recovery.doorMark = s.recovery.doorMark ∧
      t.recovery.driveNeed = s.recovery.driveNeed ∧ t.recovery.clearanceEpoch = s.recovery.clearanceEpoch ∧
      t.recovery.revisions = s.recovery.revisions ∧ t.recovery.mismatch = s.recovery.mismatch ∧
      t.recovery.resurvey = s.recovery.resurvey ∧ t.recovery.pendingRevs = s.recovery.pendingRevs ∧
      t.recovery.clearFlag = s.recovery.clearFlag ∧ t.recovery.planIn = s.recovery.planIn ∧
      t.recovery.planOut = s.recovery.planOut ∧ t.recovery.readyNext = s.recovery.readyNext := by
  unfold State.emptyVote
  dsimp only
  repeat' split
  all_goals simp

@[simp] theorem State.countMismatch_frame (s : State) :
    let t := s.countMismatch; OuterKept s t ∧ TimersKept s t ∧ SurveyKept s t ∧ t.link = s.link ∧ t.table = s.table ∧
      t.roster = s.roster ∧ t.track = s.track ∧ t.handoff = s.handoff ∧ t.feed = s.feed ∧ t.imaging = s.imaging ∧
      t.exit = s.exit ∧ t.drive = s.drive ∧ t.recovery.path = s.recovery.path ∧ t.recovery.epoch = s.recovery.epoch ∧
      t.recovery.report = s.recovery.report ∧ t.recovery.doorMark = s.recovery.doorMark ∧
      t.recovery.driveNeed = s.recovery.driveNeed ∧ t.recovery.clearanceEpoch = s.recovery.clearanceEpoch ∧
      t.recovery.revisions = s.recovery.revisions ∧ t.recovery.firstDigest = s.recovery.firstDigest ∧
      t.recovery.resurvey = s.recovery.resurvey ∧ t.recovery.pendingRevs = s.recovery.pendingRevs ∧
      t.recovery.clearFlag = s.recovery.clearFlag ∧ t.recovery.planIn = s.recovery.planIn ∧
      t.recovery.planOut = s.recovery.planOut ∧ t.recovery.readyNext = s.recovery.readyNext := by
  unfold State.countMismatch
  dsimp only
  repeat' split
  all_goals simp

@[simp] theorem State.mismatched_frame (s : State) :
    let t := s.mismatched; OuterKept s t ∧ LinkInKept s t ∧ SurveyKept s t ∧ TableTimersKept s t ∧
      t.table.map = s.table.map ∧ t.roster = s.roster ∧ t.track.strays = s.track.strays ∧
      t.track.pickTimer = s.track.pickTimer ∧ t.track.attributing = s.track.attributing ∧ t.handoff = s.handoff ∧
      t.feed = s.feed ∧ t.imaging = s.imaging ∧ t.exit = s.exit ∧ t.drive = s.drive ∧
      t.recovery.driveJam = s.recovery.driveJam ∧ t.recovery.doorMark = s.recovery.doorMark ∧
      t.recovery.driveNeed = s.recovery.driveNeed ∧ t.recovery.clearanceEpoch = s.recovery.clearanceEpoch ∧
      t.recovery.revisions = s.recovery.revisions ∧ t.recovery.pendingRevs = s.recovery.pendingRevs ∧
      t.recovery.clearFlag = s.recovery.clearFlag ∧ t.recovery.planIn = s.recovery.planIn := by
  unfold State.mismatched
  dsimp only
  repeat' split
  all_goals simp

@[simp] theorem State.readyReceived_frame (s : State) (f : RxFrame) (clear : Bool) (digest : Crc) :
    let t := s.readyReceived f clear digest; OuterKept s t ∧ LinkInKept s t ∧ SurveyKept s t ∧ TableTimersKept s t ∧
      t.table.map = s.table.map ∧ t.roster = s.roster ∧ t.track.strays = s.track.strays ∧
      t.track.pickTimer = s.track.pickTimer ∧ t.track.attributing = s.track.attributing ∧ t.handoff = s.handoff ∧
      t.feed = s.feed ∧ t.imaging = s.imaging ∧ t.exit = s.exit ∧ t.drive = s.drive ∧
      t.recovery.driveJam = s.recovery.driveJam ∧ t.recovery.doorMark = s.recovery.doorMark ∧
      t.recovery.driveNeed = s.recovery.driveNeed ∧ t.recovery.clearanceEpoch = s.recovery.clearanceEpoch ∧
      t.recovery.revisions = s.recovery.revisions ∧ t.recovery.pendingRevs = s.recovery.pendingRevs ∧
      t.recovery.clearFlag = s.recovery.clearFlag ∧ t.recovery.planIn = s.recovery.planIn := by
  unfold State.readyReceived
  dsimp only
  repeat' split
  all_goals simp

@[simp] theorem State.dropPending_frame (s : State) (f : RxFrame) (v : RevisionContent) :
    let t := s.dropPending f v; OuterKept s t ∧ TimersKept s t ∧ SurveyKept s t ∧ VoteKept s t ∧ t.link = s.link ∧
      t.table = s.table ∧ t.roster = s.roster ∧ t.track = s.track ∧ t.handoff = s.handoff ∧ t.feed = s.feed ∧
      t.imaging = s.imaging ∧ t.exit = s.exit ∧ t.drive = s.drive ∧ t.recovery.path = s.recovery.path ∧
      t.recovery.epoch = s.recovery.epoch ∧ t.recovery.report = s.recovery.report ∧
      t.recovery.escalated = s.recovery.escalated ∧ t.recovery.doorMark = s.recovery.doorMark ∧
      t.recovery.driveNeed = s.recovery.driveNeed ∧ t.recovery.clearFlag = s.recovery.clearFlag ∧
      t.recovery.planOut = s.recovery.planOut ∧ t.recovery.readyNext = s.recovery.readyNext := by
  unfold State.dropPending
  dsimp only
  repeat' split
  all_goals simp

@[simp] theorem State.applyRevision_frame (s : State) (sender : Pos) (v : RevisionContent) :
    let t := s.applyRevision sender v; OuterKept s t ∧ LinkInKept s t ∧ TimersKept s t ∧ TableTimersKept s t ∧
      t.link.slot = s.link.slot ∧ t.link.outOfStep = s.link.outOfStep ∧ t.link.lostSinceHolding = s.link.lostSinceHolding ∧
      t.table.map = s.table.map ∧ t.roster.phase = s.roster.phase ∧ t.roster.stage = s.roster.stage ∧
      t.roster.lastSerial = s.roster.lastSerial ∧ t.roster.epoch = s.roster.epoch ∧
      t.roster.planInForce = s.roster.planInForce ∧ t.track = s.track ∧ t.handoff = s.handoff ∧ t.feed = s.feed ∧
      t.imaging = s.imaging ∧ t.exit = s.exit ∧ t.drive = s.drive ∧ t.recovery.jams = s.recovery.jams ∧
      t.recovery.escalated = s.recovery.escalated ∧ t.recovery.record = s.recovery.record ∧
      t.recovery.restarted = s.recovery.restarted ∧ t.recovery.following = s.recovery.following ∧
      t.recovery.doorMark = s.recovery.doorMark ∧ t.recovery.driveNeed = s.recovery.driveNeed ∧
      t.recovery.account = s.recovery.account ∧ t.recovery.mismatch = s.recovery.mismatch ∧
      t.recovery.resurvey = s.recovery.resurvey ∧ t.recovery.pendingRevs = s.recovery.pendingRevs ∧
      t.recovery.clearFlag = s.recovery.clearFlag := by
  unfold State.applyRevision
  dsimp only
  repeat' split
  all_goals simp

@[simp] theorem State.revisionTests_frame (s : State) (applied : Bool) (dropped : Bool) :
    let t := s.revisionTests applied dropped; OuterKept s t ∧ LinkInKept s t ∧ TimersKept s t ∧ SurveyKept s t ∧
      VoteKept s t ∧ t.table = s.table ∧ t.roster = s.roster ∧ t.track.queue = s.track.queue ∧
      t.track.expected = s.track.expected ∧ t.track.pickCandidate = s.track.pickCandidate ∧
      t.track.pickTimer = s.track.pickTimer ∧ t.track.attributing = s.track.attributing ∧ t.handoff = s.handoff ∧
      t.feed = s.feed ∧ t.imaging = s.imaging ∧ t.exit = s.exit ∧ t.drive = s.drive ∧ t.recovery.epoch = s.recovery.epoch ∧
      t.recovery.report = s.recovery.report ∧ t.recovery.escalated = s.recovery.escalated ∧
      t.recovery.driveNeed = s.recovery.driveNeed := by
  unfold State.revisionTests
  dsimp only
  repeat' split
  all_goals simp

@[simp] theorem State.revisionReceived_frame (s : State) (f : RxFrame) (v : RevisionContent) :
    let t := s.revisionReceived f v; OuterKept s t ∧ LinkInKept s t ∧ TimersKept s t ∧ TableTimersKept s t ∧
      t.table.map = s.table.map ∧ t.roster.phase = s.roster.phase ∧ t.roster.stage = s.roster.stage ∧
      t.roster.lastSerial = s.roster.lastSerial ∧ t.roster.epoch = s.roster.epoch ∧
      t.roster.planInForce = s.roster.planInForce ∧ t.track.queue = s.track.queue ∧ t.track.expected = s.track.expected ∧
      t.track.pickCandidate = s.track.pickCandidate ∧ t.track.pickTimer = s.track.pickTimer ∧
      t.track.attributing = s.track.attributing ∧ t.handoff = s.handoff ∧ t.feed = s.feed ∧ t.imaging = s.imaging ∧
      t.exit = s.exit ∧ t.drive = s.drive ∧ t.recovery.jams = s.recovery.jams ∧ t.recovery.escalated = s.recovery.escalated ∧
      t.recovery.record = s.recovery.record ∧ t.recovery.restarted = s.recovery.restarted ∧
      t.recovery.following = s.recovery.following ∧ t.recovery.driveNeed = s.recovery.driveNeed ∧
      t.recovery.account = s.recovery.account ∧ t.recovery.mismatch = s.recovery.mismatch ∧
      t.recovery.resurvey = s.recovery.resurvey := by
  unfold State.revisionReceived
  dsimp only
  repeat' split
  all_goals simp

@[simp] theorem State.applyPlan_frame (s : State) (f : RxFrame) (p : PlanFields) :
    let t := s.applyPlan f p; OuterKept s t ∧ LinkInKept s t ∧ TableTimersKept s t ∧ t.table.map = s.table.map ∧
      t.roster.lastSerial = s.roster.lastSerial ∧ t.track.attributing = s.track.attributing ∧
      t.handoff.offers = s.handoff.offers ∧ t.feed.tray = s.feed.tray ∧ t.imaging = s.imaging ∧
      t.exit.firstPempty = s.exit.firstPempty ∧ t.recovery.epoch = s.recovery.epoch ∧
      t.recovery.driveJam = s.recovery.driveJam ∧ t.recovery.record = s.recovery.record ∧
      t.recovery.following = s.recovery.following ∧ t.recovery.clearanceEpoch = s.recovery.clearanceEpoch ∧
      t.recovery.resurvey = s.recovery.resurvey ∧ t.recovery.clearFlag = s.recovery.clearFlag ∧
      t.recovery.planOut = s.recovery.planOut ∧ t.recovery.readyNext = s.recovery.readyNext := by
  unfold State.applyPlan
  dsimp only
  repeat' split
  all_goals simp

@[simp] theorem State.planReceived_frame (s : State) (f : RxFrame) (p : PlanFields) :
    let t := s.planReceived f p; OuterKept s t ∧ LinkInKept s t ∧ TableTimersKept s t ∧ t.table.map = s.table.map ∧
      t.roster.lastSerial = s.roster.lastSerial ∧ t.track.attributing = s.track.attributing ∧
      t.handoff.offers = s.handoff.offers ∧ t.feed.tray = s.feed.tray ∧ t.imaging.passes = s.imaging.passes ∧
      t.exit.firstPempty = s.exit.firstPempty ∧ t.recovery.epoch = s.recovery.epoch ∧
      t.recovery.driveJam = s.recovery.driveJam ∧ t.recovery.record = s.recovery.record ∧
      t.recovery.following = s.recovery.following ∧ t.recovery.clearanceEpoch = s.recovery.clearanceEpoch ∧
      t.recovery.resurvey = s.recovery.resurvey ∧ t.recovery.clearFlag = s.recovery.clearFlag := by
  unfold State.planReceived
  dsimp only
  repeat' split
  all_goals simp

@[simp] theorem State.planEntryReceived_frame (s : State) (f : RxFrame) (e : PlanEntryFields) :
    let t := s.planEntryReceived f e; OuterKept s t ∧ TimersKept s t ∧ SurveyKept s t ∧ t.link = s.link ∧ t.table = s.table ∧
      t.roster = s.roster ∧ t.track = s.track ∧ t.handoff = s.handoff ∧ t.feed = s.feed ∧ t.imaging = s.imaging ∧
      t.exit = s.exit ∧ t.drive = s.drive ∧ t.recovery.path = s.recovery.path ∧ t.recovery.epoch = s.recovery.epoch ∧
      t.recovery.report = s.recovery.report ∧ t.recovery.escalated = s.recovery.escalated ∧
      t.recovery.doorMark = s.recovery.doorMark ∧ t.recovery.driveNeed = s.recovery.driveNeed ∧
      t.recovery.clearanceEpoch = s.recovery.clearanceEpoch ∧ t.recovery.revisions = s.recovery.revisions ∧
      t.recovery.firstDigest = s.recovery.firstDigest ∧ t.recovery.mismatch = s.recovery.mismatch ∧
      t.recovery.resurvey = s.recovery.resurvey ∧ t.recovery.pendingRevs = s.recovery.pendingRevs ∧
      t.recovery.clearFlag = s.recovery.clearFlag ∧ t.recovery.planOut = s.recovery.planOut ∧
      t.recovery.readyNext = s.recovery.readyNext := by
  unfold State.planEntryReceived
  dsimp only
  repeat' split
  all_goals simp

/-! ### TimerEvents -/

@[simp] theorem State.freezeTable_frame (s : State) :
    let t := s.freezeTable; OuterKept s t ∧ TableTimersKept s t ∧ t.link = s.link ∧ t.table.map = s.table.map ∧
      t.roster = s.roster ∧ t.track = s.track ∧ t.handoff = s.handoff ∧ t.feed = s.feed ∧ t.imaging = s.imaging ∧
      t.exit = s.exit ∧ t.drive = s.drive ∧ t.recovery = s.recovery := by
  unfold State.freezeTable
  dsimp only
  repeat' split
  all_goals simp

@[simp] theorem State.backToListen_frame (s : State) :
    let t := s.backToListen; OuterKept s t ∧ TimersKept s t ∧ SurveyKept s t ∧ VoteKept s t ∧ t.link = s.link ∧
      t.roster = s.roster ∧ t.track = s.track ∧ t.handoff = s.handoff ∧ t.feed = s.feed ∧ t.imaging = s.imaging ∧
      t.exit = s.exit ∧ t.drive = s.drive ∧ t.recovery.epoch = s.recovery.epoch ∧ t.recovery.report = s.recovery.report ∧
      t.recovery.escalated = s.recovery.escalated ∧ t.recovery.doorMark = s.recovery.doorMark ∧
      t.recovery.driveNeed = s.recovery.driveNeed ∧ t.recovery.pendingRevs = s.recovery.pendingRevs ∧
      t.recovery.clearFlag = s.recovery.clearFlag ∧ t.recovery.planOut = s.recovery.planOut ∧
      t.recovery.readyNext = s.recovery.readyNext := by
  unfold State.backToListen
  dsimp only
  repeat' split
  all_goals simp

@[simp] theorem State.enterUnfit_frame (s : State) (u : UnfitReason) :
    let t := s.enterUnfit u; OuterKept s t ∧ LinkInKept s t ∧ TimersKept s t ∧ SurveyKept s t ∧ VoteKept s t ∧
      FeedLinesKept s t ∧ t.link.outOfStep = s.link.outOfStep ∧ t.link.lostSinceHolding = s.link.lostSinceHolding ∧
      t.table.entries = s.table.entries ∧ t.table.map = s.table.map ∧ t.table.listen = s.table.listen ∧
      t.table.rollCall = s.table.rollCall ∧ t.table.joinDelay = s.table.joinDelay ∧ t.table.presence = s.table.presence ∧
      t.roster = s.roster ∧ t.track = s.track ∧ t.handoff = s.handoff ∧ t.feed.pick = s.feed.pick ∧
      t.feed.retries = s.feed.retries ∧ t.imaging.passes = s.imaging.passes ∧ t.exit.purgeCount = s.exit.purgeCount ∧
      t.exit.firstPempty = s.exit.firstPempty ∧ t.recovery.epoch = s.recovery.epoch ∧
      t.recovery.escalated = s.recovery.escalated ∧ t.recovery.doorMark = s.recovery.doorMark ∧
      t.recovery.driveNeed = s.recovery.driveNeed ∧ t.recovery.pendingRevs = s.recovery.pendingRevs ∧
      t.recovery.clearFlag = s.recovery.clearFlag := by
  unfold State.enterUnfit
  dsimp only
  repeat' split
  all_goals simp

@[simp] theorem State.closeRollCall_frame (s : State) :
    let t := s.closeRollCall; OuterKept s t ∧ LinkInKept s t ∧ SurveyKept s t ∧ VoteKept s t ∧ t.roster = s.roster ∧
      t.feed.retries = s.feed.retries ∧ t.feed.tray = s.feed.tray ∧ t.imaging.passes = s.imaging.passes ∧
      t.exit.purgeCount = s.exit.purgeCount ∧ t.exit.firstPempty = s.exit.firstPempty ∧
      t.recovery.driveJam = s.recovery.driveJam ∧ t.recovery.escalated = s.recovery.escalated ∧
      t.recovery.doorMark = s.recovery.doorMark ∧ t.recovery.driveNeed = s.recovery.driveNeed ∧
      t.recovery.pendingRevs = s.recovery.pendingRevs ∧ t.recovery.clearFlag = s.recovery.clearFlag := by
  unfold State.closeRollCall
  dsimp only
  repeat' split
  all_goals simp

@[simp] theorem State.setOccupant_frame (s : State) (x : Serial) (f : Entry → Entry) :
    let t := s.setOccupant x f; OuterKept s t ∧ t.link = s.link ∧ t.table = s.table ∧ t.roster = s.roster ∧
      t.track.expected = s.track.expected ∧ t.track.strays = s.track.strays ∧ t.track.pickCandidate = s.track.pickCandidate ∧
      t.track.pickTimer = s.track.pickTimer ∧ t.track.attributing = s.track.attributing ∧ t.handoff = s.handoff ∧
      t.feed = s.feed ∧ t.imaging = s.imaging ∧ t.exit = s.exit ∧ t.drive = s.drive ∧ t.recovery = s.recovery := by
  unfold State.setOccupant
  dsimp only
  repeat' split
  all_goals simp

@[simp] theorem State.leadJam_frame (s : State) (x : Serial) :
    let t := s.leadJam x; OuterKept s t ∧ LinkInKept s t ∧ t.table = s.table ∧ t.roster = s.roster ∧
      t.track.expected = s.track.expected ∧ t.track.strays = s.track.strays ∧ t.track.pickCandidate = s.track.pickCandidate ∧
      t.track.pickTimer = s.track.pickTimer ∧ t.track.attributing = s.track.attributing ∧ t.handoff = s.handoff ∧
      t.feed = s.feed ∧ t.imaging = s.imaging ∧ t.exit = s.exit ∧ t.drive = s.drive ∧ t.recovery = s.recovery := by
  unfold State.leadJam
  dsimp only
  repeat' split
  all_goals simp

@[simp] theorem State.trailJam_frame (s : State) (x : Serial) :
    let t := s.trailJam x; OuterKept s t ∧ LinkInKept s t ∧ t.table = s.table ∧ t.roster = s.roster ∧
      t.track.expected = s.track.expected ∧ t.track.strays = s.track.strays ∧ t.track.pickCandidate = s.track.pickCandidate ∧
      t.track.pickTimer = s.track.pickTimer ∧ t.track.attributing = s.track.attributing ∧ t.handoff = s.handoff ∧
      t.feed = s.feed ∧ t.imaging = s.imaging ∧ t.exit = s.exit ∧ t.drive = s.drive ∧ t.recovery = s.recovery := by
  unfold State.trailJam
  dsimp only
  repeat' split
  all_goals simp

@[simp] theorem State.pickExpired_frame (s : State) :
    let t := s.pickExpired; OuterKept s t ∧ LinkInKept s t ∧ FeedLinesKept s t ∧ t.table = s.table ∧ t.roster = s.roster ∧
      t.track.queue = s.track.queue ∧ t.track.expected = s.track.expected ∧ t.track.strays = s.track.strays ∧
      t.track.attributing = s.track.attributing ∧ t.handoff = s.handoff ∧ t.imaging = s.imaging ∧ t.exit = s.exit ∧
      t.drive = s.drive ∧ t.recovery = s.recovery := by
  unfold State.pickExpired
  dsimp only
  repeat' split
  all_goals simp

end Sys2Proof.Machine
end

