-- ==== Sys2Proof/Laws/Effects.lean ====
section
/-! SUPPORT. What the shared operations do, once for each: claims and queued frames, timers, settled edges, receipts, the station
table, the roster after the fate computation, the reprint list. -/

namespace Sys2Proof.Machine

/-! ### Claims and queued frames -/

/-- 02 R34: a JAM that finds a place waits there. -/
theorem State.detect_jamQueued (s : State) (k : JamKind) (zone : Nat) (x : Option Serial) (h : s.canClaim) :
    (s.detect k zone x).jamQueued k zone x := by
  unfold State.detect State.queueJam
  dsimp only
  split
  · exact ⟨_, rfl, Or.inl rfl⟩
  · rcases h with h | h
    · simp_all
    · have room : s.txRoom = true := decide_eq_true h
      rw [if_pos room]
      exact ⟨s.newFrame .plain (.jam k zone x), rfl, Or.inr (by simp [State.pushTx])⟩

/-- A detection changes LINK alone. -/
theorem State.detect_link (s : State) (k : JamKind) (zone : Nat) (x : Option Serial) :
    s.detect k zone x = { s with link := (s.detect k zone x).link } := by
  unfold State.detect State.queueJam
  dsimp only
  repeat' split
  all_goals simp [State.pushTx]

theorem State.queueFrame_room (s : State) (p : Payload) (h : s.txRoom = true) :
    s.queueFrame p = s.pushTx { payload := p, epoch := s.recovery.epoch } := by
  simp [State.queueFrame, State.queueTagged, h, State.newFrame]

/-- A frame that is queued leaves the frames before it as they are. -/
theorem State.queueFrame_keeps (s : State) (p : Payload) (f : TxFrame) (h : f ∈ s.link.queue) :
    f ∈ (s.queueFrame p).link.queue := by
  unfold State.queueFrame State.queueTagged State.lose State.queueJam
  dsimp only
  repeat' split
  all_goals simp [State.pushTx, h]

/-- 03 R46: a busy link loads the listen timer in LISTEN and changes nothing else. -/
theorem State.linkBusy_eq (s : State) :
    s.linkBusy = { s with table.listen := if s.path = .listen then .running 1500 else s.table.listen } := by
  unfold State.linkBusy
  by_cases h : s.path = .listen <;> simp [h] <;> rfl

theorem State.nextReady_none (s : State) (h : s.recovery.readyNext = false) : s.nextReady = s := by simp [State.nextReady, h]

/-- 11 R181: where no READY is queued, a newer one that waited is forgotten. -/
theorem State.nextReady_kept (s : State) (h : s.recovery.readyNext = true)
    (unqueued : s.path ≠ .clearance ∨ s.recovery.pendingRevs ≠ []) :
    s.nextReady = { s with recovery.readyNext := false } := by
  have : (if s.path == .clearance && s.recovery.pendingRevs.isEmpty then ({ s with recovery.readyNext := false } : State).sendReady
      else { s with recovery.readyNext := false }) = { s with recovery.readyNext := false } := by
    rw [if_neg]
    rcases unqueued with path | revs
    · simp [path]
    · simp [revs]
  simp only [State.nextReady, h, if_true]
  exact this

/-! ### Timers, edges and receipts -/

theorem State.expire_runs (s : State) (t : Timer) (runs : Bool) (r : Nat) (k : State → State) (h : t.runsOutIn runs r) :
    s.expire t runs k = k (s.elapse r) := by
  obtain ⟨rfl, rfl⟩ := h
  simp [State.expire]

theorem State.settle_edge (s : State) (id : InputId) (level : Bool) (r : Nat) (k : State → State) (h : s.edgeDue id level r) :
    s.settle id level k = k (s.atEdge id level r) := by
  simp [State.settle, h.1, h.2, State.atEdge]

theorem State.receive_live (s : State) (f : RxFrame) (rest : List RxFrame) (kind : Payload → Bool) (live : RxFrame → State → State)
    (h : s.receives f rest) (hk : kind f.payload = true) : s.receive kind live = live f (s.taken rest) := by
  obtain ⟨rx, path, sender⟩ := h
  have notReading : s.path ≠ .profileRead := by intro h; simp [h, livePath] at path
  have path' : livePath ({ s with link.rx := rest } : State).path = true := path
  have sender' : ({ s with link.rx := rest } : State).isAbsent f.sender = false := sender
  simp only [State.receive, rx, hk]
  rw [if_neg (by simp [notReading]), if_pos path', if_neg (by simp [sender'])]
  rfl

/-! ### Taking a frame -/

/-- 01 R9: the links of a route depend on the path map alone. -/
theorem State.linked_taken (s : State) (rest : List RxFrame) (ps : List Pos) : (s.taken rest).linked ps = s.linked ps := by
  induction ps with
  | nil => rfl
  | cons a ps ih =>
    cases ps with
    | nil => rfl
    | cons b ps =>
      unfold State.linked
      rw [ih]
      rfl

/-- 01 R8: the acceptance tests do not depend on the receive queue. -/
theorem State.refusal_taken (s : State) (rest : List RxFrame) (f : IntentFields) : (s.taken rest).refusal f = s.refusal f := by
  unfold State.refusal State.routeTest
  rw [State.linked_taken]
  rfl

/-! ### The station table -/

theorem State.setEntry_same (s : State) (p : Pos) (f : TableEntry → TableEntry) (h1 : 1 ≤ p)
    (h2 : p ≤ s.table.entries.length) : (s.setEntry p f).entry p = f (s.entry p) := by
  have hp : p ≠ 0 := Nat.one_le_iff_ne_zero.mp h1
  have : p - 1 < s.table.entries.length := Nat.lt_of_lt_of_le (Nat.sub_lt h1 Nat.one_pos) h2
  simp only [State.setEntry, State.entry, hp, if_false]
  rw [List.getElem?_modify_eq]
  simp [this]

/-- 03 R52: every entry of the table is changed by its own position. -/
theorem State.mapEntries_entry (s : State) (f : Pos → TableEntry → TableEntry) (p : Pos) (h1 : 1 ≤ p)
    (h2 : p ≤ s.table.entries.length) : (s.mapEntries f).entry p = f p (s.entry p) := by
  have hp : p ≠ 0 := Nat.one_le_iff_ne_zero.mp h1
  have : p - 1 < s.table.entries.length := Nat.lt_of_lt_of_le (Nat.sub_lt h1 Nat.one_pos) h2
  simp [State.mapEntries, State.entry, hp, this, Nat.sub_add_cancel h1]

/-! ### The fate computation -/

theorem State.step1_sheets (s : State) (again : Bool) : (s.step1 again).map (·.sheet) = s.roster.records := by
  simp only [State.step1, List.map_map]
  conv => rhs; rw [← List.map_id s.roster.records]
  apply List.map_congr_left
  intro r _
  simp only [Function.comp]
  repeat' split
  all_goals rfl

theorem State.heldPurge_sheet (s : State) (r : Rest) (w : FateRow) : (s.heldPurge r w).sheet = w.sheet := by
  unfold State.heldPurge
  split <;> rfl

theorem State.steps34_sheet (s : State) (again : Bool) (hs : List Horizon) (lost : List Serial) (w : FateRow) :
    (s.steps34 again hs lost w).sheet = w.sheet := by
  unfold State.steps34 State.step3 State.step4
  dsimp only
  repeat' split
  all_goals simp [State.heldPurge_sheet, FateRow.move]

theorem State.step6_sheet (s : State) (es : List PlanEntryFields) (w : FateRow) : (s.step6 es w).sheet = w.sheet := by
  unfold State.step6
  repeat' split
  all_goals simp [State.heldPurge_sheet]

theorem State.step7_sheet (s : State) (rows : List FateRow) (sets : List ForfeitedSet) (w : FateRow) :
    (s.step7 rows sets w).sheet = w.sheet := by
  unfold State.step7
  dsimp only
  repeat' split
  all_goals rfl

/-- 09 R143: the computation has one row for each record, in roster order. -/
theorem State.computeFates_sheets (s : State) (again : Bool) : (s.computeFates again).1.map (·.sheet) = s.roster.records := by
  unfold State.computeFates
  split
  · simp only [State.escalatedResults, List.map_map]
    rw [← State.step1_sheets s again]
    apply List.map_congr_left
    intro w _
    simp only [Function.comp, escalatedRow]
    split <;> rfl
  · simp only [State.steppedResults, List.map_map]
    rw [← State.step1_sheets s again]
    apply List.map_congr_left
    intro w _
    have last : ∀ (hs : List Horizon) (v : FateRow), (step8 hs v).sheet = v.sheet := by
      intro hs v
      unfold step8
      split <;> rfl
    simp [last, State.step7_sheet, State.step6_sheet, State.steps34_sheet]

/-- 09 R143, 01 R21: the fates leave every record its serial and give it a fate. -/
theorem State.storeFates_records (s : State) (again : Bool) :
    (s.storeFates again).roster.records.map (·.serial) = s.roster.records.map (·.serial) ∧
      ∀ r ∈ (s.storeFates again).roster.records, r.fate.isSome := by
  refine ⟨?_, ?_⟩
  · have h := congrArg (List.map SheetRecord.serial) ((if again then s else s.countReports).computeFates_sheets again)
    cases again <;> simpa [State.storeFates, State.countReports, Function.comp_def] using h
  · intro r hr
    simp only [State.storeFates, List.mem_map] at hr
    obtain ⟨w, _, rfl⟩ := hr
    rfl

/-! ### The reprint list -/

theorem insertByKey_perm {α : Type} (key : α → Nat) (a : α) : ∀ xs : List α, (insertByKey key a xs).Perm (a :: xs)
  | [] => List.Perm.refl _
  | b :: bs => by
    unfold insertByKey
    split
    · exact List.Perm.refl _
    · exact ((insertByKey_perm key a bs).cons b).trans (List.Perm.swap a b bs)

theorem sortByKey_perm {α : Type} (key : α → Nat) : ∀ xs : List α, (sortByKey key xs).Perm xs
  | [] => List.Perm.refl _
  | a :: as => (insertByKey_perm key a _).trans ((sortByKey_perm key as).cons a)

/-- Sorting by serial only rearranges. -/
theorem sortBySerial_perm {α : Type} (serial : α → Serial) (xs : List α) : (sortBySerial serial xs).Perm xs :=
  sortByKey_perm _ xs

/-- 09 R150: no two of the items left share a replaced serial. -/
theorem onePerSerial_nodup : ∀ es : List PlanEntryFields, ((onePerSerial es).map (·.replaced)).Nodup
  | [] => List.nodup_nil
  | e :: es => by
    simp only [onePerSerial, List.map_cons, List.nodup_cons]
    refine ⟨by simp, ?_⟩
    exact (onePerSerial_nodup es).sublist (List.filter_sublist.map _)

theorem onePerSerial_sublist : ∀ es : List PlanEntryFields, (onePerSerial es).Sublist es
  | [] => List.Sublist.refl _
  | e :: es => (List.filter_sublist.trans (onePerSerial_sublist es)).cons_cons e

/-- 09 R150: no replaced serial is dropped. -/
theorem onePerSerial_covers : ∀ (es : List PlanEntryFields), ∀ e ∈ es, ∃ f ∈ onePerSerial es, f.replaced = e.replaced
  | a :: as, e, h => by
    rcases List.mem_cons.mp h with rfl | h
    · exact ⟨e, by simp [onePerSerial], rfl⟩
    · obtain ⟨f, hf, same⟩ := onePerSerial_covers as e h
      by_cases h : f.replaced = a.replaced
      · exact ⟨a, by simp [onePerSerial], h.symm.trans same⟩
      · exact ⟨f, by simp [onePerSerial, hf, h], same⟩

/-- Log 55: an item of the first part stands, where no other of that part has its serial. -/
theorem onePerSerial_first : ∀ (xs ys : List PlanEntryFields), (xs.map (·.replaced)).Nodup → ∀ e ∈ xs, e ∈ onePerSerial (xs ++ ys)
  | a :: as, ys, nodup, e, h => by
    simp only [List.map_cons, List.nodup_cons] at nodup
    rcases List.mem_cons.mp h with rfl | h
    · simp [onePerSerial]
    · have other : e.replaced ≠ a.replaced := fun same => nodup.1 (same ▸ List.mem_map_of_mem h)
      simp [onePerSerial, onePerSerial_first as ys nodup.2 e h, other]

/-- 09 R150: the items of the reprint list have replaced serials of their own. -/
theorem State.reprintItems_nodup (s : State) (rows : List FateRow) (sets : List ForfeitedSet) :
    ((s.reprintItems rows sets).map (·.replaced)).Nodup :=
  (((sortBySerial_perm _ _).map _).nodup_iff).mpr (onePerSerial_nodup _)

end Sys2Proof.Machine
end

