-- ==== Sys2Proof/Tests/Slice0.lean ====
section
/-! SUPPORT. Tests: the operand checks, one step on small states, and witnesses that the hypotheses of the statements are met. -/

namespace Sys2Proof.Tests

open Sys2Proof Sys2Proof.Machine

/-! The file declares no variable. The option has its theorems elaborated one after the other; side by side, each would hold a
thread and its stack while it waits for the kernel to have checked those before it. -/
set_option deprecated.oldSectionVars true

/-! ### Small states -/

/-- What `f` reads in the state after the command. -/
def after {α : Type} (c : Instr) (s : State) (f : State → α) : Option α :=
  match exec c s with
  | .next t => some (f t)
  | _ => none

/-- A station at position 2 with two zones, its downstream at position 3. -/
def tProf (r : Role) (c : StopClass) : Profile :=
  { position := 2, role := r, stopClass := c, capacity := 3
    zones := [{ lead := 500, trail := 400, trailMin := 100 }, { lead := 300, trail := 200, trailMin := 50 }]
    downstream := if r = .exit then [] else [(3, .straight)]
    pickAllowance := 200, pickRetries := 1, demandThreshold := 2
    bins := if r = .exit then [.finishing, .plain, .finishing] else []
    purgeCapacity := 10, finishAllowance := 500, imageZone := 1 }

def tPresent (r : Role) (c : StopClass) (down : List Pos) : TableEntry :=
  { presence := .present, summary := some { role := r, stopClass := c, capacity := 3, downstream := down
                                            bins := if r = .exit then [.finishing, .plain, .finishing] else [] }
    silence := .running 600 }

/-- Position 1 feeds position 2, the station's own; position 3 is an exit. -/
def tState (r : Role) (c : StopClass) (p : PathState) : State :=
  { State.reset with
    profile := some (tProf r c), profileTimer := .stopped, inputs := Inputs.low
    table.entries := [tPresent .feed .holds [2], tPresent r c (if r = .exit then [] else [3]), tPresent .exit .clearsDown []]
      ++ List.replicate 13 { presence := .absent }
    table.map := [{ downstream := [2], purgePath := some [1, 2, 3] }, { downstream := [3], upstream := [1], purgePath := some [2, 3] },
      { upstream := [2], purgePath := some [3] }] ++ List.replicate 13 {}
    handoff.offers := if r = .exit then [] else [{ dest := 3, free := some 3 }]
    drive.state := .running
    track.attributing := true
    recovery.path := p }

def tRun : State := tState .transport .clearsDown .run

/-- The input changes to `level`, with `r` ms of its settling time to go. -/
def tEdge (id : InputId) (level : Bool) (r : Nat) (s : State) : State :=
  { s with inputs := s.inputs.setLine id { raw := level, settled := !level, settling := .running r } }

/-- The frame at the head of the receive queue. -/
def tFrame (sender : Pos) (epoch : Epoch) (p : Payload) : RxFrame := { sender := sender, epoch := epoch, payload := p }
def tRx (sender : Pos) (epoch : Epoch) (p : Payload) (s : State) : State := { s with link.rx := [tFrame sender epoch p] }

/-- A FED simplex sheet on the route 1, 2, 3. -/
def tSheet (x : Serial) (holder : Pos) : SheetRecord :=
  { serial := x, front := 7, frontPass := 5, exit := 3, bin := 1, route := [1, 2, 3], stage := .fed, holder := some holder
    routeIndex := holder }

/-- An entry at the last sensor. -/
def tEntry (x : Serial) : Entry :=
  { serial := x, leadZone := 2, trailSensor := 1, trail := .running 300, trailAllow := 400, trailAge := 150 }

/-! ### The operand checks -/

theorem test_wf_rejects_zone_count : (Instr.profileReadDone { zoneCount := 2, zones := [{}] } [] 0).wf = false := by decide
theorem test_wf_rejects_input : (Instr.rawInputChange (.sensor 5) true).wf = false ∧ (Instr.rawInputChange (.sensor 0) true).wf = false ∧
    (Instr.rawInputChange (.fdone 4) true).wf = false ∧ (Instr.rawInputChange (.sett 0) true).wf = false ∧
    (Instr.rawInputChange (.sensor 4) true).wf = true := by decide
theorem test_wf_rejects_sensor : (Instr.sensorKCover 1).wf = false ∧ (Instr.sensorKCover 5).wf = false ∧
    (Instr.sensorUncover 0).wf = false ∧ (Instr.sensorUncover 4).wf = true := by decide
theorem test_wf_rejects_bin : (Instr.fdoneRise 0).wf = false ∧ (Instr.setTrayFall 4).wf = false ∧
    (Instr.finishTimerExpiry 4).wf = false ∧ (Instr.finishTimerExpiry 3).wf = true := by decide
theorem test_wf_rejects_position : (Instr.silenceTimerExpiry 0).wf = false ∧ (Instr.answerTimerExpiry 17).wf = false ∧
    (Instr.reOfferTimerExpiry 17).wf = false ∧ (Instr.reOfferTimerExpiry 16).wf = true := by decide
theorem test_wf_rejects_serial : (Instr.arrivalTimerExpiry 0).wf = false ∧ (Instr.leadTimerExpiry 0).wf = false ∧
    (Instr.trailTimerExpiry 0).wf = false ∧ (Instr.trailTimerExpiry 1).wf = true := by decide
theorem test_wf_rejects_frame_length :
    (Instr.frameCompletion (.other { b3 := 2, payload := [0] })).wf = false ∧
    (Instr.frameCompletion (.other { b3 := 61, payload := [] })).wf = true := by decide
theorem test_wf_rejects_content :
    (Payload.demand 13).wf = false ∧ (Payload.offer 3 [] 0 0).wf = false ∧ (Payload.offer 3 [0] 0 0).wf = false ∧
    (Payload.accept 0 [1] 0).wf = false ∧ (Payload.accept 3 [1] 7).wf = false ∧ (Payload.defer 3 [1] .room 7).wf = false ∧
    (Payload.arrived 0 true).wf = false ∧ (Payload.pass 1 3 1).wf = false ∧ (Payload.delivered 1 4).wf = false ∧
    (Payload.setDone 0 0 0 .broken).wf = false ∧ (Payload.jam .late 5 none).wf = false ∧ (Payload.setlist 1 0 0 [] true).wf = true ∧
    (Payload.close [17]).wf = false ∧ (Payload.revision (.unknown 5)).wf = false ∧ (Payload.revision (.removed 0)).wf = false ∧
    (Payload.plan { count := 65 }).wf = false ∧ (Payload.planEntry {}).wf = false ∧ (Payload.probe 0).wf = false ∧
    (Payload.refused 0 .full).wf = false ∧ (Payload.join {} false).wf = false ∧ (Payload.intent {}).wf = false ∧
    (Payload.holding { openSets := 4 }).wf = false := by decide

/-! ### Shared operations -/

theorem test_crc16 : crc16 [0x31, 0x32, 0x33, 0x34, 0x35, 0x36, 0x37, 0x38, 0x39] = 0x29B1#16 := by decide +kernel
theorem test_modular_order : precedes 65535 1 = true ∧ precedes 1 65535 = false ∧ precedes 1 1 = false ∧ precedes 0 32767 = true ∧
    precedes 0 32768 = false := by decide
theorem test_decode_spells_none : decodeTableWord 8 0 = none ∧ (tRun.withFetchWord 8 0).pending = [] := by decide


/-! ### The machine and its laws -/

theorem test_front : ({ tRun with pending := [.drdyRise] } : State).pending = .drdyRise :: [] := rfl
theorem test_idle_waits : State.reset.pending = [] ∧ State.reset.dueEvents = [] ∧
    ({ State.reset with profileTimer := .running 0 } : State).dueEvents = [.profileReadTimeout] := by decide +kernel
theorem test_reset : after (.reset true) (tEdge .door true 2 tRun) (fun t => (t.path, t.link.lineLow, t.inputs.door.raw, t.profile)) =
    some (.profileRead, true, true, none) := by decide +kernel
theorem test_hyp_shapeLaw : tRun.shapeLaw ∧ State.reset.shapeLaw := by decide +kernel

def tFull : State :=
  { tRun with
    pending := [.presenceReceipt]
    link.rx := List.replicate 24 (tFrame 3 0 (.presence .run 0))
    link.queue := List.replicate 8 { payload := .halt }
    roster.records := (List.range 48).map fun n => tSheet (BitVec.ofNat 16 (n + 1)) 2
    recovery.jams := (List.range 8).map fun n => { epoch := BitVec.ofNat 8 n }
    track.queue := [tEntry 1, tEntry 2, tEntry 3] }
theorem test_hyp_queueLaw : tFull.queueLaw ∧ tFull.link.rx.length = 24 ∧ tFull.link.queue.length = 8 := by decide +kernel
theorem test_hyp_rosterLaw : tFull.rosterLaw ∧ tFull.roster.records.length = 48 := by decide +kernel
theorem test_hyp_fateLaw : tFull.fateLaw ∧ tRun.fateLaw := by decide +kernel
/-- A new survey of a recovery whose records have fates. -/
def tResurvey : State :=
  { tState .transport .clearsDown .survey with
    roster.phase := .recovery, roster.stage := .open, roster.records := [{ tSheet 7 2 with fate := some .lost }]
    pending := [.stopLineFall] }
theorem test_hyp_fateKept : tResurvey.rosterLaw ∧ tResurvey.fateLaw ∧ (∃ r ∈ tResurvey.roster.records, r.fate.isSome) ∧
    (match step tResurvey with
      | .next t => some (t.roster.phase, t.roster.records.map (·.fate))
      | _ => none) = some (.recovery, [some .lost]) := by decide +kernel
theorem test_hyp_jamLaw : tFull.jamLaw ∧ tFull.recovery.jams.length = 8 := by decide +kernel
theorem test_hyp_occupancyLaws : tFull.occupancyLaw ∧ tFull.track.queue.length = 3 ∧ tFull.purgeLaw ∧ tFull.expectedLaw := by
  refine ⟨⟨?_, ?_, ?_⟩, ?_, ⟨?_, ?_⟩, ?_⟩ <;> first | (intro h; cases h) | decide +kernel
theorem test_hyp_setLaw : tFull.setLaw := by
  intro b hb o ho; simp [tFull, tRun, tState, State.reset, State.resetWith] at hb; obtain ⟨-, rfl⟩ | rfl := hb <;> cases ho
theorem test_step_full : (match step tFull with | .next t => some (t.link.rx.length, t.pending) | _ => none) = some (23, []) := by
  decide +kernel

/-- In CLEARANCE, with every READY but the one of position 3. -/
def tVote : State :=
  let e : LastReady := { clear := true, digest := 9, epoch := 4 }
  let s := tState .transport .clearsDown .clearance
  { s with
    roster.phase := .recovery, roster.stage := .closed, roster.epoch := 4
    recovery.clearanceEpoch := 4, recovery.epoch := 4, recovery.fates.digest := some 9, recovery.firstDigest := some 9
    table.entries := s.table.entries.mapIdx fun i x => if i < 2 then { x with lastReady := some e } else x
    link.rx := [tFrame 3 4 (.ready true 9)], pending := [.readyReceipt] }
theorem test_hyp_planVote : tVote.path ≠ .plan ∧
    (match step tVote with | .next t => some t.path | _ => none) = some .plan := by decide +kernel

/-- A merge station offered a sheet at the lowest pending pass. -/
def tMerge : State :=
  let s := tRx 1 0 (.offer 2 [8] 300 200) (tState .merge .holds .run)
  { s with roster.records := [{ tSheet 8 1 with frontPass := 4 }, tSheet 9 1], pending := [.offerReceipt] }
theorem test_hyp_merge : tMerge.hasRole .merge = true ∧ tMerge.track.expected = [] ∧
    (match step tMerge with
      | .next t => some (t.track.expected.map (·.serial), t.dueForImaging 8, t.lowestPending)
      | _ => none) = some ([8], true, some 4) := by decide +kernel
theorem test_merge_defers_higher_pass :
    after .offerReceipt { tMerge with link.rx := [tFrame 1 0 (.offer 2 [9] 300 200)] } (fun t => (t.track.expected, t.handoff.deferred.map (·.serials)))
      = some ([], [[9]]) := by decide +kernel

theorem test_hyp_builtFrames : (Payload.demand 12).wf = true ∧ (Payload.jam .noAnswer 4 (some 65535)).wf = true ∧
    (Payload.accept 16 [1, 2, 3, 4, 5, 6] 6).wf = true ∧ (Payload.pass 1 2 65535).wf = true ∧
    (Payload.holding { purgeSpace := 250, openSets := 3, entries := List.replicate 6 { zone := 4 } }).wf = true ∧
    (Payload.planEntry { index := 64, replaced := 1, media := 15, exit := 16, bin := 3 }).wf = true ∧
    (Payload.intent { serial := 1, index := 1, media := 15, exit := 16, bin := 3, frontPass := 1,
                      route := [1, 2, 3, 4, 5, 6, 7, 8, 9, 10, 11, 12] }).wf = true := by decide +kernel
theorem test_frame_reads_back : (WireFrame.build 16 255 (.arrived 7 true)).read = .good 16 255 (.arrived 7 true) ∧
    (WireFrame.build 0 1 (.intent { serial := 1, index := 1, exit := 3, bin := 1, frontPass := 1, route := [1, 2, 3] })).read =
      .good 0 1 (.intent { serial := 1, index := 1, exit := 3, bin := 1, frontPass := 1, route := [1, 2, 3] }) := by decide +kernel
theorem test_frame_bad_check : ({ WireFrame.build 3 0 .halt with check := 0 } : WireFrame).read = .bad := by decide +kernel

/-! ### Profile and first settling -/

def tRecord (r : Role) : ProfileRecord :=
  { position := 16, role := some r, stopClass := some .holds, capacity := 6, zoneCount := 2
    zones := [{ lead := 2000, trail := 10, trailMin := 9 }, { lead := 10, trail := 2000, trailMin := 0 }]
    downstream := if r = .exit then [] else [(15, some .straight)], media := 15, demandThreshold := 8, pickAllowance := 1000
    pickRetries := 2, bins := [some .finishing, some .plain, some .finishing], purgeCapacity := 250, setPolicy := some .forfeit
    finishAllowance := 5000, imageZone := 2 }
theorem test_hyp_goodProfile : State.reset.path = .profileRead ∧
    ([Role.feed, .transport, .merge, .imaging, .exit].all fun r => (checkProfile (tRecord r)).isSome) = true ∧
    crc16 [1, 2] = crc16 [1, 2] := by decide +kernel
theorem test_goodProfile : after (.profileReadDone (tRecord .feed) [1, 2] (crc16 [1, 2])) State.reset
    (fun t => (t.path, t.table.listen, t.feed.retries)) = some (.listen, .running 1500, 2) := by decide +kernel
/-- An exit station whose PEMPTY has settled before the profile is read takes its purge count from that level. -/
def tSettledFirst (high : Bool) : State := { State.reset with exit.firstPempty := some high }
theorem test_hyp_firstPempty : ∀ high ∈ [true, false], (tSettledFirst high).exit.firstPempty = some high ∧
    (tSettledFirst high).path = .profileRead ∧ State.reset.exit.firstPempty = none := by decide +kernel
theorem test_firstPempty : ∀ high ∈ [true, false],
    after (.profileReadDone (tRecord .exit) [1, 2] (crc16 [1, 2])) (tSettledFirst high) (fun t => t.exit.purgeCount) =
      some (if high then 0 else 250) := by decide +kernel
theorem test_hyp_badProfile : State.reset.path = .profileRead ∧ State.reset.profile = none ∧ crc16 [1] ≠ 0 ∧
    checkProfile { tRecord .feed with capacity := 7 } = none := by decide +kernel
theorem test_badProfile : after (.profileReadDone (tRecord .feed) [1] 0) State.reset (fun t => (t.path, t.profileCrc)) = some (.silent, 0) ∧
    after .profileReadTimeout State.reset (fun t => (t.path, t.profileCrc)) = some (.silent, 0) := by decide +kernel
theorem test_hyp_rawChange : tRun.shapeLaw ∧ (InputId.sensor 4).wf = true ∧ (InputId.sett 3).wf = true ∧
    tRun.settles (.sensor 4) = false ∧ tRun.settles (.sensor 2) = true ∧ (State.reset.inputs.line .door).first = true ∧
    (tEdge .door true 2 tRun).inputs.door.settled = false := by decide +kernel
theorem test_rawChange :
    after (.rawInputChange .door true) tRun (fun t => (t.inputs.door.raw, t.inputs.door.settling, t.den)) = some (true, .running 3, false) ∧
    after (.rawInputChange .door false) (tEdge .door true 2 tRun) (fun t => t.inputs.door.settling) = some .stopped := by decide +kernel
theorem test_hyp_firstSettling : State.reset.shapeLaw ∧ (∃ id ∈ allInputs, (State.reset.inputs.line id).first = true) ∧
    (let s : State := { State.reset with profile := some (tProf .feed .holds), recovery.path := .listen }
     s.hasRole .feed = true ∧ s.shapeLaw) ∧
    (let s : State := { State.reset with profile := some (tProf .exit .holds), recovery.path := .listen }
     s.hasRole .exit = true ∧ closedPath s.path = false ∧ s.shapeLaw) := by decide +kernel
theorem test_firstSettling : after .firstSettling { State.reset with profile := some (tProf .exit .holds), recovery.path := .listen }
    (fun t => (t.exit.purgeCount, t.inputs.door.first, t.feed.tray)) = some (10, false, .empty) := by decide +kernel

/-- PEMPTY has 1 ms to go, every other input 3 ms. -/
def tBouncing : State :=
  let s : State := { State.reset with profile := some (tProf .exit .holds), recovery.path := .listen }
  { s with inputs := s.inputs.setLine .pempty { first := true, settling := .running 1 } }
theorem test_hyp_oneSettles : tBouncing.shapeLaw ∧ tBouncing.firstTime = 1 ∧ tBouncing.hasRole .exit = true ∧
    closedPath tBouncing.path = false ∧ tBouncing.inputs.pempty.first = true ∧
    (∀ id ∈ allInputs, (tBouncing.inputs.line id).settling = .running 1 ∨ (tBouncing.inputs.line id).settling = .running 3) := by
  decide +kernel
theorem test_oneSettles : after .firstSettling tBouncing
    (fun t => (t.inputs.pempty.first, t.inputs.door.first, t.inputs.door.settling, t.exit.firstPempty, t.exit.purgeCount)) =
      some (false, true, .running 2, some false, 10) := by decide +kernel
/-! ### Zone sensors -/

def tExpect : State := { tEdge (.sensor 1) true 3 tRun with
  track.expected := [{ serial := 8, upstream := 1, timer := .running 90, group := 1 }, { serial := 9, upstream := 1, group := 1, spacing := 70 }]
  track.queue := [tEntry 7] }
def tPicking : State := { tEdge (.sensor 1) true 0 (tState .feed .holds .run) with
  track.pickCandidate := some 8, track.pickTimer := .running 9, feed.pick := .picking, feed.pickOut := true }
theorem test_hyp_sensor1 :
    (let u := tExpect.atEdge (.sensor 1) true 3
     tExpect.shapeLaw ∧ tExpect.edgeDue (.sensor 1) true 3 ∧ u.attributes = true ∧ u.candidate = some 8 ∧
      (∀ e ∈ u.track.queue, e.serial ≠ 8) ∧ u.track.queue.length < u.prof.capacity ∧ u.hasRole .feed = false ∧ u.txRoom = true) ∧
    (let u := tPicking.atEdge (.sensor 1) true 0
     tPicking.shapeLaw ∧ tPicking.edgeDue (.sensor 1) true 0 ∧ u.attributes = true ∧ u.candidate = some 8 ∧
      (∀ e ∈ u.track.queue, e.serial ≠ 8) ∧ u.track.queue.length < u.prof.capacity ∧ u.hasRole .feed = true) ∧
    (let s : State := { tExpect with recovery.path := .stopping }
     let u := s.atEdge (.sensor 1) true 3
     s.edgeDue (.sensor 1) true 3 ∧ u.attributes = true ∧ u.candidate = some 8 ∧ movingPath u.path = false) := by decide +kernel
theorem test_sensor1 :
    after .sensor1Cover tExpect (fun t => (t.track.queue.map (·.serial), t.track.queue.map (·.trail), t.track.expected.map (·.timer)))
      = some ([7, 8], [.running 297, .running 400], [.running 70]) ∧
    after .sensor1Cover tPicking (fun t => (t.track.queue.map (·.source), t.track.pickCandidate, t.feed.pickOut)) = some ([.pick], none, false) := by
  decide +kernel
def tImaging (p : PathState) : State :=
  { tEdge (.sensor 1) true 3 (tState .imaging .holds p) with
    track.expected := [{ serial := 8, upstream := 1 }], roster.records := [tSheet 8 1] }
theorem test_hyp_imagesAt1 : ∀ p ∈ [PathState.run, .resuming],
    let u := (tImaging p).atEdge (.sensor 1) true 3
    (tImaging p).edgeDue (.sensor 1) true 3 ∧ u.attributes = true ∧ u.candidate = some 8 ∧ u.hasRole .imaging = true ∧
      u.prof.imageZone = 1 ∧ u.path = p ∧ u.link.queue.length < 7 ∧ u.record 8 = some (tSheet 8 1) ∧
      (tSheet 8 1).purgeRouted = false ∧ u.imaging.passes.length < 8 ∧ ((8, 1) : Serial × Nat) ∉ u.imaging.passes := by decide +kernel
theorem test_imagesAt1 : after .sensor1Cover (tImaging .run)
    (fun t => (t.imaging.passes, t.imaging.isync, t.link.queue.map (·.payload))) =
      some ([(8, 1)], .running 1, [.arrived 8 false, .pass 8 1 5]) := by decide +kernel
theorem test_hyp_notAttributed :
    let s : State := { tEdge (.sensor 1) true 3 (tState .transport .clearsDown .stopping) with track.attributing := false }
    s.edgeDue (.sensor 1) true 3 ∧ (s.atEdge (.sensor 1) true 3).attributes = false ∧
      after .sensor1Cover s (fun t => t.track.strays) = some [false, false, false, false] := by decide +kernel
theorem test_hyp_stray :
    (let s := tEdge (.sensor 1) true 3 tRun
     s.shapeLaw ∧ s.edgeDue (.sensor 1) true 3 ∧ (s.atEdge (.sensor 1) true 3).attributes = true ∧
      (s.atEdge (.sensor 1) true 3).candidate = none ∧ (s.atEdge (.sensor 1) true 3).path = .run ∧
      (s.atEdge (.sensor 1) true 3).canClaim) ∧
    (let s := tEdge (.sensor 2) true 0 (tState .transport .clearsDown .stopping)
     s.edgeDue (.sensor 2) true 0 ∧ (s.atEdge (.sensor 2) true 0).track.queue = [] ∧
      (s.atEdge (.sensor 2) true 0).path = .stopping) := by decide +kernel
theorem test_stray : after .sensor1Cover (tEdge (.sensor 1) true 3 tRun) (fun t => (t.track.strays, t.link.slot.map (·.payload))) =
    some ([true, false, false, false], some (.jam .stray 1 none)) := by decide +kernel
def tCover2 : State := { tEdge (.sensor 2) true 1 tRun with
  track.queue := [tEntry 7, { tEntry 8 with leadZone := 1, lead := .running 40 }] }
theorem test_hyp_sensorK :
    let u := tCover2.atEdge (.sensor 2) true 1
    tCover2.edgeDue (.sensor 2) true 1 ∧ u.attributes = true ∧
      ∃ pre e, u.track.queue = pre ++ e :: [] ∧ e.leadZone + 1 = 2 ∧ ∀ f ∈ pre, f.leadZone + 1 ≠ 2 := by
  refine ⟨by decide +kernel, by decide +kernel, [{ tEntry 7 with trail := .running 299, trailAge := 151 }],
    { tEntry 8 with leadZone := 1, lead := .running 39, trail := .running 299, trailAge := 151 }, ?_, ?_, ?_⟩ <;> decide +kernel
theorem test_sensorK : after (.sensorKCover 2) tCover2 (fun t => t.track.queue.map fun e => (e.serial, e.leadZone, e.lead)) =
    some [(7, 2, .stopped), (8, 2, .stopped)] := by decide +kernel
/-- Two sheets for position 3, the first about to cover the last sensor; position 3 declared `free`. -/
def tOffering (free : Nat) : State :=
  { tEdge (.sensor 2) true 0 (tState .imaging .holds .run) with
    profile := some { tProf .imaging .holds with imageZone := 2 }
    roster.records := [tSheet 7 2, tSheet 8 2]
    track.queue := [{ tEntry 7 with leadZone := 1, lead := .running 40 }, { tEntry 8 with leadZone := 1, lead := .running 50 }]
    handoff.offers := [{ dest := 3, free := some free }] }
theorem test_hyp_offerComposed :
    let u := (tOffering 2).atEdge (.sensor 2) true 0
    (tOffering 2).edgeDue (.sensor 2) true 0 ∧ u.attributes = true ∧ 2 = u.lastSensor ∧ u.path = .run ∧ u.hasRole .exit = false ∧
      u.track.queue.map (fun e => (e.serial, e.leadZone, e.offer)) = [(7, 1, .unoffered), (8, 1, .unoffered)] ∧
      u.record 7 = some (tSheet 7 2) ∧ u.nextStation (tSheet 7 2) = some 3 ∧ u.isAbsent 3 = false ∧
      u.offerTo 3 = some { dest := 3, free := some 2 } ∧ u.link.queue.length < 7 ∧ u.hasRole .imaging = true ∧
      u.prof.imageZone = 2 ∧ u.prof.downstream.find? (fun d => d.1 == 3) = some (3, .straight) := by decide +kernel
theorem test_offerComposed :
    after (.sensorKCover 2) (tOffering 2) (fun t => (t.link.queue.map (·.payload), t.track.queue.map (·.offer), t.imaging.passes)) =
      some ([.pass 7 1 5, .offer 3 [7, 8] 300 200], [.offered, .offered], [(7, 1)]) ∧
    after (.sensorKCover 2) (tOffering 1) (fun t => (t.link.queue.map (·.payload), t.track.queue.map (·.offer))) =
      some ([.pass 7 1 5, .offer 3 [7] 300 200], [.offered, .unoffered]) := by decide +kernel
def tUncover1 (age : Nat) : State := { tEdge (.sensor 1) false 0 tRun with track.queue := [{ tEntry 7 with trailAge := age }] }
theorem test_hyp_uncover :
    (let u := (tUncover1 100).atEdge (.sensor 1) false 0
     (tUncover1 100).edgeDue (.sensor 1) false 0 ∧ u.attributes = true ∧ 1 ≠ u.lastSensor ∧
      u.track.queue = [] ++ { tEntry 7 with trailAge := 100 } :: [] ∧ ¬ 100 < (u.zone 1).trailMin) ∧
    (let u := (tUncover1 99).atEdge (.sensor 1) false 0
     u.track.queue = [] ++ { tEntry 7 with trailAge := 99 } :: [] ∧ 99 < (u.zone 1).trailMin ∧ u.path ≠ .runout ∧ u.canClaim) := by
  decide +kernel
theorem test_uncover :
    after (.sensorUncover 1) (tUncover1 99) (fun t => (t.track.queue.map (·.trailSensor), t.link.slot.map (·.payload))) =
      some ([2], some (.jam .short 1 (some 7))) ∧
    after (.sensorUncover 1) (tUncover1 100) (fun t => t.link.slot) = some none := by decide +kernel
theorem test_hyp_comesShort : ∀ p ∈ [PathState.stopping, .resuming],
    let u := ({ tUncover1 99 with recovery.path := p } : State).atEdge (.sensor 1) false 0
    u.attributes = true ∧ u.comesShort 1 { tEntry 7 with trailAge := 99 } := by
  intro p hp
  simp only [List.mem_cons, List.not_mem_nil, or_false] at hp
  rcases hp with rfl | rfl <;> exact ⟨by decide +kernel, by decide +kernel, fun h => absurd h (by decide +kernel)⟩
def tRunoutShort (f : Fate) : State :=
  { tUncover1 99 with recovery.path := .runout, roster.records := [{ tSheet 7 2 with fate := some f }] }
theorem test_hyp_shortInRunout : ((tRunoutShort .deliver).atEdge (.sensor 1) false 0).comesShort 1 { tEntry 7 with trailAge := 99 } :=
  ⟨by decide +kernel, fun _ => ⟨{ tSheet 7 2 with fate := some .deliver }, by decide +kernel, Or.inr (Or.inl rfl)⟩⟩
theorem test_shortByPathState :
    after (.sensorUncover 1) { tUncover1 99 with recovery.path := .stopping } (fun t => t.link.slot.map (·.payload)) =
      some (some (.jam .short 1 (some 7))) ∧
    after (.sensorUncover 1) (tRunoutShort .deliver) (fun t => t.link.slot.map (·.payload)) = some (some (.jam .short 1 (some 7))) ∧
    after (.sensorUncover 1) (tRunoutShort .keep) (fun t => t.link.slot) = some none := by decide +kernel
def tDeparting (div : Bool × Bool) (p : PathState) : State :=
  { tEdge (.sensor 2) false 0 (tState .exit .clearsDown p) with
    track.queue := [{ tEntry 7 with trailSensor := 2 }], roster.records := [tSheet 7 2], exit.purgeCount := 10
    drive := { state := .running, div1 := div.1, div2 := div.2 } }
theorem test_hyp_departure :
    (let s := tDeparting (false, false) .run
     let u := s.atEdge (.sensor 2) false 0
     s.edgeDue (.sensor 2) false 0 ∧ u.attributes = true ∧ 2 = u.lastSensor ∧ u.hasRole .exit = true ∧ u.path = .run ∧
      u.txRoom = true ∧ u.diverterBin = 0 ∧ (u.uncoverEntry 2).any (fun e => !u.isShort 2 e) = true) ∧
    (let u := (tDeparting (true, false) .run).atEdge (.sensor 2) false 0
     u.diverterBin = 1 ∧ (u.uncoverEntry 2).any (fun e => !u.isShort 2 e) = true) ∧
    (let u := (tDeparting (false, false) .stopping).atEdge (.sensor 2) false 0
     u.path = .stopping ∧ (u.uncoverEntry 2).any (fun e => !u.isShort 2 e) = true) := by decide +kernel
theorem test_departure :
    after (.sensorUncover 2) (tDeparting (false, false) .run) (fun t => (t.track.queue, t.exit.purgeCount, t.link.queue.map (·.payload))) =
      some ([], 10, [.delivered 7 0]) ∧
    after (.sensorUncover 2) (tDeparting (true, false) .run) (fun t => (t.bin 1).openSet.map (·.sheets.length)) = some (some 1) := by
  decide +kernel

def tOpen : OpenSet := { job := 4, set := 6, sheets := [{ serial := 1 }, { serial := 2 }] }
/-- A sheet of job 0 and set 0 departs into finishing bin 1, which is `b`. -/
def tListing (b : Bin) (last : Bool) (p : PathState) : State :=
  { tDeparting (true, false) p with
    exit.bins := [b, {}, {}], roster.records := [{ tSheet 7 2 with last := last, fate := some .deliver }] }
/-- A bin for each clause of SheetRecord.listedIn. -/
def tListings : List Bin :=
  [{}, { oversize := some (0, 0) }, { state := .open, openSet := some { sheets := List.replicate 39 {} } },
    { state := .open, openSet := some { sheets := List.replicate 40 {} } }, { state := .open, openSet := some tOpen },
    { state := .finishing, openSet := some tOpen }]
theorem test_hyp_listing : ∀ p ∈ [PathState.run, .runout, .resuming], ∀ b ∈ tListings,
    let s := tListing b true p
    let u := s.atEdge (.sensor 2) false 0
    s.edgeDue (.sensor 2) false 0 ∧ s.shapeLaw ∧ u.attributes = true ∧ u.hasRole .exit = true ∧ movingPath u.path = true ∧
      u.recovery.fates.forfeited = [] ∧ u.diverterBin = 1 ∧ u.isFinishing 1 = true ∧ (u.uncoverEntry 2).isSome ∧
      ((u.record 7).any fun q => !q.purgeRouted && q.fate != some .purge && q.job == 0 && q.set == 0) ∧
      u.link.queue = [] ∧ u.link.slot = none := by decide +kernel
theorem test_listing :
    (∀ x ∈ tListings.zip [(BinState.open, false, some 1), (.empty, true, none), (.open, false, some 40), (.empty, true, none),
        (.open, false, some 1), (.finishing, false, some 2)],
      after (.sensorUncover 2) (tListing x.1 false .runout) (fun t =>
        ((t.bin 1).state, (t.bin 1).oversize.isSome, (t.bin 1).openSet.map (·.sheets.length))) = some x.2) ∧
    (∀ x ∈ tListings.zip [BinState.finishing, .empty, .finishing, .empty, .finishing, .finishing],
      after (.sensorUncover 2) (tListing x.1 true .run) (fun t => ((t.bin 1).state, (t.bin 1).oversize)) = some (x.2, none)) ∧
    (∀ x ∈ tListings.zip [[], [], [], [.setDone 1 0 0 .oversize], [.setDone 1 4 6 .broken], []],
      after (.sensorUncover 2) (tListing x.1 true .resuming) (fun t => t.link.queue.map (·.payload)) =
        some (.delivered 7 1 :: x.2)) := by decide +kernel

/-! ### Drive, door, tray and exit inputs -/

def tDrdy (level : Bool) (d : DriveState) (fresh : Bool) (p : PathState) : State :=
  { tEdge .drdy level 1 (tState .transport .clearsDown p) with
    drive := { state := d, fresh := fresh, spin := .running 200, halt := .running 100 }, feed.pickOut := true }
theorem test_hyp_drdy :
    (∀ p ∈ [PathState.run, .resuming], (tDrdy true .spinning false p).edgeDue .drdy true 1 ∧
      ((tDrdy true .spinning false p).atEdge .drdy true 1).drive.state = .spinning ∧
      ((tDrdy true .spinning false p).atEdge .drdy true 1).path = p) ∧
    ((tDrdy true .spinning true .run).atEdge .drdy true 1).drive.fresh = true ∧
    (∀ d ∈ [DriveState.off, .spinning, .running, .halting], (tDrdy false d false .run).edgeDue .drdy false 1 ∧
      ((tDrdy false d false .run).atEdge .drdy false 1).drive.state = d ∧ (tDrdy false d false .run).canClaim) := by decide +kernel
theorem test_drdyRise : after .drdyRise (tDrdy true .spinning false .resuming) (fun t => (t.path, t.drive.state, t.drive.spin)) =
      some (.run, .running, .stopped) ∧
    after .drdyRise (tDrdy true .spinning true .run) (fun t => t.drive.state) = some .spinning := by decide +kernel
theorem test_drdyFall : after .drdyFall (tDrdy false .running false .run) (fun t => (t.drive.state, t.link.slot.map (·.payload))) =
      some (.off, some (.jam .drive 0 none)) ∧
    after .drdyFall (tDrdy false .halting false .run) (fun t => (t.drive.state, t.drive.halt)) = some (.spinning, .stopped) ∧
    after .drdyFall (tDrdy false .halting false .stopping) (fun t => (t.drive.state, t.drive.halt)) = some (.off, .stopped) := by
  decide +kernel

def tDoor (level : Bool) (d : DriveState) (p : PathState) : State :=
  { tEdge .door level 3 (tState .transport .clearsDown p) with drive.state := d, track.strays := [true, true, false, false] }
theorem test_hyp_door :
    (∀ p ∈ [PathState.run, .runout, .plan, .resuming, .clearance], (tDoor true .running p).edgeDue .door true 3 ∧
      ((tDoor true .running p).atEdge .door true 3).path = p ∧ ((tDoor true .running p).atEdge .door true 3).canClaim ∧
      ((tDoor true .running p).atEdge .door true 3).drive.state = .running ∧
      ((tDoor true .halting p).atEdge .door true 3).drive.state = .halting) ∧
    (∀ p ∈ [PathState.stopping, .survey, .runout, .plan, .resuming, .clearance, .run], (tDoor false .off p).edgeDue .door false 3 ∧
      ((tDoor false .off p).atEdge .door false 3).path = p ∧ ((tDoor false .off p).atEdge .door false 3).canClaim) := by
  decide +kernel
theorem test_doorOpen : after .doorOpen (tDoor true .running .run) (fun t => (t.drive.state, t.link.slot.map (·.payload))) =
      some (.off, some (.jam .door 0 none)) ∧
    after .doorOpen (tDoor true .running .stopping) (fun t => (t.drive.state, t.link.slot)) = some (.off, none) := by decide +kernel
theorem test_doorClose : after .doorClose (tDoor false .off .clearance) (fun t => (t.track.strays, t.recovery.doorMark)) =
      some ([false, false, false, false], false) ∧
    after .doorClose (tDoor false .off .survey) (fun t => (t.track.strays, t.recovery.doorMark)) =
      some ([true, true, false, false], true) := by decide +kernel

/-- In CLEARANCE: the sheet 7, left at rest, no longer covers zone 2; zone 1 is covered and nothing accounts for it. -/
def tFinding : State :=
  { tDoor false .off .clearance with
    inputs := (tEdge .door false 3 { tRun with
      inputs := Inputs.low.setLine (.sensor 1) { raw := true, settled := true } }).inputs
    track.queue := [{ tEntry 7 with trailSensor := 2 }], roster.records := [{ tSheet 7 2 with fate := some .keep }] }
theorem test_hyp_doorSpin :
    (let u := (tDoor false .off .run).atEdge .door false 3
     u.drive.state = .off ∧ u.lineIsLow = false) ∧
    (let s := { tDoor false .off .runout with recovery.driveNeed := true, link.lineLow := true }
     (s.atEdge .door false 3).lineIsLow = true ∧ (s.atEdge .door false 3).recovery.driveNeed = true) ∧
    (let u := tFinding.atEdge .door false 3
     tFinding.edgeDue .door false 3 ∧ u.path = .clearance ∧ u.revisionFindings = [.removed 7, .unknown 1] ∧ u.link.queue = [] ∧
      u.recovery.pendingRevs = []) := by decide +kernel
theorem test_doorSpin :
    after .doorClose (tDoor false .off .run) (fun t => (t.drive.state, t.drive.spin)) = some (.spinning, .running 300) ∧
    after .doorClose tFinding (fun t => (t.recovery.pendingRevs, t.link.queue.map (·.payload))) =
      some ([.removed 7, .unknown 1], [.revision (.removed 7)]) ∧
    after .doorClose (tDoor false .off .clearance) (fun t => (t.recovery.pendingRevs, t.link.queue.map (·.payload))) =
      some ([], [.ready true 0]) := by decide +kernel

def tTray (level : Bool) (p : PathState) : State := tEdge .tempty level 1 (tState .feed .holds p)
theorem test_hyp_tray :
    (∀ l ∈ [true, false], (tTray l .run).edgeDue .tempty l 1 ∧ ((tTray l .run).atEdge .tempty l 1).hasRole .feed = true ∧
      closedPath ((tTray l .run).atEdge .tempty l 1).path = false ∧ livePath ((tTray l .run).atEdge .tempty l 1).path = true ∧
      ((tTray l .run).atEdge .tempty l 1).txRoom = true ∧ livePath ((tTray l .rollcall).atEdge .tempty l 1).path = false) ∧
    (let s := tEdge .pempty true 2 (tState .exit .holds .run)
     s.edgeDue .pempty true 2 ∧ (s.atEdge .pempty true 2).hasRole .exit = true ∧
      closedPath (s.atEdge .pempty true 2).path = false) := by decide +kernel
theorem test_tray : after .temptyChange (tTray false .run) (fun t => (t.feed.tray, t.link.queue.map (·.payload))) =
    some (.loaded, [.tray .loaded]) := by decide +kernel
def tPickStart : State := { tTray false .run with roster.records := [{ tSheet 7 2 with stage := .announced, holder := none, route := [2, 3] }] }
theorem test_hyp_pickStart :
    let u := tPickStart.atEdge .tempty false 1
    tPickStart.edgeDue .tempty false 1 ∧ u.hasRole .feed = true ∧ closedPath u.path = false ∧ u.path = .run ∧
      u.drive.state = .running ∧ u.feed.pick = .idle ∧ ((u.intake u.own).head?.map (·.serial)) = some 7 ∧
      u.track.queue.length < u.prof.capacity ∧ u.track.queue = [] ∧ u.covered 1 = false ∧
      u.roster.records.takeWhile (fun x => x.serial != 7) = [] := by decide +kernel
theorem test_pickStart : after .temptyChange tPickStart
    (fun t => (t.feed.pick, t.feed.pickOut, t.track.pickCandidate, t.track.pickTimer, t.feed.retries)) =
      some (.picking, true, some 7, .running 200, 1) := by decide +kernel
theorem test_purgeEmptied :
    after .pemptyRise { tEdge .pempty true 2 (tState .exit .holds .run) with exit.purgeCount := 10 } (fun t => t.exit.purgeCount) = some 0 := by
  decide +kernel

def tBins (b : Bin) (p : PathState) : State :=
  { tState .exit .clearsDown p with exit.bins := [{}, {}, b], exit.purgeCount := 9 }
theorem test_hyp_finisher :
    let s := tEdge (.fdone 3) true 3 (tBins { state := .finishing, openSet := some tOpen, finish := .running 9, fin := true } .runout)
    let u := s.atEdge (.fdone 3) true 3
    s.shapeLaw ∧ s.edgeDue (.fdone 3) true 3 ∧ u.hasRole .exit = true ∧ livePath u.path = true ∧ u.isFinishing 3 = true ∧
      (u.bin 3).state = .finishing ∧ (u.bin 3).openSet = some tOpen ∧ u.txRoom = true := by decide +kernel
theorem test_finisher :
    after (.fdoneRise 3) (tEdge (.fdone 3) true 3 (tBins { state := .finishing, openSet := some tOpen, fin := true } .run))
      (fun t => ((t.bin 3).state, (t.bin 3).fin, t.link.queue.map (·.payload))) =
    some (.empty, false, [.setDone 3 4 6 .finished]) := by decide +kernel
theorem test_hyp_finisherOtherPaths : ∀ p ∈ [PathState.clearance, .plan, .survey],
    let s := tEdge (.fdone 3) true 3 (tBins { state := .finishing, openSet := some tOpen, fin := true } p)
    let u := s.atEdge (.fdone 3) true 3
    livePath u.path = true ∧ u.isFinishing 3 = true ∧ (u.bin 3).state = .finishing ∧
      after (.fdoneRise 3) s (fun t => ((t.bin 3).state, (t.bin 3).fin)) = some (.empty, false) := by decide +kernel
theorem test_hyp_trayFall :
    ∀ b ∈ [BinState.ejecting, .open, .finishPending, .finishing],
      let s := tEdge (.sett 3) false 3 (tBins { state := b, openSet := some tOpen } .run)
      let u := s.atEdge (.sett 3) false 3
      s.shapeLaw ∧ s.edgeDue (.sett 3) false 3 ∧ u.hasRole .exit = true ∧ livePath u.path = true ∧ u.path ≠ .clearance ∧ u.link.queue.length < 7 ∧
        3 ∈ u.binNumbers ∧ (u.bin 3).openSet = some tOpen ∧ (u.bin 3).state = b ∧ u.forfeitedSet 3 = none ∧
        (u.bin 1).state = .empty ∧ (u.bin 2).state = .empty ∧ (u.bin 4).state = .empty ∧ u.txRoom = true := by decide +kernel
theorem test_trayFall :
    after (.setTrayFall 3) (tEdge (.sett 3) false 3 (tBins { state := .ejecting, openSet := some tOpen } .runout))
      (fun t => ((t.bin 3).state, t.exit.purgeCount, t.link.queue.map (·.payload))) = some (.empty, 10, [.setDone 3 4 6 .forfeited]) ∧
    after (.setTrayFall 3) (tEdge (.sett 3) false 3 (tBins { state := .open, openSet := some tOpen } .run))
      (fun t => ((t.bin 3).state, t.exit.purgeCount, t.link.queue.map (·.payload))) = some (.empty, 9, [.setDone 3 4 6 .broken]) := by
  decide +kernel

theorem test_trayFallInClearance :
    let s := tEdge (.sett 3) false 3 (tBins { state := .open, openSet := some tOpen } .clearance)
    (s.atEdge (.sett 3) false 3).path = .clearance ∧ (s.atEdge (.sett 3) false 3).link.queue.length < 7 ∧
      after (.setTrayFall 3) s (fun t => (decide (t.recovery.clearFlag = t.evaluateClear), (t.bin 3).state)) = some (true, .empty) := by
  decide +kernel
/-! ### The stop line -/

theorem test_hyp_fall :
    (∀ p ∈ [PathState.run, .survey, .runout, .clearance, .plan, .resuming, .stopping, .profileRead, .listen, .rollcall, .silent,
        .silentAbsent, .unfit], (tState .transport .clearsDown p).link.lineLow = false ∧ (tState .transport .clearsDown p).path = p) := by
  decide +kernel
theorem test_fall :
    after .stopLineFall { tRun with track.queue := [tEntry 7] }
      (fun t => (t.path, t.recovery.epoch, t.recovery.claim, t.drive.state, t.track.queue.map (·.parked.isSome))) =
      some (.stopping, 1, .running 100, .off, [true]) ∧
    after .stopLineFall (tState .transport .clearsDown .stopping) (fun t => (t.path, t.recovery.epoch, t.recovery.claim)) =
      some (.stopping, 0, .stopped) := by decide +kernel
theorem test_fallInStopping : after .stopLineFall
    { tState .transport .clearsDown .stopping with track.queue := [{ tEntry 7 with deferred := true, parked := some { leadZone := 1 } }] }
      (fun t => t.track.queue.map fun e => (e.deferred, e.parked.map fun c => (c.leadZone, c.trailSensor, c.trail))) =
        some [(false, some (2, 1, .running 300))] := by decide +kernel
def tLow (p : PathState) (d : DriveState) : State :=
  { tState .transport .clearsDown p with link.lineLow := true, drive.state := d, recovery.claim := .expired }
theorem test_hyp_rise :
    (tLow .run .off).link.lineLow = true ∧ (tLow .run .off).pulling = false ∧ (tLow .run .off).reads .door = false ∧
      (tLow .run .off).path = .run ∧ (tLow .resuming .off).path = .resuming ∧ (tLow .stopping .off).path = .stopping ∧
      (tLow .stopping .off).recovery.claim = .expired ∧
      ({ tLow .run .off with link.slot := some { payload := .jam .late 0 none } } : State).pulling = true := by decide +kernel
theorem test_rise :
    after .stopLineRise (tLow .run .off) (fun t => (t.drive.state, t.drive.spin, t.link.lineLow)) = some (.spinning, .running 300, false) ∧
    after .stopLineRise (tLow .stopping .off) (fun t => (t.path, t.recovery.survey)) = some (.survey, .running 500) := by decide +kernel

/-! ### LINK -/

def tTx (fs : List TxFrame) (slot : Option TxFrame := none) : State := { tRun with link.queue := fs, link.slot := slot }
theorem test_hyp_attempt :
    (let s := tTx [{ payload := .demand 1 }, { payload := .halt }, { payload := .arrived 7 true }]
     s.path ≠ .profileRead ∧ s.sending = none ∧ s.link.slot = none ∧ (Payload.demand 1).urgent = false ∧ Payload.halt.urgent = true) ∧
    (let s := tTx [{ payload := .demand 1 }, { payload := .tray .empty }]
     s.sending = none ∧ ∀ x ∈ s.link.queue, x.payload.urgent = false) ∧
    (let s := { tTx [] (some { payload := .jam .late 0 none }) with link.lineLow := true }
     s.sending = none ∧ s.link.lineLow = true) ∧
    (let s := tTx [{ payload := .close [] }]
     s.sending = none ∧ s.link.rx = [] ∧ s.notHeard = [1, 2, 3]) := by decide +kernel
theorem test_attempt :
    after (.linkAttemptStart 12) (tTx [{ payload := .demand 1 }, { payload := .halt }]) (fun t => t.link.queue.map (·.sending)) =
      some [false, true] ∧
    after (.linkAttemptStart 39) (tTx [{ payload := .demand 1 }]) (fun t => t.link.queue.map (·.sending)) = some [false] ∧
    after (.linkAttemptStart 63) { tTx [{ payload := .demand 1 }] with link.backoff := true } (fun t => t.link.queue.map (·.sending)) =
      some [false] ∧
    after (.linkAttemptStart 64) { tTx [{ payload := .demand 1 }] with link.backoff := true } (fun t => t.link.queue.map (·.sending)) =
      some [true] ∧
    after (.linkAttemptStart 12) (tTx [{ payload := .close [] }]) (fun t => t.link.queue.map (·.payload)) = some [.close [1, 2, 3]] := by
  decide +kernel
theorem test_attemptInListen :
    after (.linkAttemptStart 40) { tTx [{ payload := .join {} false }] with recovery.path := .listen, table.listen := .running 7 }
      (fun t => (t.table.listen, t.link.queue.map (·.sending))) = some (.running 1500, [true]) := by decide +kernel
def tSent (p : Payload) (n : Nat) : State := tTx [{ payload := p, sending := true, collisions := n, epoch := 3 }]
theorem test_hyp_collision :
    (tSent .halt 14).sending = some { payload := .halt, sending := true, collisions := 14, epoch := 3 } ∧
    (tSent (.pass 7 1 5) 15).sending = some { payload := .pass 7 1 5, sending := true, collisions := 15, epoch := 3 } ∧
    (tSent (.jam .link 0 none) 15).sending = some { payload := .jam .link 0 none, sending := true, collisions := 15, epoch := 3 } ∧
    livePath (tSent .halt 15).path = true ∧ (tSent .halt 15).removeSending.canClaim ∧
    (tTx [{ payload := .halt, sending := true, withdrawn := true }]).sending =
      some { payload := .halt, sending := true, withdrawn := true } := by decide +kernel
theorem test_collision :
    after .collision (tSent .halt 14) (fun t => (t.link.backoff, t.link.queue.map (·.collisions))) = some (true, [15]) ∧
    after .collision { tSent (.pass 7 1 5) 15 with imaging.passes := [(7, 1)] }
      (fun t => (t.link.slot.map (·.payload), t.link.queue, t.imaging.passes)) = some (some (.jam .link 0 none), [], []) := by
  decide +kernel
/-- A READY that collides while a newer one waits. -/
def tNewer (p : PathState) : State :=
  { tVote with
    link.queue := [{ payload := .ready true 9, sending := true, collisions := 3 }], recovery.path := p
    recovery.readyNext := true, recovery.clearFlag := true, link.rx := [] }
theorem test_hyp_readyReplaced :
    (tNewer .clearance).sending = some { payload := .ready true 9, sending := true, collisions := 3 } ∧
    (tNewer .clearance).recovery.readyNext = true ∧ (tNewer .clearance).path = .clearance ∧
    (tNewer .clearance).recovery.pendingRevs = [] ∧ (tNewer .plan).path ≠ .clearance ∧ (tNewer .plan).sending.isSome := by decide +kernel
theorem test_readyReplaced :
    after .collision (tNewer .clearance) (fun t => t.link.queue.map fun f => (f.sending, f.collisions, f.epoch)) = some [(false, 0, 4)] ∧
    after .collision (tNewer .plan) (fun t => t.link.queue.map fun f => (f.sending, f.collisions, f.epoch)) = some [(false, 4, 0)] := by
  decide +kernel
def tJoining (p : PathState) : State :=
  { tState .transport .clearsDown p with
    link.queue := [{ payload := .join (tProf .transport .clearsDown).summary false, sending := true, collisions := 15 }]
    inputs := (tEdge (.sensor 1) false 1 tRun).inputs }
theorem test_hyp_joinAbandoned : ∀ p ∈ [PathState.listen, .rollcall],
    ((tJoining p).sending.map (·.collisions)) = some 15 ∧ (tJoining p).path = p ∧ (tJoining p).removeSending.txRoom = true ∧
      (tJoining p).recovery.readyNext = false := by decide +kernel
theorem test_joinAbandoned :
    after .collision (tJoining .rollcall) (fun t => t.link.queue.map (·.payload)) =
      some [.join (tProf .transport .clearsDown).summary true] ∧
    after .collision (tJoining .listen) (fun t => (t.link.queue, t.table.listen)) = some ([], .running 1500) := by decide +kernel
theorem test_hyp_ownCompletion :
    (tSent (.offer 3 [7] 300 200) 0).sending = some { payload := .offer 3 [7] 300 200, sending := true, epoch := 3 } ∧
    (tSent (.accept 1 [7] 2) 0).sending = some { payload := .accept 1 [7] 2, sending := true, epoch := 3 } ∧
    ({ tSent .halt 0 with link.rx := List.replicate 23 {} } : State).link.rx.length < 24 ∧
    livePath (tSent .halt 0).path = true ∧ (Payload.offer 3 [7] 300 200).isReady = false := by decide +kernel
theorem test_ownCompletion :
    after (.frameCompletion .own)
      { tSent (.offer 3 [7] 300 200) 0 with handoff.offers := [{ dest := 3, state := .awaiting, offered := [7] }] }
      (fun t => (t.link.rx.map (·.sender), t.link.queue, t.handoff.offers.map (·.answer), t.table.presence)) =
      some ([2], [], [.running 50], .running 200) ∧
    after (.frameCompletion .own)
      { tSent (.accept 1 [7] 2) 0 with track.expected := [{ serial := 7, window := 300 }, { serial := 8, window := 300 }] }
      (fun t => t.track.expected.map (·.timer)) = some [.running 300, .stopped] := by decide +kernel
/-- A frame of the report or of the plan completes, or a READY with a newer one behind it. -/
def tTagged (p : Payload) (tag : TxTag) (withdrawn : Bool) : State :=
  { tTx [{ payload := p, sending := true, tag := tag, withdrawn := withdrawn }, {}] with
    recovery.path := .clearance, recovery.report := [.holding { final := true }], recovery.planOut := [.final], recovery.readyNext := true
    link.outOfStep := true }
theorem test_hyp_nextFrame :
    (∀ f ∈ [(Payload.holding {}, TxTag.report), (.plan {}, .plan), (.ready true 9, .plain)], ∀ w ∈ [true, false],
      (tTagged f.1 f.2 w).sending = some { payload := f.1, sending := true, tag := f.2, withdrawn := w } ∧
        livePath (tTagged f.1 f.2 w).path = true) ∧
    ((tTagged .halt .plain false).link.queue.filter fun g => !g.sending).length < 8 ∧
    ({ tSent .halt 0 with link.rx := List.replicate 24 {} } : State).link.rx.length = 24 ∧ (tSent .halt 0).removeSending.canClaim := by
  decide +kernel
theorem test_nextFrame :
    after (.frameCompletion .own) (tTagged (.holding {}) .report false) (fun t => (t.link.queue.drop 1).map (·.payload)) =
      some [.holding { final := true, desync := true }] ∧
    after (.frameCompletion .own) (tTagged (.holding {}) .report true) (fun t => (t.link.queue.drop 1).map (·.payload)) = some [] ∧
    after (.frameCompletion .own) (tTagged (.plan {}) .plan false) (fun t => ((t.link.queue.drop 1).map (·.payload), t.recovery.planOut)) =
      some ([.plan { firstFree := 1, absent := [4, 5, 6, 7, 8, 9, 10, 11, 12, 13, 14, 15, 16] }], []) ∧
    after (.frameCompletion .own) (tTagged (.ready true 9) .plain false) (fun t => (t.link.queue.drop 1).map (·.payload)) =
      some [.ready false 0] ∧
    after (.frameCompletion .own) { tSent .halt 0 with link.rx := List.replicate 24 {} }
      (fun t => (t.link.outOfStep, t.link.slot.map (·.payload), t.link.rx.length)) = some (true, some (.jam .desync 0 none), 24) := by
  decide +kernel
theorem test_hyp_otherCompletion :
    tRun.sending = none ∧ livePath tRun.path = true ∧ tRun.isPresent 3 = true ∧ 3 ≠ tRun.own ∧ tRun.canClaim ∧
    (WireFrame.build 3 9 (.arrived 7 true)).read = .good 3 9 (.arrived 7 true) ∧
    ({ WireFrame.build 3 0 .halt with check := 0 } : WireFrame).read = .bad ∧
    ({ WireFrame.build 3 0 .halt with b3 := 61 } : WireFrame).read = .discard := by decide +kernel
theorem test_otherCompletion :
    after (.frameCompletion (.other (WireFrame.build 3 9 (.arrived 7 true)))) tRun (fun t => t.link.rx.map (·.epoch)) = some [9] ∧
    after (.frameCompletion (.other { WireFrame.build 3 0 .halt with check := 0 })) tRun
      (fun t => (t.link.outOfStep, t.link.slot.map (·.payload))) = some (true, some (.jam .desync 0 none)) := by decide +kernel

theorem test_hyp_lostFrame :
    ({ tRun with link.rx := List.replicate 24 {} } : State).link.rx.length = 24 ∧
    after (.frameCompletion (.other (WireFrame.build 3 9 (.arrived 7 true)))) { tRun with link.rx := List.replicate 24 {} }
      (fun t => (t.link.rx.length, t.link.outOfStep, t.link.slot.map (·.payload))) =
        some (24, true, some (.jam .desync 0 none)) := by decide +kernel
theorem test_hyp_frameChecks :
    (let w := WireFrame.build 3 0 .halt
     w.b3.toNat ≤ 60 ∧ w.payload.length = w.b3.toNat ∧ crc16 (w.b0 :: w.b1 :: w.b2 :: w.b3 :: w.payload) = w.check ∧
      w.b0 &&& 0x60#8 = 0#8 ∧ (w.b0 &&& 0x1F#8).toNat ≤ 16 ∧ parsePayload w.b1 w.payload w.content = some .halt) ∧
    (let w : WireFrame := { b0 := 0x60#8, b1 := 1, check := crc16 [0x60#8, 1, 0, 0] }
     w.payload.length = w.b3.toNat ∧ crc16 (w.b0 :: w.b1 :: w.b2 :: w.b3 :: w.payload) = w.check ∧ w.b0 &&& 0x60#8 ≠ 0#8 ∧
      w.read = .discard) := by decide +kernel
/-! ### Receipts that describe stations -/

theorem test_hyp_reports :
    ∀ p ∈ [Payload.presence .run 0, .refused 7 .full, .demand 3, .tray .empty, .status {}],
      (tRx 3 0 p tRun).receives (tFrame 3 0 p) [] := by decide +kernel
theorem test_reports : ∀ c ∈ [(Instr.presenceReceipt, Payload.presence .run 0), (.refusedReceipt, .refused 7 .full),
      (.demandReceipt, .demand 3), (.trayReceipt, .tray .empty), (.statusReceipt, .status {})],
    after c.1 (tRx 3 0 c.2 tRun) id = some tRun := by decide +kernel
def tForming (p : PathState) (f : Payload) : State := { tRx 16 3 f tRun with recovery.path := p, link.lineLow := false }
theorem test_hyp_join :
    (∀ p ∈ [PathState.listen, .rollcall], (tForming p (.join {} false)).link.rx =
        { sender := 16, epoch := 3, payload := .join {} false, lineLow := false } :: [] ∧
      (tForming p (.join {} false)).table.entries.length = 16 ∧ (tForming p (.join {} false)).path = p) := by decide +kernel
theorem test_join : after .joinReceipt (tForming .listen (.join {} false))
    (fun t => (t.path, t.table.rollCall, t.table.joinDelay, t.isPresent 16)) = some (.rollcall, .running 1000, .running 40, true) := by
  decide +kernel
def tLateJoin (presence : Presence) (restarted : Bool) : State :=
  { (tRx 16 3 (.join {} false) tRun).setEntry 16 fun e => { e with presence := presence } with recovery.restarted := restarted }
theorem test_hyp_lateJoin :
    (∀ b ∈ [true, false], (tLateJoin .unknown b).link.rx =
        { sender := 16, epoch := 3, payload := .join {} false, lineLow := false } :: [] ∧ livePath (tLateJoin .unknown b).path = true ∧
      16 ≠ (tLateJoin .unknown b).own ∧ (tLateJoin .unknown b).isAbsent 16 = false ∧
      ((tLateJoin .unknown b).entry 16).presence = .unknown) ∧ (tLateJoin .present true).recovery.restarted = true ∧
    (tLateJoin .absent true).isAbsent 16 = true ∧ ((tLateJoin .present false).entry 16).presence ≠ .unknown := by decide +kernel
theorem test_lateJoin :
    after .joinReceipt (tLateJoin .unknown false) (fun t => (t.isPresent 16, (t.entry 16).silence)) = some (true, .running 600) ∧
    after .joinReceipt (tLateJoin .absent true) (fun t => t.isPresent 16) = some false := by decide +kernel
theorem test_hyp_restart :
    (∀ p ∈ [PathState.listen, .rollcall], (tForming p (.arrived 7 true)).link.rx = tFrame 16 3 (.arrived 7 true) :: [] ∧
      (tForming p (.arrived 7 true)).own = 2 ∧ (tForming p (.arrived 7 true)).canClaim) ∧
    (∀ f ∈ [Payload.presence .runout 3, .jam .late 1 (some 7), .holding {}, .offer 3 [7] 300 200, .halt, .ready true 9, .demand 3],
      runningFrame (tFrame 16 3 f) = true) ∧ runningFrame (tFrame 0 3 (.presence .run 3)) = true ∧
    (∀ f ∈ [Payload.presence .listen 3, .status {}, .join {} false], runningFrame (tFrame 16 3 f) = false) ∧
    runningFrame (tFrame 0 3 .halt) = false := by decide +kernel
theorem test_restart : after .arrivedReceipt (tForming .rollcall (.arrived 7 true))
    (fun t => (t.path, t.recovery.epoch, t.presentList, t.link.slot.map (·.payload))) =
      some (.stopping, 4, [2], some (.jam .restart 0 none)) := by decide +kernel
theorem test_restartByEachKind :
    (∀ f ∈ [Payload.presence .runout 3, .jam .late 1 (some 7), .holding {}, .offer 3 [7] 300 200, .halt],
      after (receiptOf f) (tForming .listen f) (fun t => (t.path, t.recovery.epoch, t.recovery.restarted)) = some (.stopping, 4, true)) ∧
    after .statusReceipt (tForming .listen (.status {})) (fun t => (t.path, t.link.rx)) = some (.listen, []) := by decide +kernel
theorem test_hyp_probe :
    (∀ p ∈ [PathState.run, .unfit, .silentAbsent, .silent],
      ({ tRx 0 0 (.probe 2) tRun with recovery.path := p } : State).link.rx =
        { sender := 0, epoch := 0, payload := .probe 2, lineLow := false } :: []) ∧ tRun.own = 2 ∧ tRun.txRoom = true := by decide +kernel
theorem test_probe :
    after .probeReceipt { tRx 0 0 (.probe 2) tRun with recovery.path := .unfit, table.unfit := some .missingRole }
      (fun t => t.link.queue.map (·.payload)) = some [.status { pathState := .unfit, epoch := 2 }] ∧
    after .probeReceipt { tRx 0 0 (.probe 2) tRun with recovery.path := .silent } (fun t => t.link.queue) = some [] := by decide +kernel

/-! ### Receipts that describe sheets -/

def tIntent : IntentFields :=
  { serial := 9, job := 4, index := 1, exit := 3, bin := 1, front := 70, frontPass := 6, route := [1, 2, 3] }
def tSheets (rs : List SheetRecord) (sender : Pos) (p : Payload) : State :=
  let s := tRx sender 0 p (tState .imaging .clearsDown .run)
  { s with roster.records := rs, roster.lastSerial := some 8 }
theorem test_hyp_passes : ∀ r ∈ [tSheet 7 2, { tSheet 7 2 with duplex := true, backPass := some 9, sides := 1 }, { tSheet 7 2 with sides := 2 },
    { tSheet 7 2 with purgeRouted := true }], (r.duplex = true ↔ r.backPass.isSome) := by decide +kernel
theorem test_passTest :
    (tSheets [tSheet 7 2] 0 .halt).passTest tIntent = true ∧
    (tSheets [tSheet 7 2] 0 .halt).passTest { tIntent with frontPass := 5 } = false ∧
    (tSheets [] 0 .halt).passTest { tIntent with duplex := true, backPass := 6 } = false ∧
    (tSheets [] 0 .halt).passTest { tIntent with reprintOf := some 1 } = false ∧
    ({ tSheets [] 0 .halt with roster.planInForce := some 7 } : State).passTest { tIntent with reprintOf := some 1 } = false ∧
    ({ tSheets [] 0 .halt with roster.planInForce := some 6 } : State).passTest { tIntent with reprintOf := some 1 } = true := by
  decide +kernel
/-- The eight conditions of the route test, each failed by one INTENT. -/
theorem test_routeTest :
    let s := tSheets [] 0 .halt
    s.routeTest tIntent = true ∧
    ∀ i ∈ [{ tIntent with serial := 0 }, { tIntent with bin := 4 }, { tIntent with route := [3] }, { tIntent with route := [1, 2, 5, 3] },
        { tIntent with media := 1 }, { tIntent with exit := 2 }, { tIntent with route := [1, 3] }, { tIntent with duplex := true, backPass := 7 },
        { tIntent with bin := 3, exit := 1 }], s.routeTest i = false := by decide +kernel
theorem test_hyp_intent :
    (let s := tSheets [tSheet 7 2] 0 (.intent tIntent)
     s.receives (tFrame 0 0 (.intent tIntent)) [] ∧ s.refusal tIntent = none ∧ s.roster.phase = .normal ∧
      s.refusal { tIntent with serial := 7 } = some .duplicate ∧ s.refusal { tIntent with serial := 8 } = some .order ∧
      s.refusal { tIntent with route := [1, 3] } = some .route ∧ s.refusal { tIntent with frontPass := 5 } = some .pass ∧
      ({ s with roster.phase := .recovery } : State).refusal tIntent = some .recovery) ∧
    ({ tSheets [] 0 (.intent tIntent) with roster.records := (List.range 48).map fun n => tSheet (BitVec.ofNat 16 (n + 100)) 2 } : State).refusal
      tIntent = some .full ∧
    (let s := tState .feed .holds .run
     let t : State := { s with profile := some { tProf .feed .holds with position := 1 } }
     t.publishing = some t.own ∧ tRun.publishing ≠ some tRun.own) := by decide +kernel
def tFullIntake : State :=
  tSheets ((List.range 12).map fun n => { tSheet (BitVec.ofNat 16 (n + 100)) 1 with stage := .announced, holder := none }) 0 (.intent tIntent)
theorem test_hyp_refusals :
    tFullIntake.roster.phase = .normal ∧ tFullIntake.roster.records.length < 48 ∧ tIntent.route.head? = some 1 ∧
      (tFullIntake.intake 1).length = 12 ∧ tFullIntake.refusal tIntent = some .full ∧
    (let s := tSheets [tSheet 7 2] 0 (.intent tIntent)
     (s.intake 1).length < 12 ∧ s.record 9 = none ∧ s.roster.lastSerial = some 8 ∧ precedes 8 9 = true ∧
      s.routeTest tIntent = true ∧ s.passTest { tIntent with frontPass := 5 } = false ∧ s.passTest tIntent = true) := by decide +kernel
theorem test_intent :
    after .intentReceipt (tSheets [tSheet 7 2] 0 (.intent tIntent)) (fun t => (t.roster.records.map (·.serial), t.roster.lastSerial)) =
      some ([7, 9], some 9) ∧
    after .intentReceipt (tSheets [tSheet 7 2] 0 (.intent { tIntent with serial := 7 })) (fun t => t.roster.records.map (·.serial)) =
      some [7] := by decide +kernel
def tAnnounced (x : Serial) (job : Byte) : SheetRecord := { tSheet x 1 with stage := .announced, holder := none, job := job }
theorem test_hyp_withdraw :
    let s := tSheets [tAnnounced 7 4, tSheet 8 2, tAnnounced 9 5] 0 (.withdraw 4)
    s.receives (tFrame 0 0 (.withdraw 4)) [] ∧ s.roster.phase = .normal ∧
      (∃ r ∈ s.roster.records, r.stage = .announced ∧ r.job = 4) ∧ (∀ r ∈ s.roster.records, r.stage = .announced → r.job ≠ 6) ∧
      ({ s with roster.phase := .recovery } : State).roster.phase = .recovery := by decide +kernel
theorem test_withdraw :
    after .withdrawReceipt (tSheets [tAnnounced 7 4, tSheet 8 2, tAnnounced 9 5] 0 (.withdraw 4)) (fun t => t.roster.records.map (·.serial)) =
      some [8, 9] := by decide +kernel
theorem test_hyp_handoffFrames :
    (∀ p ∈ [Payload.offer 2 [7] 300 200, .accept 1 [7] 2, .defer 1 [7] .room 0, .defer 1 [7] .order 0],
      (tSheets [tSheet 7 1] 1 p).receives (tFrame 1 0 p) []) ∧ (tSheets [tSheet 7 1] 1 .halt).roster.phase = .normal := by decide +kernel
def tOffered : SheetRecord := { tSheet 7 2 with handoff := some { dest := 3 } }
theorem test_handoffFrames :
    after .offerReceipt (tSheets [tSheet 7 2] 2 (.offer 3 [7] 300 200)) (fun t => t.roster.records.map (·.handoff)) = some [some { dest := 3 }] ∧
    after .acceptReceipt (tSheets [tOffered] 3 (.accept 2 [7] 2)) (fun t => t.roster.records.map (·.handoff)) =
      some [some { dest := 3, accepted := true }] ∧
    after .deferReceipt (tSheets [tOffered] 3 (.defer 2 [7] .room 0)) (fun t => t.roster.records.map (·.handoff)) = some [none] ∧
    after .deferReceipt (tSheets [tOffered] 3 (.defer 2 [7] .drive 0)) (fun t => t.roster.records.map (·.handoff)) =
      some [some { dest := 3 }] := by decide +kernel
/-- The survey of epoch 4 has closed; sheet 7 delivers. -/
def tClosed (r : SheetRecord) (sender : Pos) (p : Payload) : State :=
  let s := tRx sender 4 p (tState .transport .clearsDown .runout)
  { s with
    roster.phase := .recovery, roster.stage := .closed, roster.epoch := 4, recovery.epoch := 4, recovery.clearanceEpoch := 4
    roster.records := [r] }
def tDelivering : SheetRecord := { tSheet 7 2 with fate := some .deliver }
theorem test_hyp_recoveryHandoff :
    let s := tClosed tDelivering 2 (.offer 3 [7] 300 200)
    s.receives (tFrame 2 4 (.offer 3 [7] 300 200)) [] ∧ s.takesHandoff 4 tDelivering ∧ ¬ s.takesHandoff 3 tDelivering ∧
      ¬ s.takesHandoff 4 { tDelivering with fate := some .keep } ∧ s.nextStation tDelivering = some 3 ∧
      tDelivering.stage = .fed ∧ tDelivering.holder = some 2 := by decide +kernel
theorem test_recoveryHandoff :
    after .offerReceipt (tClosed tDelivering 2 (.offer 3 [7] 300 200)) (fun t => t.roster.records.map (·.handoff)) =
      some [some { dest := 3 }] ∧
    after .offerReceipt (tClosed { tDelivering with fate := some .keep } 2 (.offer 3 [7] 300 200))
      (fun t => t.roster.records.map (·.handoff)) = some [none] ∧
    after .acceptReceipt (tClosed { tDelivering with handoff := some { dest := 3 } } 3 (.accept 2 [7] 2))
      (fun t => t.roster.records.map (·.handoff)) = some [some { dest := 3, accepted := true }] ∧
    after .deferReceipt (tClosed { tDelivering with handoff := some { dest := 3 } } 3 (.defer 2 [7] .room 0))
      (fun t => t.roster.records.map (·.handoff)) = some [none] := by decide +kernel
theorem test_hyp_offer :
    (let s := tSheets [tSheet 7 1] 1 (.offer 2 [7] 300 200)
     let v : State := (s.taken []).applyOffer 1 2 0 [7]
     s.receives (tFrame 1 0 (.offer 2 [7] 300 200)) [] ∧ s.own = 2 ∧ movingPath v.path = true ∧ 1 ∈ (v.mapOf v.own).upstream ∧
      v.boundHere 1 [7] = true ∧ v.runoutOffer 0 [7] = true ∧ v.txRoom = true ∧ v.deferReason [7] = none ∧
      ({ v with drive.state := .spinning } : State).deferReason [7] = some .drive ∧
      ({ v with track.queue := [tEntry 1, tEntry 2, tEntry 3] } : State).deferReason [7] = some .room) ∧
    ((tSheets [tSheet 7 3] 1 (.offer 2 [7] 300 200)).boundHere 1 [7] = false) := by decide +kernel
theorem test_offerReasons :
    (let s := tSheets [tSheet 7 1, tSheet 8 1] 1 (.offer 2 [7] 300 200)
     s.deferReason [7, 7] = some .room ∧ ({ s with recovery.path := .resuming } : State).deferReason [7] = some .state) ∧
    tMerge.deferReason [9] = some .order ∧ tMerge.deferReason [8, 9] = some .room ∧ tMerge.deferReason [8] = none ∧
    ({ tBins { state := .finishing, openSet := some tOpen } .run with roster.records := [{ tSheet 7 1 with bin := 3, exit := 2 }] }
      : State).deferReason [7] = some .finishing := by decide +kernel
theorem test_offer :
    after .offerReceipt (tSheets [tSheet 7 1] 1 (.offer 2 [7] 300 200)) (fun t => (t.track.expected.map (·.serial), t.link.queue.map (·.payload))) =
      some ([7], [.accept 1 [7] 2]) ∧
    after .offerReceipt { tSheets [tSheet 7 1] 1 (.offer 2 [7] 300 200) with drive.state := .off }
      (fun t => (t.handoff.deferred.map (·.serials), t.link.queue.map (·.payload))) = some ([[7]], [.defer 1 [7] .drive 3]) := by
  decide +kernel
def tAwaiting (c : StopClass) (p : Payload) : State :=
  { tRx 3 0 p (tState .transport c .run) with
    roster.records := [tOffered], track.queue := [{ tEntry 7 with offer := .offered, deferred := true }]
    handoff.offers := [{ dest := 3, state := .awaiting, offered := [7], answer := .running 9 }] }
theorem test_hyp_answers :
    (let s := tAwaiting .holds (.accept 2 [7] 2)
     s.receives (tFrame 3 0 (.accept 2 [7] 2)) [] ∧ (s.track.queue.map (·.serial)).Nodup ∧ s.path = .run ∧ s.own = 2 ∧
      s.matchesOffer 3 s.own [7] true = true ∧ s.isHolds = true ∧ s.drive.gateHeld = false) ∧
    (∀ r ∈ [DeferReason.room, .order], let s := tAwaiting .holds (.defer 2 [7] r 0)
      s.receives (tFrame 3 0 (.defer 2 [7] r 0)) [] ∧ s.matchesOffer 3 s.own [7] false = true) := by decide +kernel
/-- After a recovery, at a station that is still in the epoch before it. -/
def tOldEpoch (p : Payload) : State :=
  { tAwaiting .holds p with recovery.epoch := 9, roster.planInForce := some 4 }
theorem test_hyp_staleAnswers :
    (tOldEpoch (.accept 2 [7] 2)).roster.planInForce.isSome ∧ (0 : Epoch) ≠ (tOldEpoch (.accept 2 [7] 2)).recovery.epoch ∧
      (tOldEpoch (.accept 2 [7] 2)).matchesOffer 3 2 [7] true = true ∧
      (tOldEpoch (.defer 2 [7] .order 0)).matchesOffer 3 2 [7] false = true := by decide +kernel
theorem test_staleAnswers :
    after .acceptReceipt (tOldEpoch (.accept 2 [7] 2)) (fun t => t.track.queue.map fun e => (e.offer, e.release)) =
      some [(.accepted, false)] ∧
    after .deferReceipt (tOldEpoch (.defer 2 [7] .order 0)) (fun t => t.track.queue.map (·.deferred)) = some [true] := by decide +kernel
theorem test_answers :
    after .acceptReceipt (tAwaiting .holds (.accept 2 [7] 2)) (fun t => (t.track.queue.map fun e => (e.offer, e.deferred, e.release), t.drive.gate)) =
      some ([(.accepted, false, true)], true) ∧
    after .deferReceipt (tAwaiting .holds (.defer 2 [7] .room 0)) (fun t => t.handoff.offers.map fun o => (o.state, o.reoffer)) =
      some [(.retry, .running 50)] ∧
    after .deferReceipt (tAwaiting .holds (.defer 2 [7] .order 0)) (fun t => t.handoff.offers.map fun o => (o.state, o.offered)) =
      some [(.deferred, [7])] := by decide +kernel
/-- Answers in RUNOUT and RESUMING; a DEFER(ROOM) that declares a free slot. -/
def tRunoutAnswer (path : PathState) (p : Payload) : State := { tAwaiting .holds p with recovery.path := path }
theorem test_hyp_answersElsewhere : (∀ path ∈ [PathState.runout, .resuming],
    (tRunoutAnswer path (.accept 2 [7] 2)).receives (tFrame 3 0 (.accept 2 [7] 2)) [] ∧
      (tRunoutAnswer path (.accept 2 [7] 2)).matchesOffer 3 2 [7] true = true ∧ movingPath path = true) ∧
    (let s := tAwaiting .holds (.defer 2 [7] .room 1)
     s.hasRole .exit = false ∧ (∃ e ∈ s.track.queue.head?, e.serial = 7 ∧ e.leadZone = s.lastSensor) ∧
      (∃ q ∈ s.record 7, q.stage = .fed ∧ q.holder = some s.own ∧ s.nextStation q = some 3) ∧
      (∃ o ∈ s.offerTo 3, o.retryMet = false) ∧ s.txRoom = true) := by decide +kernel
theorem test_answersElsewhere :
    after .acceptReceipt (tRunoutAnswer .runout (.accept 2 [7] 2)) (fun t => t.handoff.offers.map (·.state)) = some [.idle] ∧
    after .deferReceipt (tRunoutAnswer .resuming (.defer 2 [7] .order 0)) (fun t => (t.handoff.offers.map (·.state), t.track.queue.map (·.offer))) =
      some ([.deferred], [.offered]) ∧
    after .deferReceipt (tAwaiting .holds (.defer 2 [7] .room 1)) (fun t => (t.handoff.offers.map (·.state), t.link.queue.map (·.payload))) =
      some ([.awaiting], [.offer 3 [7] 300 200]) ∧
    after .deferReceipt (tRunoutAnswer .runout (.defer 2 [7] .room 1)) (fun t => t.handoff.offers.map fun o => (o.state, o.retryMet)) =
      some [(.retry, true)] := by decide +kernel
theorem test_hyp_arrived :
    (∀ pk ∈ [true, false], (tSheets [tSheet 7 1] 2 (.arrived 7 pk)).receives (tFrame 2 0 (.arrived 7 pk)) []) ∧
    (tSheets [tSheet 7 1] 2 .halt).record 7 = some (tSheet 7 1) ∧ (tSheets [tSheet 7 1] 2 .halt).nextStation (tSheet 7 1) = some 2 ∧
    (tSheets [tAnnounced 7 4] 1 .halt).record 7 = some (tAnnounced 7 4) ∧ (tAnnounced 7 4).route.head? = some 1 := by decide +kernel
theorem test_arrived :
    after .arrivedReceipt (tSheets [tSheet 7 1] 2 (.arrived 7 false)) (fun t => t.roster.records.map fun r => (r.holder, r.routeIndex)) =
      some [(some 2, 2)] ∧
    after .arrivedReceipt (tSheets [tAnnounced 7 4] 1 (.arrived 7 true)) (fun t => t.roster.records.map fun r => (r.stage, r.holder)) =
      some [(.fed, some 1)] ∧
    after .arrivedReceipt (tSheets [tSheet 7 1] 3 (.arrived 7 false)) (fun t => t.roster.records) = some [tSheet 7 1] := by decide +kernel
def tDemand : State :=
  { tRx 2 0 (.arrived 7 true) (tState .feed .holds .run) with
    roster.records := [{ tSheet 7 2 with stage := .announced, holder := none, route := [2, 3] }] }
theorem test_hyp_demand :
    tDemand.receives (tFrame 2 0 (.arrived 7 true)) [] ∧ tDemand.hasRole .feed = true ∧ tDemand.roster.phase = .normal ∧
      tDemand.feed.crossing = .armed ∧ tDemand.path = .run ∧ tDemand.handoff.deferred = [] ∧ tDemand.track.queue = [] ∧
      tDemand.txRoom = true ∧ tDemand.prof.demandThreshold ≤ 12 := by decide +kernel
theorem test_demand : after .arrivedReceipt tDemand (fun t => (t.feed.crossing, t.link.queue.map (·.payload))) =
    some (.spent, [.demand 12]) := by decide +kernel
theorem test_recoveryArrived :
    (tClosed tDelivering 3 (.arrived 7 false)).takesCustody tDelivering ∧
      ¬ (tClosed tDelivering 3 .halt).takesCustody { tDelivering with fate := some .keep } ∧
    after .arrivedReceipt (tClosed tDelivering 3 (.arrived 7 false)) (fun t => t.roster.records.map (·.holder)) = some [some 3] ∧
    after .arrivedReceipt (tClosed { tDelivering with fate := some .keep } 3 (.arrived 7 false)) (fun t => t.roster.records.map (·.holder)) =
      some [some 2] := by decide +kernel
def tDuplex : SheetRecord := { tSheet 7 2 with duplex := true, backPass := some 9 }
theorem test_hyp_pass :
    (tSheets [tDuplex] 2 (.pass 7 1 5)).receives (tFrame 2 0 (.pass 7 1 5)) [] ∧ (tSheets [tDuplex] 2 .halt).record 7 = some tDuplex ∧
      tDuplex.pending = some 5 ∧ ({ tDuplex with sides := 1 } : SheetRecord).pending = some 9 ∧ (tSheets [tDuplex] 2 .halt).roster.phase = .normal ∧
      (tDuplex.duplex = true ↔ tDuplex.backPass.isSome) ∧ tDuplex.holder = some 2 ∧ (tSheets [tDuplex] 2 .halt).record 8 = none := by decide +kernel
theorem test_pass :
    after .passReceipt { tSheets [tDuplex] 2 (.pass 7 1 5) with imaging.passes := [(7, 1)] }
      (fun t => (t.roster.records.map fun r => (r.sides, r.pending), t.imaging.passes)) = some ([(1, some 9)], []) ∧
    after .passReceipt (tSheets [tDuplex] 2 (.pass 7 1 9)) (fun t => t.roster.records.map (·.sides)) = some [0] := by decide +kernel
theorem test_hyp_delivered :
    let s := tSheets [tSheet 7 3, tSheet 8 2] 3 (.delivered 7 0)
    s.receives (tFrame 3 0 (.delivered 7 0)) [] ∧ s.roster.phase = .normal ∧ s.record 7 = some (tSheet 7 3) ∧
      (tSheet 7 3).holder = some 3 ∧ s.moving 7 = false ∧ s.record 8 = some (tSheet 8 2) ∧ (tSheet 8 2).holder ≠ some 3 := by decide +kernel
theorem test_delivered :
    after .deliveredReceipt (tSheets [tSheet 7 3, tSheet 8 2] 3 (.delivered 7 0)) (fun t => t.roster.records.map (·.serial)) = some [8] ∧
    after .deliveredReceipt (tSheets [tSheet 7 3, tSheet 8 2] 3 (.delivered 8 0)) (fun t => t.roster.records.map (·.serial)) = some [7, 8] := by
  decide +kernel
def tPurged : SheetRecord := { tSheet 7 3 with fate := some .purge, job := 4 }
theorem test_hyp_purgedDelivered :
    let s := tClosed tPurged 3 (.delivered 7 0)
    s.receives (tFrame 3 4 (.delivered 7 0)) [] ∧ s.record 7 = some tPurged ∧ s.takesCustody tPurged ∧ tPurged.stage = .fed ∧
      tPurged.holder = some 3 ∧ tPurged.purgeRouted = false ∧ s.recovery.account.purged = [] ∧
      ¬ s.takesCustody { tPurged with fate := some .keep } := by decide +kernel
theorem test_purgedDelivered :
    after .deliveredReceipt (tClosed tPurged 3 (.delivered 7 0)) (fun t => (t.roster.records, t.recovery.account.purged.map (·.replaced))) =
      some ([], [7]) ∧
    after .deliveredReceipt (tClosed { tPurged with fate := some .keep } 3 (.delivered 7 0)) (fun t => t.roster.records.length) =
      some 1 ∧
    after .passReceipt (tClosed { tPurged with fate := some .keep } 3 (.pass 7 1 5)) (fun t => t.roster.records.map (·.sides)) =
      some [0] := by decide +kernel
def tEjecting : State :=
  { tRx 3 4 (.setDone 1 4 6 .forfeited) (tState .transport .clearsDown .runout) with
    recovery.fates.forfeited := [{ exit := 3, bin := 1, job := 4, set := 6, eject := true }] }
theorem test_hyp_setDone :
    tEjecting.receives (tFrame 3 4 (.setDone 1 4 6 .forfeited)) [] ∧ tEjecting.roleIs 3 .exit = true ∧
      (tEjecting.recovery.fates.forfeited.find? fun g =>
        g.eject && !g.ejected && g.exit == 3 && g.bin == 1 && g.job == 4 && g.set == 6) =
          some { exit := 3, bin := 1, job := 4, set := 6, eject := true } ∧ tEjecting.recovery.account.ejected = [] ∧
      (tEjecting.recovery.fates.forfeited.find? fun g =>
        g.eject && !g.ejected && g.exit == 3 && g.bin == 2 && g.job == 4 && g.set == 6) = none := by decide +kernel
theorem test_setDone : after .setDoneReceipt tEjecting
    (fun t => (t.recovery.fates.forfeited.map (·.complete), t.recovery.account.ejected.map (·.bin), t.path)) =
      some ([true], [1], .clearance) ∧
    after .setDoneReceipt { tEjecting with recovery.account.ejected := [{ exit := 3, bin := 1, job := 9 }] }
      (fun t => t.recovery.account.ejected.map (·.job)) = some [9] := by decide +kernel

/-- 10 R168, R170, 06 R105: sheet 9 is delivered, the set of bin 3 is ejected from an empty tray, and the offer of sheet 7, deferred
with FINISHING, is accepted; a tray that reads a sheet leaves the bin EJECTING and the offer in the list. -/
def tEjectStart (reads : Bool) : State :=
  let b := tBins { state := .finishPending, openSet := some tOpen } .runout
  { b with
    link.rx := [tFrame 3 0 (.delivered 9 0)], inputs.sett := [{}, {}, { settled := reads }]
    roster.records := [{ tSheet 7 1 with bin := 3 }, { tSheet 9 3 with fate := some .purge }]
    handoff.deferred := [{ upstream := 1, serials := [7] }]
    recovery.fates.details := [{ serial := 7, moving := true, runPath := [2, 3] }, { serial := 9, moving := true, runPath := [3] }]
    recovery.fates.forfeited := [{ exit := 2, bin := 3, job := 4, set := 6, eject := true }] }
theorem test_ejectStart :
    (tEjectStart false).deferReason [7] = some .finishing ∧
    after .deliveredReceipt (tEjectStart false)
      (fun t => ((t.bin 3).state, t.link.queue.map (·.payload), t.track.expected.map (·.serial), t.handoff.deferred)) =
      some (.empty, [.setDone 3 4 6 .forfeited, .accept 1 [7] 2], [7], []) ∧
    after .deliveredReceipt (tEjectStart true)
      (fun t => ((t.bin 3).state, t.link.queue.map (·.payload), t.handoff.deferred.map (·.serials))) =
      some (.ejecting, [], [[7]]) := by decide +kernel

/-! ### Receipts that carry a recovery -/

theorem test_hyp_jam :
    (∀ p ∈ [Payload.jam .late 1 (some 7), .jam .restart 0 none, .halt], (tRx 3 9 p tRun).receives (tFrame 3 9 p) []) ∧
    (tRx 3 9 .halt tRun).behind 9 ∧ (tRx 3 9 .halt (tState .transport .clearsDown .plan)).behind 9 ∧
    tRun.recovery.following = false ∧ tRun.roster.epoch ≠ 9 ∧ tRun.recovery.jams.length < 8 ∧ tFull.recovery.jams.length = 8 := by
  decide +kernel
theorem test_jam :
    after .jamReceipt (tRx 3 9 (.jam .late 1 (some 7)) tRun)
      (fun t => (t.roster.phase, t.roster.epoch, t.path, t.recovery.epoch, t.recovery.jams)) =
      some (.recovery, 9, .stopping, 9, [{ epoch := 9, kind := .jam .late, station := 3, named := [7] }]) ∧
    after .jamReceipt (tRx 3 0 (.jam .late 1 (some 7)) tRun) (fun t => (t.roster.phase, t.recovery.jams)) = some (.normal, []) := by
  decide +kernel
theorem test_hyp_followingBehind :
    let s : State := { tRx 3 9 .halt (tState .transport .clearsDown .survey) with recovery.restarted := true, recovery.following := true }
    s.receives (tFrame 3 9 .halt) [] ∧ s.behind 9 ∧ s.roster.epoch ≠ 9 ∧
      after .haltReceipt s (fun t => (t.path, t.recovery.epoch, t.recovery.claim)) = some (.stopping, 9, .running 100) := by decide +kernel
theorem test_restartClaimAnswered :
    after .jamReceipt (tRx 3 9 (.jam .restart 0 none) tRun)
      (fun t => ((t.entry 3).restarted, t.recovery.escalated, t.link.queue.map (·.payload))) =
        some (true, true, [.join (tProf .transport .clearsDown).summary false]) := by decide +kernel
theorem test_hyp_jamListFull :
    let s : State := { tRx 3 9 .halt tFull with link.rx := [tFrame 3 9 .halt] }
    (∀ a ∈ s.recovery.jams, JamEntry.same { epoch := 9, kind := .halt, station := 0, named := [] } a = false) ∧
      8 ≤ s.recovery.jams.length ∧ after .haltReceipt s (fun t => (t.recovery.jams.length, t.recovery.escalated)) = some (8, true) := by
  decide +kernel
theorem test_halt : after .haltReceipt (tRx 0 9 .halt tRun) (fun t => (t.path, t.recovery.jams)) =
    some (.stopping, [{ epoch := 9, kind := .halt, station := 0 }]) := by decide +kernel

/-- In SURVEY of epoch 4, positions 1 and 2 heard. -/
def tSurvey (sender : Pos) (p : Payload) : State :=
  let s := tRx sender 4 p (tState .transport .clearsDown .survey)
  { s with
    roster.phase := .recovery, roster.stage := .open, roster.epoch := 4, roster.records := [tSheet 7 2]
    recovery.epoch := 4, recovery.jams := [{ epoch := 4 }]
    table.entries := s.table.entries.mapIdx fun i x => if i < 2 then { x with holdingReceived := true } else x }
def tHolding (final : Bool) : HoldingFields := { final := final, purgeSpace := 5, entries := [{ serial := some 7, zone := 2 }] }
theorem test_hyp_holding :
    (∀ b ∈ [true, false], let s := tSurvey 3 (.holding (tHolding b))
      s.receives (tFrame 3 4 (.holding (tHolding b))) [] ∧ s.shapeLaw ∧ s.roster.epoch = 4 ∧ s.roster.stage = .open ∧
        (s.entry 3).holdingReceived = false ∧ s.recovery.restarted = false ∧
        ∀ q ∈ s.presentList, q = 3 ∨ (s.entry q).holdingReceived = true) ∧
    (let s := tSurvey 3 (.holding (tHolding true))
     let t := s.setEntry 1 fun e => { e with holdingReceived := false }
     ∃ q ∈ t.presentList, q ≠ 3 ∧ (t.entry q).holdingReceived = false) := by decide +kernel
theorem test_holding :
    after .holdingReceipt (tSurvey 3 (.holding (tHolding false)))
      (fun t => ((t.positionReport 3).entries.map (·.serial), t.roster.stage, t.path)) = some ([some 7], .open, .survey) ∧
    after .holdingReceipt (tSurvey 3 (.holding (tHolding true))) (fun t => (t.roster.stage, t.path, t.roster.records.map (·.fate))) =
      some (.closed, .runout, [some .deliver]) := by decide +kernel
def tFirstHolding (low : Bool) : State :=
  let s := tSurvey 3 (.holding (tHolding false))
  { s with recovery.jams := [], link.rx := [{ tFrame 3 4 (.holding (tHolding false)) with lineLow := low }] }
theorem test_hyp_firstHolding : ∀ low ∈ [true, false],
    (tFirstHolding low).recovery.record.seen = false ∧ (tFirstHolding low).recovery.resurvey ≠ some 4 ∧
      (tFirstHolding low).recovery.jams.length ≤ 6 := by decide +kernel
theorem test_firstHolding :
    after .holdingReceipt (tFirstHolding true) (fun t => t.recovery.jams.map (·.kind)) = some [.lineHeld, .unclaimed] ∧
    after .holdingReceipt (tFirstHolding false) (fun t => t.recovery.jams.map (·.kind)) = some [.unclaimed] := by decide +kernel
theorem test_hyp_setlist :
    let s := tSurvey 3 (.setlist 1 4 6 [{ serial := 1 }] true)
    s.receives (tFrame 3 4 (.setlist 1 4 6 [{ serial := 1 }] true)) [] ∧ s.roster.stage = .open ∧
      (s.entry 3).holdingReceived = false ∧ (s.positionReport 3).sets = [] ∧
      ({ s with recovery.record.reports := [{ pos := 3, sets := [{ bin := 1, job := 4, set := 6 }] }] } : State).positionReport 3 =
        { pos := 3, sets := [{ bin := 1, job := 4, set := 6 }] } := by decide +kernel
theorem test_setlist : after .setlistReceipt (tSurvey 3 (.setlist 1 4 6 [{ serial := 1 }] true))
    (fun t => (t.positionReport 3).sets) = some [{ bin := 1, job := 4, set := 6, entries := [{ serial := 1 }], complete := true }] := by
  decide +kernel
/-- Position 3 has listed one entry of its set, position 1 has reported too. -/
def tListed : State :=
  { tSurvey 3 (.setlist 1 4 6 [{ serial := 1 }] true) with
    recovery.record.reports :=
      [{ pos := 1, purgeSpace := 9 }, { pos := 3, sets := [{ bin := 1, job := 4, set := 6, entries := [{ serial := 2 }] }] }] }
theorem test_setlistExtended : after .setlistReceipt tListed
    (fun t => ((t.positionReport 3).sets.map fun l => (l.entries.map (·.serial), l.complete), (t.positionReport 1).purgeSpace)) =
      some ([([2, 1], true)], 9) := by decide +kernel
theorem test_hyp_close :
    let s := tSurvey 1 (.close [3])
    s.receives (tFrame 1 4 (.close [3])) [] ∧ s.shapeLaw ∧ s.roster.epoch = 4 ∧ s.roster.stage = .open ∧ s.own ∉ [3] ∧ s.own ∈ [2] ∧
      s.rosterLaw ∧ ({ s with roster.stage := .closed } : State).roster.stage ≠ .open := by decide +kernel
theorem test_close :
    after .closeReceipt (tSurvey 1 (.close [3])) (fun t => (t.isAbsent 3, t.roster.stage, t.path, t.recovery.fates.reprint.map (·.replaced))) =
      some (true, .closed, .clearance, [7]) ∧
    after .closeReceipt (tSurvey 1 (.close [2])) (fun t => (t.path, t.roster.stage)) = some (.silentAbsent, .open) := by decide +kernel
theorem test_hyp_lastHolding :
    let s := tSurvey 3 (.holding { final := true })
    s.rosterLaw ∧ s.roster.stage = .open ∧
      after .holdingReceipt s (fun t => (t.roster.stage, t.recovery.fates.reprint.map (·.replaced), t.recovery.fates.omitted)) =
        some (.closed, [7], 0) := by decide +kernel
/-! ### The fates -/

/-- In SURVEY: a feeder and a third station that hold, an imaging station and an exit that clear down; a CLOSE ends the survey. -/
def tClosing (rs : List SheetRecord) (reports : List PosReport) : State :=
  let s := tSurvey 1 (.close [])
  let exit : TableEntry := { presence := .present, summary := some { role := .exit, stopClass := .clearsDown, capacity := 3, policy := .forfeit
                                                                     bins := [.finishing, .plain] } }
  let table := [tPresent .feed .holds [2], tPresent .imaging .clearsDown [3], tPresent .transport .holds [4], exit]
  { s with
    table.entries := table ++ List.replicate 12 { presence := .absent }
    table.map := [{ downstream := [2], purgePath := some [1, 2, 3, 4] }, { downstream := [3], purgePath := some [2, 3, 4] },
      { downstream := [4], purgePath := some [3, 4] }, { purgePath := some [4] }] ++ List.replicate 12 {}
    roster.records := rs.map fun r => { r with route := [1, 2, 3, 4], exit := 4 }
    recovery.record.reports := reports }
def tAt (p : Pos) (xs : List Serial) : PosReport :=
  { pos := p, purgeSpace := 9, entries := xs.map fun x => { serial := some x, zone := 1 } }
/-- Sheet 3 is nowhere, so the horizon of bin 1 is 3: before it 1 at rest and 2 on its way; after it 4, a blank sheet, 5, imaged, 6 with
no way past station 3, and 7 in the tray; 8, picked, 9 and 10, purge-routed, have no horizon. -/
def tFates : State :=
  tClosing [tSheet 1 3, tSheet 2 2, { tSheet 3 2 with last := true }, tSheet 4 3, { tSheet 5 3 with sides := 1 }, tSheet 6 2,
      { tSheet 7 1 with stage := .announced, holder := none }, { tSheet 8 1 with stage := .announced, holder := none, bin := 2 },
      { tSheet 9 4 with bin := 2 }, { tSheet 10 3 with purgeRouted := true }]
    [tAt 1 [8], tAt 2 [2, 6], tAt 3 [1, 4, 5, 10], { tAt 4 [9] with sets := [{ bin := 1, complete := true, entries := [{ serial := 3 }] }] }]
theorem test_hyp_fates : tFates.rosterLaw ∧ tFates.roster.stage = .open ∧ tFates.recovery.escalated = false ∧
    after .closeReceipt tFates (fun t => (t.roster.stage, t.recovery.fates.omitted, t.recovery.fates.horizons.map (·.serial))) =
      some (.closed, 0, [3]) := by decide +kernel
theorem test_fates :
    after .closeReceipt tFates (fun t => (t.roster.records.filterMap (·.fate), (t.detail 7).map (·.withdrawn), (t.detail 2).map (·.parkTarget))) =
      some ([.keep, .park, .lost, .release, .purge, .lost, .keep, .keep, .deliver, .purge], some true, some (some 3)) ∧
    after .closeReceipt (tClosing [tSheet 3 2, tSheet 6 2, { tSheet 10 2 with purgeRouted := true }] [tAt 2 [6, 10], tAt 4 []])
      (fun t => t.roster.records.filterMap (·.fate)) = some [.lost, .purge, .purge] ∧
    after .closeReceipt { tFates with recovery.escalated := true } (fun t => (t.roster.records.filterMap (·.fate), t.recovery.fates.reprint)) =
      some ([.lost, .lost, .lost, .lost, .lost, .lost, .keep, .lost, .lost, .lost], []) := by decide +kernel
/-- A held purge is LOST where its purge path crosses an absent station, and where the purge space is too small. -/
theorem test_purgeLost :
    let s := tClosing [tSheet 3 2, { tSheet 5 3 with sides := 1 }]
    let crossing := s [tAt 3 [5], tAt 4 []]
    (∀ x ∈ [(s [tAt 3 [5], tAt 4 []], Fate.purge), (s [tAt 3 [5], { tAt 4 [] with purgeSpace := 0 }], .lost),
        ({ crossing with table.map := crossing.table.map.set 2 { downstream := [4], purgePath := some [3, 5] } }, .lost)],
      after .closeReceipt x.1 (fun t => t.roster.records.map (·.fate)) = some [some .lost, some x.2]) := by decide +kernel
/-- The set sheet 3 is a record as well, and the account holds 4 and 20: each serial has one entry, that of its record first. -/
def tTwice : State :=
  { tFates with recovery.account.purged := [{ replaced := 4, front := 70 }, { replaced := 20, front := 71 }] }
theorem test_reprints :
    after .closeReceipt tTwice (fun t => t.recovery.fates.forfeited.map (·.bin)) = some [1] ∧
    after .closeReceipt tTwice (fun t => t.recovery.fates.reprint.map fun e => (e.index, e.replaced, e.front)) =
      some [(1, 3, 7), (2, 4, 7), (3, 5, 7), (4, 6, 7), (5, 20, 71)] ∧
    after .closeReceipt tFates (fun t => t.recovery.fates.reprint.map fun e => (e.last, e.carrier, e.lastEntry)) =
      some [(true, some 4, false), (false, none, false), (false, none, false), (false, none, true)] := by decide +kernel
/-- A set sheet that is no record moves the horizon back to itself and has an entry of its own. -/
theorem test_setSheetReprinted :
    let s := tClosing [tSheet 3 2]
      [{ tAt 4 [] with sets := [{ bin := 1, complete := true, entries := [{ serial := 2, front := 8, back := 9 }] }] }]
    after .closeReceipt s (fun t => t.recovery.fates.horizons.map (·.serial)) = some [2] ∧
    after .closeReceipt s (fun t => t.recovery.fates.reprint.map fun e => (e.replaced, e.back, e.duplex)) =
      some [(2, 9, true), (3, 0, false)] := by decide +kernel
theorem test_hyp_ready :
    tVote.receives (tFrame 3 4 (.ready true 9)) [] ∧ tVote.shapeLaw ∧ tVote.clearanceFrame (tFrame 3 4 (.ready true 9)) ∧
      tVote.recovery.firstDigest = some 9 ∧ tVote.recovery.fates.digest = some 9 ∧ tVote.recovery.restarted = false ∧
      tVote.presentList ≠ [] ∧ tVote.isPresent 3 = true ∧
      (∀ q ∈ tVote.presentList, q ≠ 3 → (tVote.entry q).lastReady = some { clear := true, digest := 9, epoch := 4 }) := by decide +kernel
theorem test_ready :
    after .readyReceipt tVote (fun t => (t.path, (t.entry 3).lastReady)) = some (.plan, some { clear := true, digest := 9, epoch := 4 }) ∧
    after .readyReceipt { tVote with link.rx := [tFrame 3 4 (.ready true 8)], recovery.mismatch := 2 }
      (fun t => (t.path, t.recovery.epoch, t.recovery.mismatch, t.recovery.escalated)) = some (.survey, 5, 3, true) := by decide +kernel
def tKept : State :=
  { tVote with roster.records := [{ tSheet 7 2 with fate := some .keep }], recovery.fates.details := [{ serial := 7 }] }
theorem test_hyp_revision :
    (∀ v ∈ [RevisionContent.removed 7, .unknown 1, .unknown 4], ({ tKept with link.rx := [tFrame 3 4 (.revision v)] } : State).receives
      (tFrame 3 4 (.revision v)) []) ∧
    tKept.clearanceFrame (tFrame 3 4 .halt) ∧ Revision.removed 7 ∉ tKept.recovery.revisions ∧
      (∃ r, tKept.record 7 = some r ∧ r.fate = some .keep) ∧ tKept.detail 7 = some { serial := 7 } ∧ tKept.recovery.escalated = false ∧
      Revision.removed 7 ∈ ({ tKept with recovery.revisions := [.removed 7] } : State).recovery.revisions := by
  refine ⟨?_, ?_, ?_, ⟨{ tSheet 7 2 with fate := some .keep }, ?_, ?_⟩, ?_, ?_, ?_⟩ <;> decide +kernel
theorem test_hyp_pendingRevision :
    let s : State := { tKept with recovery.pendingRevs := [.removed 7, .unknown 1], link.rx := [tFrame 2 4 (.revision (.removed 7))] }
    s.receives (tFrame 2 4 (.revision (.removed 7))) [] ∧ s.clearanceFrame (tFrame 2 4 (.revision (.removed 7))) ∧ s.own = 2 ∧
      s.recovery.doorMark = false ∧ s.recovery.pendingRevs.head? = some (.removed 7) ∧
      after .revisionReceipt s (fun t => t.recovery.pendingRevs) = some [.unknown 1] := by decide +kernel
theorem test_revision : after .revisionReceipt { tKept with link.rx := [tFrame 3 4 (.revision (.removed 7))] }
    (fun t => (t.path, t.recovery.epoch, t.recovery.clearanceEpoch, t.roster.records.map (·.fate))) =
      some (.clearance, 5, 5, [some .lost]) := by decide +kernel
def tPlan (absent : List Pos) (n : Nat) : PlanFields := { count := n, absent := absent, firstFree := 40 }
def tPlanning (p : Payload) : State := { tKept with recovery.path := .plan, link.rx := [tFrame 1 4 p] }
theorem test_hyp_plan :
    (∀ p ∈ [Payload.plan (tPlan [3] 0), .plan (tPlan [2] 1), .plan (tPlan [] 64), .planEntry {}],
      (tPlanning p).receives (tFrame 1 4 p) [] ∧ (tPlanning p).shapeLaw ∧ (tPlanning p).clearanceFrame (tFrame 1 4 p) ∧
        (tPlanning p).publishing = some 1) ∧ tKept.own ∉ [3] ∧ tKept.own ∈ [2] ∧ tKept.publishing ≠ some 3 := by decide +kernel
theorem test_plan :
    after .planReceipt (tPlanning (.plan (tPlan [3] 2))) (fun t => (t.recovery.planIn.header, t.isAbsent 3)) = some (some (tPlan [3] 2), true) ∧
    after .planEntryReceipt (tPlanning (.planEntry {})) (fun t => t.recovery.planIn.entries.length) = some 1 ∧
    after .planReceipt (tPlanning (.plan (tPlan [] 0))) (fun t => (t.path, t.roster.phase, t.roster.planInForce)) =
      some (.resuming, .normal, some 40) := by decide +kernel
theorem test_finalPlan : after .planReceipt (tPlanning (.plan (tPlan [] 0))) (fun t => t.roster.records.map fun r => (r.serial, r.fate)) =
    some [(7, none)] := by decide +kernel

/-- A PLAN of another sender, or of another epoch, at a restarted station. -/
theorem test_hyp_restartedPlan : ∀ x ∈ [(3, 4), (1, 9)], ∀ absent ∈ [[3], [2]],
    let f := tFrame x.1 x.2 (.plan (tPlan absent 0))
    let s := { tPlanning .halt with recovery.restarted := true, link.rx := [f] }
    s.receives f [] ∧ s.shapeLaw ∧ ¬ (s.clearanceFrame f ∧ s.publishing = some f.sender) ∧
      after .planReceipt s (fun t => (t.isAbsent 3, t.path == .silentAbsent, t.roster == s.roster)) =
        some (absent == [3], absent == [2], true) := by decide +kernel
/-- An escalated final PLAN at an exit station: a set marked STAY, a carrier, and a sheet that rests at another station. -/
def tFinal : State :=
  let s := tPlanning (.plan { tPlan [] 0 with escalated := true })
  { s with
    profile := some (tProf .exit .clearsDown), link.outOfStep := true
    exit.bins := [{ state := .open, openSet := some tOpen }, {}, {}]
    roster.records :=
      [{ tSheet 7 2 with fate := some .keep },
        { tSheet 8 2 with fate := some .release, duplex := true, back := some 9, backPass := some 6 },
        { tSheet 9 3 with fate := some .park }]
    recovery.fates := { s.recovery.fates with
      details := [{ serial := 7, rest := some { station := 3, routeIndex := 3 } }, { serial := 8 },
        { serial := 9, rest := some { station := 2, routeIndex := 2 }, parkTarget := some 3 }]
      reprint := [{ replaced := 5, carrier := some 8, front := 40, back := 41 }]
      forfeited := [{ exit := 2, bin := 1, job := 4, set := 6 }] } }
theorem test_hyp_finalPlan :
    let p := { tPlan [] 0 with escalated := true }
    tFinal.receives (tFrame 1 4 (.plan p)) [] ∧ tFinal.clearanceFrame (tFrame 1 4 (.plan p)) ∧ tFinal.publishing = some 1 ∧
      tFinal.shapeLaw ∧ 1 ∈ tFinal.binNumbers ∧ (∃ g ∈ tFinal.forfeitedSet 1, g.eject = false) ∧ tFinal.link.queue = [] ∧
      tFinal.link.slot = none ∧ tFinal.handoff.deferred = [] ∧ tFinal.link.lostSinceHolding = false ∧ tFinal.path = .plan := by
  decide +kernel
theorem test_finalPlanAtExit :
    after .planReceipt tFinal (fun t => t.roster.records.map fun r => (r.holder, r.routeIndex, r.front, r.back)) =
      some [(some 3, 3, 7, none), (some 2, 2, 40, some 41), (some 3, 3, 7, none)] ∧
    after .planReceipt tFinal (fun t => ((t.bin 1).openSet, t.link.queue.map (·.payload), t.link.outOfStep)) =
      some (none, [.setDone 1 4 6 .forfeited], false) := by decide +kernel

/-! ### Timers that run out -/

def tRoll : State := { tState .transport .clearsDown .rollcall with table.rollCall := .running 5, table.joinDelay := .running 0 }
/-- Three feeding, imaging and delivering stations. -/
def tFit : State :=
  let s := tState .imaging .clearsDown .rollcall
  { s with table.rollCall := .running 5 }
theorem test_hyp_rollCall :
    ({ tRun with recovery.path := .listen, table.listen := .running 0 } : State).shapeLaw ∧
    (let s : State := { tRun with recovery.path := .listen, table.listen := .running 0 }
     s.table.listen.runsOutIn (s.path == .listen && s.sending.isNone) 0) ∧
    tRoll.table.joinDelay.runsOutIn (tRoll.path == .rollcall) 0 ∧ tRoll.txRoom = true ∧
    tRoll.table.rollCall.runsOutIn (tRoll.path == .rollcall) 5 ∧ tRoll.isPresent tRoll.own = true ∧
    (tRoll.setEntry 2 fun _ => {}).isPresent tRoll.own = false ∧
    (∃ e ∈ (tRoll.setEntry 1 fun e => { e with duplicated := true }).table.entries, e.duplicated = true) ∧
    tFit.isPresent tFit.own = true ∧ (tFit.elapse 5).freezeTable.validate = none ∧
    Timer.runsOutIn (.running 1) (livePath tRun.path) 1 ∧ tRun.link.queue = [] ∧ tRun.link.slot = none ∧
    (tRun.entry 3).silence.runsOutIn (livePath tRun.path) 600 ∧ 3 ≠ tRun.own ∧ tRun.isPresent 3 = true ∧ tRun.canClaim := by
  decide +kernel
theorem test_rollCall :
    after .listenTimerExpiry { tRun with recovery.path := .listen, table.listen := .running 0 } (fun t => (t.path, t.table.joinDelay)) =
      some (.rollcall, .running 40) ∧
    after .joinDelayExpiry tRoll (fun t => t.link.queue.map (·.payload)) = some [.join (tProf .transport .clearsDown).summary false] ∧
    after .rollCallClose (tRoll.setEntry 2 fun _ => {}) (fun t => (t.path, t.table.listen)) = some (.listen, .running 1500) ∧
    after .rollCallClose (tRoll.setEntry 1 fun e => { e with duplicated := true }) (fun t => (t.path, t.table.unfit)) =
      some (.unfit, some .duplicatePosition) ∧
    after .rollCallClose tFit (fun t => (t.path, (t.mapOf 1).purgePath)) = some (.run, some [1, 2, 3]) := by decide +kernel
/-- A table whose frozen entries fail the check of each reason from 2 to 7. -/
def tUnfit (entries : List TableEntry) : State :=
  { tRoll with table.entries := entries ++ List.replicate (16 - entries.length) { presence := .absent } }
def tUps : List TableEntry := List.replicate 4 (tPresent .imaging .clearsDown [6])
theorem test_unfitReasons :
    (∀ es ∈ [[], tUps, tUps ++ [tPresent .feed .holds [6], tPresent .exit .holds []]], (tUnfit es).shapeLaw) ∧
    (tUnfit [tPresent .feed .holds [2], tPresent .exit .holds []]).validate = some .missingRole ∧
    (tUnfit [tPresent .feed .holds [4], tPresent .imaging .holds [3], tPresent .exit .holds []]).validate = some .missingDownstream ∧
    (tUnfit (tUps ++ [tPresent .feed .holds [6], tPresent .exit .holds []])).validate = some .upstreamCount ∧
    (tUnfit [tPresent .feed .clearsDown [2], tPresent .merge .holds [3], tPresent .imaging .holds [4], tPresent .exit .holds []]).validate =
      some .mergeUpstream ∧
    (tUnfit [tPresent .feed .holds [2], tPresent .imaging .holds [1], tPresent .exit .holds []]).validate = some .noPurgePath ∧
    (tUnfit [tPresent .feed .holds [3], tPresent .imaging .holds [1], tPresent .exit .holds []]).validate = some .feedDownstream ∧
    (tUnfit [tPresent .feed .holds [2], tPresent .imaging .holds [3], tPresent .exit .holds []]).validate = none := by decide +kernel
theorem test_presence :
    after .presenceTimerExpiry { tRun with table.presence := .running 1 } (fun t => t.link.queue.map (·.payload)) = some [.presence .run 0] ∧
    after (.silenceTimerExpiry 3) tRun (fun t => (t.link.slot.map (·.payload), (t.entry 3).silence)) =
      some (some (.jam .peerLost 0 (some 3)), .expired) := by decide +kernel

def tDriving (d : DriveState) (drdy : Bool) : State :=
  { tRun with drive := { state := d, spin := .running 7, halt := .running 8 }, inputs.drdy := { raw := drdy, settled := drdy } }
def tStopping (p : PathState) (d : DriveState) : State :=
  { tState .transport .clearsDown p with
    recovery.claim := .running 2, recovery.lineHeld := .running 9, recovery.survey := .running 4, drive.state := d
    roster.stage := .open, roster.phase := .recovery }
theorem test_hyp_driveTimers :
    (∀ b ∈ [true, false], (tDriving .spinning b).drive.spin.runsOutIn ((tDriving .spinning b).drive.state == .spinning) 7 ∧
      (tDriving .spinning b).canClaim ∧ ((tDriving .spinning b).elapse 7).reads .drdy = b) ∧
    (tDriving .halting true).drive.halt.runsOutIn ((tDriving .halting true).drive.state == .halting) 8 ∧
    (let s := tStopping .stopping .off
     s.recovery.claim.runsOutIn (livePath s.path) 2 ∧ s.recovery.lineHeld.runsOutIn (livePath s.path) 9 ∧ s.path = .stopping ∧
      s.lineIsLow = false ∧ s.drive.state = .off ∧ s.txRoom = true) ∧
    (tStopping .stopping .halting).recovery.driveJam = false ∧ (tStopping .run .off).path ≠ .stopping ∧
    (let s := tStopping .survey .off
     s.recovery.survey.runsOutIn (s.path == .survey) 4 ∧ s.roster.stage = .open ∧ s.roster.epoch = s.recovery.epoch ∧
      s.recovery.restarted = false) := by decide +kernel
theorem test_driveTimers :
    after .spinTimerExpiry (tDriving .spinning true) (fun t => (t.drive.state, t.drive.halt)) = some (.halting, .running 150) ∧
    after .spinTimerExpiry (tDriving .spinning false) (fun t => (t.drive.state, t.link.slot.map (·.payload))) =
      some (.off, some (.jam .drive 0 none)) ∧
    after .haltTimerExpiry (tDriving .halting true) (fun t => (t.drive.state, t.recovery.driveJam)) = some (.off, true) := by decide +kernel
theorem test_stopTimers :
    after .claimWindowExpiry (tStopping .stopping .off) (fun t => (t.path, t.recovery.survey, t.link.queue.map (·.tag))) =
      some (.survey, .running 500, [.report]) ∧
    after .claimWindowExpiry (tStopping .stopping .halting) (fun t => (t.path, t.recovery.claim)) = some (.stopping, .expired) ∧
    after .lineHeldTimerExpiry (tStopping .stopping .halting) (fun t => t.path) = some .survey ∧
    after .surveyTimerExpiry (tStopping .survey .off) (fun t => t.link.queue.map (·.payload)) = some [.close []] := by decide +kernel

def tPaced : State :=
  { tRun with
    roster.records := [tSheet 7 2]
    track.queue := [{ tEntry 7 with lead := .running 6, trail := .running 5 }]
    track.expected := [{ serial := 9, upstream := 1, timer := .running 4 }], track.pickTimer := .running 3
    track.pickCandidate := some 8, feed.retries := 1
    handoff.offers := [{ dest := 3, state := .awaiting, answer := .running 2, reoffer := .running 1, free := some 1 }]
    exit.bins := [{}, {}, { state := .finishing, finish := .running 1, fin := true, openSet := some tOpen }] }
def tRetry : State := { tPaced with handoff.offers := [{ dest := 3, state := .retry, reoffer := .running 1, free := some 1 }] }
theorem test_hyp_sheetTimers :
    tPaced.shapeLaw ∧ tPaced.canClaim ∧ (tPaced.offerTo 3).map (·.answer) = some (.running 2) ∧
    (tRetry.offerTo 3).map (fun o => (o.state, o.reoffer)) = some (.retry, .running 1) ∧ (tPaced.path == .run || tPaced.path == .runout) = true ∧
    (tPaced.item 9).map (·.timer) = some (.running 4) ∧ tPaced.paced 9 = true ∧
    (tPaced.occupant 7).map (fun e => (e.lead, e.trail)) = some (.running 6, .running 5) ∧ tPaced.entryRuns 7 = true ∧
    tPaced.track.pickTimer.runsOutIn (tPaced.path == .run) 3 ∧ 0 < tPaced.feed.retries ∧
    ({ tPaced with feed.retries := 0 } : State).feed.retries = 0 ∧ (tPaced.bin 3).finish.runsOutIn (movingPath tPaced.path) 1 ∧
    ({ tPaced with imaging.isync := .running 1 } : State).imaging.isync = .running 1 := by decide +kernel
theorem test_handoffTimers :
    after (.answerTimerExpiry 3) tPaced (fun t => t.link.slot.map (·.payload)) = some (some (.jam .noAnswer 0 none)) ∧
    after (.reOfferTimerExpiry 3) tRetry (fun t => (t.handoff.offers.map (·.offered), t.link.queue.map (·.payload))) =
      some ([[7]], [.offer 3 [7] 300 200]) := by decide +kernel
theorem test_paceTimers :
    after (.arrivalTimerExpiry 9) tPaced (fun t => t.link.slot.map (·.payload)) = some (some (.jam .late 0 (some 9))) ∧
    after (.leadTimerExpiry 7) tPaced (fun t => t.link.slot.map (·.payload)) = some (some (.jam .late 2 (some 7))) ∧
    after (.trailTimerExpiry 7) tPaced (fun t => t.link.slot.map (·.payload)) = some (some (.jam .stall 1 (some 7))) := by decide +kernel
theorem test_pickTimer :
    after .pickTimerExpiry tPaced (fun t => (t.feed.retries, t.feed.pickOut, t.track.pickTimer)) = some (0, true, .running 200) ∧
    after .pickTimerExpiry { tPaced with feed.retries := 0 } (fun t => (t.link.slot.map (·.payload), t.track.pickCandidate)) =
      some (some (.jam .misfeed 0 (some 8)), none) := by decide +kernel
theorem test_finishTimer : after (.finishTimerExpiry 3) tPaced (fun t => ((t.bin 3).state, (t.bin 3).fin, t.link.slot.map (·.payload))) =
    some (.finishPending, false, some (.jam .finish 3 none)) := by decide +kernel
theorem test_isync : after .isyncPulseEnd { tPaced with imaging.isync := .running 1 } (fun t => t.isync) = some false := by decide +kernel

end Sys2Proof.Tests
end

section
/-! PROOFS. The roster receipts that settle what WITHDRAW and PASS do, and the pass test of an INTENT (01 R5, R10, R13, R16). -/

namespace Sys2Proof.Machine

/-! ### Passes of a record (01 R5) -/

theorem SheetRecord.passes_purgeRouted (r : SheetRecord) (routed : r.purgeRouted = true) :
    r.pending = none ∧ r.outstanding = [] := by
  simp [SheetRecord.pending, SheetRecord.pendingAt, SheetRecord.outstanding, routed]

theorem SheetRecord.passes_unimaged (r : SheetRecord) (routed : r.purgeRouted = false) (sides : r.sides = 0) :
    r.pending = some r.frontPass ∧ r.outstanding = r.frontPass :: r.backPass.toList := by
  simp [SheetRecord.pending, SheetRecord.pendingAt, SheetRecord.outstanding, routed, sides]

theorem SheetRecord.passes_frontImaged (r : SheetRecord) (routed : r.purgeRouted = false) (sides : r.sides = 1)
    (duplex : r.duplex = true) : r.pending = r.backPass ∧ r.outstanding = r.backPass.toList := by
  simp [SheetRecord.pending, SheetRecord.pendingAt, SheetRecord.outstanding, routed, sides, duplex]

theorem SheetRecord.passes_simplexImaged (r : SheetRecord) (sides : r.sides = 1) (simplex : r.duplex = false) :
    r.pending = none ∧ r.outstanding = [] := by
  simp [SheetRecord.pending, SheetRecord.pendingAt, SheetRecord.outstanding, sides, simplex]

theorem SheetRecord.passes_bothImaged (r : SheetRecord) (sides : 2 ≤ r.sides) :
    r.pending = none ∧ r.outstanding = [] := by
  have not0 : r.sides ≠ 0 := by omega
  have not1 : r.sides ≠ 1 := by omega
  simp [SheetRecord.pending, SheetRecord.pendingAt, SheetRecord.outstanding, not0, not1]

/-- The stages of imaging of a record, in each of which one of the lemmas above says what its passes are. -/
theorem SheetRecord.imaging_cases (r : SheetRecord) :
    r.purgeRouted = true ∨ (r.purgeRouted = false ∧ r.sides = 0) ∨
      (r.purgeRouted = false ∧ r.sides = 1 ∧ r.duplex = true) ∨ (r.sides = 1 ∧ r.duplex = false) ∨ 2 ≤ r.sides := by
  cases r.purgeRouted <;> cases r.duplex <;> simp <;> omega

/-- The passes are due in the order of the outstanding passes: the pending one is the first of them. -/
theorem SheetRecord.outstanding_head? (r : SheetRecord) : r.outstanding.head? = r.pending := by
  rcases r.imaging_cases with routed | ⟨routed, sides⟩ | ⟨routed, sides, duplex⟩ | ⟨sides, simplex⟩ | sides
  · simp [r.passes_purgeRouted routed]
  · simp [r.passes_unimaged routed sides]
  · cases back : r.backPass <;> simp [r.passes_frontImaged routed sides duplex, back]
  · simp [r.passes_simplexImaged sides simplex]
  · simp [r.passes_bothImaged sides]

/-- 01 R16: the side imaged takes its pass, the first of the outstanding ones, away. -/
theorem SheetRecord.outstanding_imaged (r : SheetRecord) (back : r.duplex = true ↔ r.backPass.isSome) :
    ({ r with sides := r.sides + 1 } : SheetRecord).outstanding = r.outstanding.drop 1 := by
  rcases r.imaging_cases with routed | ⟨routed, sides⟩ | ⟨routed, sides, duplex⟩ | ⟨sides, simplex⟩ | sides
  · rw [(r.passes_purgeRouted routed).2,
      (SheetRecord.passes_purgeRouted { r with sides := r.sides + 1 } routed).2, List.drop_nil]
  · rw [(r.passes_unimaged routed sides).2, List.drop_one, List.tail_cons]
    rcases Bool.eq_false_or_eq_true r.duplex with duplex | simplex
    · rw [(SheetRecord.passes_frontImaged { r with sides := r.sides + 1 } routed (by simp [sides]) duplex).2]
    · have noBack : r.backPass = none := by simpa [simplex] using back
      rw [(SheetRecord.passes_simplexImaged { r with sides := r.sides + 1 } (by simp [sides]) simplex).2, noBack,
        Option.toList_none]
  · rw [(r.passes_frontImaged routed sides duplex).2,
      (SheetRecord.passes_bothImaged { r with sides := r.sides + 1 } (by simp [sides])).2]
    cases r.backPass <;> rfl
  · rw [(r.passes_simplexImaged sides simplex).2,
      (SheetRecord.passes_bothImaged { r with sides := r.sides + 1 } (by simp [sides])).2, List.drop_nil]
  · rw [(r.passes_bothImaged sides).2,
      (SheetRecord.passes_bothImaged { r with sides := r.sides + 1 } (by simp; omega)).2, List.drop_nil]

/-- 01 R16: what is pending once the side after those imaged has been imaged. -/
theorem SheetRecord.pending_imaged (r : SheetRecord) (p : Pass) (side : Nat) (pending : r.pending = some p)
    (next : side = 1 ∧ r.sides = 0 ∨ side = 2 ∧ r.duplex = true ∧ r.sides = 1) :
    ({ r with sides := r.sides + 1 } : SheetRecord).pending = if side = 1 ∧ r.duplex = true then r.backPass else none := by
  have routed : r.purgeRouted = false := by
    refine Bool.eq_false_iff.mpr fun routed => ?_
    simp [(r.passes_purgeRouted routed).1] at pending
  rcases next with ⟨rfl, sides⟩ | ⟨rfl, -, sides⟩
  · rcases Bool.eq_false_or_eq_true r.duplex with duplex | simplex
    · rw [(SheetRecord.passes_frontImaged { r with sides := r.sides + 1 } routed (by simp [sides]) duplex).1,
        if_pos ⟨rfl, duplex⟩]
    · rw [(SheetRecord.passes_simplexImaged { r with sides := r.sides + 1 } (by simp [sides]) simplex).1,
        if_neg (by simp [simplex])]
  · simpa using (SheetRecord.passes_bothImaged { r with sides := r.sides + 1 } (by simp [sides])).1

/-! ### The pass test of an INTENT (01 R10) -/

theorem precedes_self (p : Pass) : precedes p p = false := by simp [precedes]

/-- A pass that a record of the roster still has to be imaged at. -/
theorem State.outstanding_contains (s : State) (p : Pass) :
    (s.roster.records.flatMap SheetRecord.outstanding).contains p = true ↔ ∃ r ∈ s.roster.records, p ∈ r.outstanding := by
  simp

/-- 01 R10: what an INTENT that passes the test meets. -/
theorem State.passTest_iff (s : State) (i : IntentFields) : s.passTest i = true ↔
    (¬ ∃ r ∈ s.roster.records, i.frontPass ∈ r.outstanding) ∧
    (i.duplex = true → (¬ ∃ r ∈ s.roster.records, i.backPass ∈ r.outstanding) ∧ precedes i.frontPass i.backPass = true) ∧
    (i.reprintOf ≠ none → ∃ free, s.roster.planInForce = some free ∧ precedes i.frontPass free = false) := by
  have reprint : (i.reprintOf.isNone || s.roster.planInForce.any fun free => !precedes i.frontPass free) = true ↔
      (i.reprintOf ≠ none → ∃ free, s.roster.planInForce = some free ∧ precedes i.frontPass free = false) := by
    cases i.reprintOf <;> simp [Option.any_eq_true]
  have duplex : (!i.duplex || (!(s.roster.records.flatMap SheetRecord.outstanding).contains i.backPass &&
      precedes i.frontPass i.backPass)) = true ↔
      (i.duplex = true → (¬ ∃ r ∈ s.roster.records, i.backPass ∈ r.outstanding) ∧ precedes i.frontPass i.backPass = true) := by
    cases i.duplex <;> simp
  simp only [State.passTest, Bool.and_eq_true, reprint, duplex, Bool.not_eq_true', ← Bool.not_eq_true,
    State.outstanding_contains, and_assoc]

/-- 01 R10: the four ways in which an INTENT fails the test. -/
theorem State.passTest_fails_iff (s : State) (i : IntentFields) : s.passTest i = false ↔
    (∃ r ∈ s.roster.records, i.frontPass ∈ r.outstanding ∨ i.duplex = true ∧ i.backPass ∈ r.outstanding) ∨
      (i.duplex = true ∧ (i.backPass = i.frontPass ∨ precedes i.frontPass i.backPass = false)) ∨
      (i.reprintOf ≠ none ∧ s.roster.planInForce = none) ∨
      (i.reprintOf ≠ none ∧ ∃ free, s.roster.planInForce = some free ∧ precedes i.frontPass free = true) := by
  have plan : (¬ ∃ free, s.roster.planInForce = some free ∧ precedes i.frontPass free = false) ↔
      s.roster.planInForce = none ∨ ∃ free, s.roster.planInForce = some free ∧ precedes i.frontPass free = true := by
    cases s.roster.planInForce <;> simp
  rw [← Bool.not_eq_true, State.passTest_iff]
  simp only [Classical.not_and_iff_not_or_not, Classical.not_imp, Classical.not_not, Bool.not_eq_true, plan]
  constructor
  · rintro (⟨r, hr, front⟩ | ⟨duplex, ⟨r, hr, back⟩ | order⟩ | ⟨reprint, unplanned | early⟩)
    · exact .inl ⟨r, hr, .inl front⟩
    · exact .inl ⟨r, hr, .inr ⟨duplex, back⟩⟩
    · exact .inr (.inl ⟨duplex, .inr order⟩)
    · exact .inr (.inr (.inl ⟨reprint, unplanned⟩))
    · exact .inr (.inr (.inr ⟨reprint, early⟩))
  · rintro (⟨r, hr, front | ⟨duplex, back⟩⟩ | ⟨duplex, equal | order⟩ | ⟨reprint, unplanned⟩ | ⟨reprint, early⟩)
    · exact .inl ⟨r, hr, front⟩
    · exact .inr (.inl ⟨duplex, .inl ⟨r, hr, back⟩⟩)
    · exact .inr (.inl ⟨duplex, .inr (equal ▸ precedes_self _)⟩)
    · exact .inr (.inl ⟨duplex, .inr order⟩)
    · exact .inr (.inr ⟨reprint, .inl unplanned⟩)
    · exact .inr (.inr ⟨reprint, .inr early⟩)

/-! ### WITHDRAW (01 R13) -/

theorem exec_withdrawReceipt (s : State) (f : RxFrame) (rest : List RxFrame) (job : Byte) (h : s.receives f rest)
    (payload : f.payload = .withdraw job) :
    exec .withdrawReceipt s = .next ((s.taken rest).withdrawReceived f.sender job) := by
  change execWithdrawReceipt s = _
  rw [execWithdrawReceipt, s.receive_live f rest _ _ h (by simp [payload, Payload.isKind, Payload.code])]
  simp only [payload]

theorem State.withdrawReceived_applied (s : State) (job : Byte) (normal : s.roster.phase = .normal)
    (announced : ∃ r ∈ s.roster.records, r.stage = .announced ∧ r.job = job) :
    s.withdrawReceived 0 job = (s.withdrawJob job).rosterChanged := by
  rw [State.withdrawReceived, if_pos (by simpa [normal] using announced)]

/-- 01 R13: a WITHDRAW from elsewhere, in phase RECOVERY, or for a job with nothing announced changes nothing. -/
theorem State.withdrawReceived_ignored (s : State) (sender : Pos) (job : Byte)
    (h : sender ≠ 0 ∨ s.roster.phase = .recovery ∨ ∀ r ∈ s.roster.records, r.stage = .announced → r.job ≠ job) :
    s.withdrawReceived sender job = s := by
  refine if_neg ?_
  simp only [Bool.and_eq_true, beq_iff_eq, List.any_eq_true]
  rintro ⟨⟨zero, normal⟩, r, hr, announced, same⟩
  rcases h with h | h | h
  · exact h zero
  · simp [normal] at h
  · exact h r hr announced same

/-! ### PASS (01 R16) -/

theorem exec_passReceipt (s : State) (f : RxFrame) (rest : List RxFrame) (x : Serial) (side : Nat) (p : Pass)
    (h : s.receives f rest) (payload : f.payload = .pass x side p) :
    exec .passReceipt s = .next ((s.taken rest).passReceived f.sender x side p) := by
  change execPassReceipt s = _
  rw [execPassReceipt, s.receive_live f rest _ _ h (by simp [payload, Payload.isKind, Payload.code])]
  simp only [payload]

/-- 01 R16, R20: the conditions under which a PASS is applied to a record. -/
theorem State.passes_iff (s : State) (sender : Pos) (side : Nat) (p : Pass) (r : SheetRecord) :
    s.passes sender side p r = true ↔
      (s.roster.phase = .normal ∨ s.roster.stage ≠ .closed) ∧ r.stage = .fed ∧ r.holder = some sender ∧
        (side = 1 ∧ r.sides = 0 ∨ side = 2 ∧ r.duplex = true ∧ r.sides = 1) ∧ r.pending = some p := by
  simp [State.passes, and_assoc]

/-- 07 R122: at the receipt of its own PASS the station strikes it from its outstanding passes. -/
def State.strikePass (s : State) (sender : Pos) (x : Serial) (side : Nat) : State :=
  if sender == s.own then { s with imaging.passes := s.imaging.passes.filter fun q => q != (x, side) } else s

@[simp] theorem State.strikePass_roster (s : State) (sender : Pos) (x : Serial) (side : Nat) :
    (s.strikePass sender x side).roster = s.roster := by
  unfold State.strikePass
  split <;> rfl

theorem State.passReceived_applied (s : State) (sender : Pos) (x : Serial) (side : Nat) (p : Pass) (r : SheetRecord)
    (found : s.record x = some r) (applies : s.passes sender side p r = true) :
    s.passReceived sender x side p =
      ((s.strikePass sender x side).setRecord x fun q => { q with sides := q.sides + 1 }).rosterChanged := by
  have found' : (s.strikePass sender x side).record x = some r := by simpa [State.record] using found
  have applies' : (s.strikePass sender x side).passes sender side p r = true := by simpa [State.passes] using applies
  unfold State.strikePass at found' applies' ⊢
  simp only [State.passReceived, found', applies', if_true]

theorem State.passReceived_ignored (s : State) (sender : Pos) (x : Serial) (side : Nat) (p : Pass)
    (h : ∀ r, s.record x = some r → ¬ s.passes sender side p r = true) :
    s.passReceived sender x side p = s.strikePass sender x side := by
  have found' : (s.strikePass sender x side).record x = s.record x := by simp [State.record]
  have applies' : ∀ r, (s.strikePass sender x side).passes sender side p r = s.passes sender side p r := by simp [State.passes]
  unfold State.strikePass at found' applies' ⊢
  simp only [State.passReceived, found', applies']
  cases found : s.record x with
  | none => rfl
  | some r => exact if_neg (h r found)

/-! ### The statements -/

/-- Settles O39: the passes by the stages of imaging, and the failure of the pass test as the negation of what it asks for. -/
theorem passesAndPassTest : Obligations.PassesAndPassTest := by
  refine ⟨fun r back => ⟨r.passes_purgeRouted, fun routed sides => ?_, r.passes_frontImaged,
    fun _ => r.passes_simplexImaged, r.passes_bothImaged, fun p pending => ?_⟩, State.passTest_fails_iff⟩
  · obtain ⟨hpending, houtstanding⟩ := r.passes_unimaged routed sides
    refine ⟨hpending, ?_⟩
    rcases Bool.eq_false_or_eq_true r.duplex with duplex | simplex
    · rw [houtstanding, if_pos duplex]
    · have noBack : r.backPass = none := by simpa [simplex] using back
      simp [houtstanding, simplex, noBack]
  · exact List.mem_of_mem_head? (r.outstanding_head?.trans pending)

/-- Settles O41: an applied WITHDRAW filters the records and is a roster change, which leaves the roster as the filter made it. -/
theorem withdrawRemovesAnnounced : Obligations.WithdrawRemovesAnnounced := by
  intro s f rest job h payload keep
  rw [exec_withdrawReceipt s f rest job h payload]
  refine ⟨fun sender normal announced => ?_, fun elsewhere => ?_, fun unannounced => ?_⟩
  · rw [sender, State.withdrawReceived_applied (s.taken rest) job normal announced]
    refine ⟨_, rfl, by simp [State.withdrawJob, State.taken, keep], rfl, fun r hr fed => ?_, ?_⟩
    · simpa [State.withdrawJob, State.taken, fed] using hr
    · simp [State.taken, State.sameSetup]
  · rw [State.withdrawReceived_ignored]
    exact elsewhere.imp_right .inl
  · rw [State.withdrawReceived_ignored]
    exact .inr (.inr unannounced)

/-- Settles O46: an applied PASS raises the sides imaged, after which the passes are those left of the outstanding ones. -/
theorem passRaisesSides : Obligations.PassRaisesSides := by
  intro s f rest x side p h payload u
  have strike : (s.taken rest).strikePass f.sender x side = u := by
    simp only [State.strikePass, beq_iff_eq]
    rfl
  have roster : u.roster = s.roster := by rw [← strike, State.strikePass_roster]; rfl
  rw [exec_passReceipt s f rest x side p h payload, ← strike]
  refine ⟨fun r found unclosed fed holder next pending => ⟨?_, ?_, r.outstanding_imaged, ?_, r.pending_imaged p side pending next⟩,
    fun unapplied => ?_⟩
  · have applies := ((s.taken rest).passes_iff f.sender side p r).mpr ⟨unclosed, fed, holder, next, pending⟩
    rw [State.passReceived_applied (s.taken rest) _ x side p r found applies]
  · simp [State.setRecord, strike, roster]
  · exact r.outstanding_head?.trans pending
  · rw [State.passReceived_ignored]
    intro r found applies
    obtain ⟨unclosed, fed, holder, next, pending⟩ := ((s.taken rest).passes_iff f.sender side p r).mp applies
    rcases unapplied with ⟨recovery, closed⟩ | other
    · have normal : s.roster.phase = .normal := unclosed.resolve_right (· closed)
      simp [recovery] at normal
    · exact other r found ⟨fed, holder, next, pending⟩

end Sys2Proof.Machine
end

section
/-! PROOFS. Facts about lists that the core library does not state: the model's files import nothing else. -/

namespace Sys2Proof.Machine

theorem sublist_of_eq {α : Type} {xs ys : List α} (same : xs = ys) : xs.Sublist ys := same ▸ List.Sublist.refl xs

/-- Of one key there is one element. -/
theorem eq_of_nodup_map {α β : Type} (key : α → β) : ∀ {xs : List α}, (xs.map key).Nodup → ∀ {a b : α}, a ∈ xs → b ∈ xs →
    key a = key b → a = b
  | x :: xs, nodup, a, b, ha, hb, same => by
    obtain ⟨fresh, nodup⟩ := List.nodup_cons.mp nodup
    rcases List.mem_cons.mp ha with first | later
    · rcases List.mem_cons.mp hb with second | later
      · exact first.trans second.symm
      · exact absurd (first ▸ same ▸ List.mem_map_of_mem later) fresh
    · rcases List.mem_cons.mp hb with second | later'
      · exact absurd (second ▸ same ▸ List.mem_map_of_mem later) fresh
      · exact eq_of_nodup_map key nodup later later' same

/-- A list without repetition is no longer than one that has all its elements. -/
theorem length_le_of_nodup_subset {α : Type} [DecidableEq α] : ∀ {xs ys : List α}, xs.Nodup → (∀ a ∈ xs, a ∈ ys) →
    xs.length ≤ ys.length
  | [], _, _, _ => Nat.zero_le _
  | x :: xs, ys, nodup, within => by
    obtain ⟨fresh, nodup⟩ := List.nodup_cons.mp nodup
    have known : x ∈ ys := within x List.mem_cons_self
    have rest : ∀ a ∈ xs, a ∈ ys.erase x := fun a ha =>
      (List.mem_erase_of_ne fun same : a = x => fresh (same ▸ ha)).mpr (within a (List.mem_cons_of_mem _ ha))
    have shorter := length_le_of_nodup_subset nodup rest
    have removed := List.length_erase_of_mem known
    have some : 0 < ys.length := List.length_pos_of_mem known
    rw [List.length_cons]
    omega

end Sys2Proof.Machine
end

section
/-! PROOFS. What a part of a command keeps of the laws of Safety.lean: `Safe` for any part, `Keeps` for one that changes neither the
roster nor the vote. -/

-- One theorem after the other: side by side they wait for each other's defaults and hold too many threads.
set_option deprecated.oldSectionVars true

namespace Sys2Proof.Machine

/-! ### What a part of a command keeps -/

/-- The vote that PLAN asks for (11 R182). -/
abbrev State.voted (s : State) : Prop :=
  s.presentList ≠ [] ∧ s.recovery.fates.digest.isSome ∧ ∀ p ∈ s.presentList,
    (s.entry p).lastReady = some { clear := true, digest := s.ownDigest, epoch := s.recovery.clearanceEpoch }

/-- 07 R118: at the MERGE station a sheet due for imaging comes at the lowest pending pass. -/
def State.admits (s : State) (x : Serial) : Prop :=
  s.hasRole .merge = true → s.dueForImaging x = true → ∃ r, s.record x = some r ∧ r.pending = s.lowestPending

/-- What every part of a command but the profile read and the cover of sensor 1 keeps of the laws. -/
structure State.Safe (s t : State) : Prop where
  profile : t.profile = s.profile
  tx : s.link.queue.length ≤ 8 → t.link.queue.length ≤ 8
  rx : s.link.rx.length ≤ 24 → t.link.rx.length ≤ 24
  occupancy : s.track.queue.length ≤ s.prof.capacity ∧ (s.track.queue.map (·.serial)).Nodup →
    t.track.queue.length ≤ t.prof.capacity ∧ (t.track.queue.map (·.serial)).Nodup
  expected : s.expectedLaw → t.expectedLaw
  purge : s.exit.purgeCount ≤ s.prof.purgeCapacity → t.exit.purgeCount ≤ t.prof.purgeCapacity
  sets : s.setLaw → t.setLaw
  shape : s.shapeLaw → t.shapeLaw
  path : t.path = .profileRead → s.path = .profileRead
  jams : s.jamLaw → t.jamLaw

/-- What a part of a command keeps that changes neither the roster nor the vote. -/
structure State.Keeps (s t : State) : Prop extends State.Safe s t where
  roster : t.roster = s.roster
  present : t.presentList = s.presentList
  ready : ∀ p, (t.entry p).lastReady = (s.entry p).lastReady
  digest : t.recovery.fates.digest = s.recovery.fates.digest
  clearance : t.recovery.clearanceEpoch = s.recovery.clearanceEpoch
  plan : t.path = .plan → s.path = .plan ∨ t.voted
  admitted : ∀ i ∈ t.track.expected, (∃ j ∈ s.track.expected, j.serial = i.serial) ∨ s.admits i.serial

theorem State.admits_congr {s t : State} (profile : t.profile = s.profile) (roster : t.roster = s.roster) (x : Serial) :
    t.admits x = s.admits x := by
  simp [State.admits, State.hasRole, State.prof, State.dueForImaging, State.record, State.lowestPending, profile, roster]

theorem State.Safe.refl (s : State) : s.Safe s :=
  ⟨rfl, id, id, id, id, id, id, id, id, id⟩

theorem State.Safe.trans {s t u : State} (h : s.Safe t) (k : t.Safe u) : s.Safe u where
  profile := k.profile.trans h.profile
  tx := k.tx ∘ h.tx
  rx := k.rx ∘ h.rx
  occupancy := k.occupancy ∘ h.occupancy
  expected := k.expected ∘ h.expected
  purge := k.purge ∘ h.purge
  sets := k.sets ∘ h.sets
  shape := k.shape ∘ h.shape
  path := h.path ∘ k.path
  jams := k.jams ∘ h.jams

theorem State.Keeps.voted {s t : State} (h : s.Keeps t) (v : s.voted) : t.voted := by
  simpa [State.voted, State.ownDigest, h.present, h.ready, h.digest, h.clearance] using v

theorem State.Keeps.refl (s : State) : s.Keeps s :=
  { State.Safe.refl s with
    roster := rfl, present := rfl, ready := fun _ => rfl, digest := rfl, clearance := rfl, plan := .inl
    admitted := fun i hi => .inl ⟨i, hi, rfl⟩ }

theorem State.Keeps.trans {s t u : State} (h : s.Keeps t) (k : t.Keeps u) : s.Keeps u :=
  { h.toSafe.trans k.toSafe with
    roster := k.roster.trans h.roster
    present := k.present.trans h.present
    ready := fun p => (k.ready p).trans (h.ready p)
    digest := k.digest.trans h.digest
    clearance := k.clearance.trans h.clearance
    plan := fun p => (k.plan p).elim (fun q => (h.plan q).imp_right k.voted) .inr
    admitted := by
      intro i hi
      rcases k.admitted i hi with ⟨j, hj, same⟩ | new
      · exact same ▸ h.admitted j hj
      · exact .inr (State.admits_congr h.profile h.roster i.serial ▸ new) }

/-- The parts of a change that is safe: those left out are the ones that the frame lemmas say are unchanged. -/
theorem State.Safe.of {s t : State} (profile : t.profile = s.profile := by simp)
    (path : t.recovery.path = s.recovery.path ∨ t.path ≠ .profileRead := by simp)
    (tx : s.link.queue.length ≤ 8 → t.link.queue.length ≤ 8 := by simp)
    (rx : s.link.rx.length ≤ 24 → t.link.rx.length ≤ 24 := by simp)
    (inputs : t.inputs.sensors.length = s.inputs.sensors.length ∧ t.inputs.fdone.length = s.inputs.fdone.length ∧
      t.inputs.sett.length = s.inputs.sett.length := by simp)
    (table : (s.table.entries.length = 16 → t.table.entries.length = 16) ∧
      (s.table.map.length = 16 → t.table.map.length = 16) := by simp)
    (strays : t.track.strays.length = s.track.strays.length := by simp)
    (entries : (t.track.queue.map (·.serial)).Sublist (s.track.queue.map (·.serial)) := by simp)
    (expected : s.expectedLaw → t.expectedLaw := by simp [State.expectedLaw])
    (exit : t.exit = s.exit ∨ t.exit.bins.length = s.exit.bins.length ∧
      (s.exit.purgeCount ≤ s.prof.purgeCapacity → t.exit.purgeCount ≤ s.prof.purgeCapacity) ∧
      (s.setLaw → t.setLaw) := by simp)
    (jams : s.jamLaw → t.jamLaw := by simp [State.jamLaw]) : s.Safe t where
  profile := profile
  jams := jams
  tx := tx
  rx := rx
  expected := expected
  occupancy := by
    rintro ⟨room, nodup⟩
    have fewer : t.track.queue.length ≤ s.track.queue.length := by simpa using entries.length_le
    exact ⟨by simpa [State.prof, profile] using Nat.le_trans fewer room, nodup.sublist entries⟩
  path := by rcases path with path | path <;> simp_all [State.path]
  purge := by
    rcases exit with same | ⟨-, purge, -⟩
    · simp [State.prof, profile, same]
    · simpa [State.prof, profile] using purge
  sets := by
    rcases exit with same | ⟨-, -, sets⟩
    · simp [State.setLaw, same]
    · exact sets
  shape := by
    have bins : t.exit.bins.length = s.exit.bins.length := exit.elim (fun h => h ▸ rfl) (·.1)
    rintro ⟨h1, h2, h3, h4, h5, h6, h7⟩
    obtain ⟨i1, i2, i3⟩ := inputs
    exact ⟨i1.trans h1, i2.trans h2, i3.trans h3, strays.trans h4, bins.trans h5, table.1 h6, table.2 h7⟩

/-- The parts of a change that keeps: those left out are the ones that the frame lemmas say are unchanged. -/
theorem State.Keeps.of {s t : State} (profile : t.profile = s.profile := by simp) (roster : t.roster = s.roster := by simp)
    (path : t.recovery.path = s.recovery.path ∨ t.path ≠ .profileRead ∧ t.path ≠ .plan := by simp)
    (digest : t.recovery.fates.digest = s.recovery.fates.digest := by simp)
    (clearance : t.recovery.clearanceEpoch = s.recovery.clearanceEpoch := by simp)
    (tx : s.link.queue.length ≤ 8 → t.link.queue.length ≤ 8 := by simp)
    (rx : s.link.rx.length ≤ 24 → t.link.rx.length ≤ 24 := by simp)
    (inputs : t.inputs.sensors.length = s.inputs.sensors.length ∧ t.inputs.fdone.length = s.inputs.fdone.length ∧
      t.inputs.sett.length = s.inputs.sett.length := by simp)
    (table : (s.table.entries.length = 16 → t.table.entries.length = 16) ∧
      (s.table.map.length = 16 → t.table.map.length = 16) := by simp)
    (votes : ∀ p, (t.entry p).presence = (s.entry p).presence ∧ (t.entry p).lastReady = (s.entry p).lastReady := by
      simp [State.entry])
    (strays : t.track.strays.length = s.track.strays.length := by simp)
    (entries : (t.track.queue.map (·.serial)).Sublist (s.track.queue.map (·.serial)) := by simp)
    (expected : (t.track.expected.map (·.serial)).Sublist (s.track.expected.map (·.serial)) ∨
      (s.expectedLaw → t.expectedLaw) ∧ ∀ i ∈ t.track.expected, (∃ j ∈ s.track.expected, j.serial = i.serial) ∨
        s.admits i.serial := by simp)
    (exit : t.exit = s.exit ∨ t.exit.bins.length = s.exit.bins.length ∧
      (s.exit.purgeCount ≤ s.prof.purgeCapacity → t.exit.purgeCount ≤ s.prof.purgeCapacity) ∧
      (s.setLaw → t.setLaw) := by simp)
    (jams : s.jamLaw → t.jamLaw := by simp [State.jamLaw]) : s.Keeps t :=
  { State.Safe.of profile (path.imp_right (·.1)) tx rx inputs table strays entries
      (fun law => expected.elim (law.sublist ·) (·.1 law)) exit jams with
    roster, digest, clearance
    ready := fun p => (votes p).2
    present := by
      have same : t.isPresent = s.isPresent := by funext p; simp [State.isPresent, votes]
      simp [State.presentList, same]
    plan := by
      rcases path with same | moved
      · simp only [State.path, same]
        exact .inl
      · exact fun h => absurd h moved.2
    admitted := by
      intro i hi
      rcases expected with sub | ⟨-, new⟩
      · have := sub.subset (List.mem_map_of_mem hi)
        simp only [List.mem_map] at this
        exact .inl this
      · exact new i hi }

/-- A safe change, and one that keeps. -/
theorem State.Safe.also {s t u : State} (h : s.Safe t) (k : t.Keeps u) : s.Safe u := h.trans k.toSafe
end Sys2Proof.Machine
end

section
/-! PROOFS. LINK's queues, the table, TRACK, EXIT and HANDOFF keep the laws. -/

-- One theorem after the other: side by side they wait for each other's defaults and hold too many threads.
set_option deprecated.oldSectionVars true

namespace Sys2Proof.Machine

/-! ### LINK's queues -/

theorem State.pushTx_keeps (s : State) (f : TxFrame) (h : s.txRoom = true) : s.Keeps (s.pushTx f) := by
  have room : s.link.queue.length < 8 := of_decide_eq_true h
  exact .of (tx := fun _ => by simpa [State.pushTx] using Nat.succ_le_of_lt room)

theorem State.queueJam_keeps (s : State) (k : JamKind) (zone : Nat) (serial : Option Serial) : s.Keeps (s.queueJam k zone serial) := by
  unfold State.queueJam
  dsimp only
  repeat' split
  · exact .of
  · exact s.pushTx_keeps _ (by assumption)
  · exact .of

namespace State.Keeps
variable {s a : State}

theorem detect (h : s.Keeps a) (k : JamKind) (zone : Nat) (serial : Option Serial) : s.Keeps (a.detect k zone serial) :=
  h.trans (a.queueJam_keeps k zone serial)

theorem lose (h : s.Keeps a) : s.Keeps a.lose := by
  have k : s.Keeps { a with link.lostSinceHolding := true, link.outOfStep := true } := h.trans .of
  unfold State.lose
  dsimp only
  repeat' split
  · exact k
  · exact k.detect .desync 0 none
  · exact k
  · exact h

theorem queueTagged (h : s.Keeps a) (tag : TxTag) (p : Payload) : s.Keeps (a.queueTagged tag p) := by
  unfold State.queueTagged
  split
  · exact h.trans (a.pushTx_keeps _ (by assumption))
  · exact h.lose

theorem queueFrame (h : s.Keeps a) (p : Payload) : s.Keeps (a.queueFrame p) := h.queueTagged .plain p

theorem detectDrive (h : s.Keeps a) : s.Keeps a.detectDrive := (h.detect .drive 0 none).trans (.of (tx := id))

theorem withdrawFrames (h : s.Keeps a) (sel : Payload → Bool) : s.Keeps (a.withdrawFrames sel) :=
  h.trans (.of (tx := by simpa [State.withdrawFrames] using Nat.le_trans (List.length_filter_le _ _)))

theorem withdrawRecovery (h : s.Keeps a) : s.Keeps a.withdrawRecovery := (h.withdrawFrames _).trans (.of (tx := id))

theorem emptyTx (h : s.Keeps a) : s.Keeps a.emptyTx := h.trans (.of (tx := by simp [State.emptyTx]))

theorem escalate (h : s.Keeps a) : s.Keeps a.escalate := h.trans .of

theorem rebuildMap (h : s.Keeps a) : s.Keeps a.rebuildMap :=
  h.trans (.of (table := by simp [State.rebuildMap, State.pathMap, stations]))

/-! ### The table -/

theorem setEntry (h : s.Keeps a) (p : Pos) (f : TableEntry → TableEntry)
    (votes : ∀ e, (f e).presence = e.presence ∧ (f e).lastReady = e.lastReady) : s.Keeps (a.setEntry p f) := by
  refine h.trans (.of (table := ?_) (votes := ?_))
  · simp [State.setEntry]; split <;> simp
  · intro q
    by_cases hp : p = 0
    · simp [State.setEntry, State.entry, hp]
    · by_cases hq : q = 0
      · simp [State.entry, hq]
      · simp only [State.setEntry, State.entry, hp, hq, if_false, List.getElem?_modify]
        cases a.table.entries[q - 1]? with
        | none => simp
        | some e => by_cases same : p - 1 = q - 1 <;> simp [same, votes]

theorem mapEntries (h : s.Keeps a) (f : Pos → TableEntry → TableEntry)
    (votes : ∀ p e, (f p e).presence = e.presence ∧ (f p e).lastReady = e.lastReady) : s.Keeps (a.mapEntries f) := by
  refine h.trans (.of (table := by simp [State.mapEntries]) (votes := fun q => ?_))
  by_cases hq : q = 0
  · simp [State.entry, hq]
  · simp only [State.mapEntries, State.entry, hq, if_false, List.getElem?_mapIdx]
    cases a.table.entries[q - 1]? <;> simp [votes]

/-! ### TRACK -/

theorem mapQueue (h : s.Keeps a) (f : Entry → Entry) (serial : ∀ e, (f e).serial = e.serial) : s.Keeps (a.mapQueue f) :=
  h.trans (.of (entries := by simp [State.mapQueue, Function.comp_def, serial]))

theorem gateFollow (h : s.Keeps a) : s.Keeps a.gateFollow := h.trans .of

theorem endHold (h : s.Keeps a) (before : State) : s.Keeps (State.endHold before a) := by
  unfold State.endHold
  repeat' split
  · exact h.mapQueue _ fun _ => rfl
  · exact h.mapQueue _ fun _ => rfl
  · exact h.mapQueue _ fun e => by split <;> rfl
  · exact h
  · exact h

theorem endPick (h : s.Keeps a) : s.Keeps a.endPick := h.trans .of

theorem setStray (h : s.Keeps a) (k : Nat) : s.Keeps (a.setStray k) :=
  h.trans (.of (strays := by simp [State.setStray]; split <;> simp))

theorem strayCover (h : s.Keeps a) (k : Nat) : s.Keeps (a.strayCover k) := by
  unfold State.strayCover
  dsimp only
  split
  · exact (h.setStray k).detect _ _ _
  · exact h.setStray k

theorem parkAll (h : s.Keeps a) : s.Keeps a.parkAll := h.mapQueue _ fun _ => rfl

/-- A step repeated over a list. -/
theorem fold {α : Type} (h : s.Keeps a) (f : State → α → State) (xs : List α) (step : ∀ {a} x, s.Keeps a → s.Keeps (f a x)) :
    s.Keeps (xs.foldl f a) := by
  induction xs generalizing a with
  | nil => exact h
  | cons x xs ih => exact ih (step x h)

theorem strayTest (h : s.Keeps a) : s.Keeps a.strayTest := h.fold _ _ fun k h => (h.setStray k).detect .stray k none

/-! ### EXIT -/

theorem setBin (h : s.Keeps a) (n : Nat) (f : Bin → Bin)
    (sets : (∀ o ∈ (a.bin n).openSet, o.sheets.length ≤ 40) → ∀ o ∈ (f (a.bin n)).openSet, o.sheets.length ≤ 40) :
    s.Keeps (a.setBin n f) := by
  refine h.trans (.of (exit := .inr ⟨?_, by simp [State.prof], fun law b hb => ?_⟩))
  · simp [State.setBin]; split <;> simp
  · by_cases hn : n = 0
    · exact law b (by simpa [State.setBin, hn] using hb)
    · simp only [State.setBin, hn, if_false, List.mem_iff_getElem?, List.getElem?_modify] at hb
      obtain ⟨i, hi⟩ := hb
      cases found : a.exit.bins[i]? with
      | none => simp [found] at hi
      | some c =>
        have old := law c (List.mem_of_getElem? found)
        by_cases same : n - 1 = i
        · have bin : a.bin n = c := by simp [State.bin, hn, same, found]
          simp only [found, same, if_true, Option.map_eq_map, Option.map_some, Option.some.injEq] at hi
          rw [bin] at sets
          exact hi ▸ sets old
        · simp only [found, same, if_false, Option.map_eq_map, Option.map_some, Option.some.injEq] at hi
          exact hi ▸ old

theorem setDiverter (h : s.Keeps a) (d : Bool × Bool) : s.Keeps (a.setDiverter d) := h.trans .of

theorem divertForSheet (h : s.Keeps a) : s.Keeps a.divertForSheet := h.trans .of

theorem startFinishing (h : s.Keeps a) (n : Nat) : s.Keeps (a.startFinishing n) := h.setBin _ _ id

theorem restartFinishing (h : s.Keeps a) : s.Keeps a.restartFinishing := h.fold _ _ fun n h => h.startFinishing n

theorem addPurged (h : s.Keeps a) (n : Nat) : s.Keeps (a.addPurged n) :=
  h.trans (.of (exit := .inr ⟨by simp, fun _ => Nat.min_le_right _ _, id⟩))

theorem openNewSet (h : s.Keeps a) (n : Nat) (r : SheetRecord) : s.Keeps (a.openNewSet n r) := by
  unfold State.openNewSet
  dsimp only
  have opened := h.setBin n (fun b =>
    { b with state := .open, oversize := none, openSet := some { job := r.job, set := r.set, sheets := [r.setSheet] } }) (by simp)
  split
  · exact opened.startFinishing n
  · exact opened

theorem listSheet (h : s.Keeps a) (n : Nat) (r : SheetRecord) : s.Keeps (a.listSheet n r) := by
  unfold State.listSheet
  dsimp only
  split
  · repeat' split
    · exact h.setBin _ _ id
    · exact h
    · exact h.openNewSet n r
  · split
    · exact h.openNewSet n r
    · rename_i o _
      split
      · by_cases full : Config.setListMax ≤ o.sheets.length
        · rw [if_pos full]
          exact (h.queueFrame _).setBin _ _ (by simp)
        · rw [if_neg full]
          have room : o.sheets.length < 40 := Nat.not_le.mp full
          have listed := h.setBin n (fun b => { b with openSet := some { o with sheets := o.sheets ++ [r.setSheet] } })
            (fun _ _ same => by rw [← Option.some.inj same]; simpa using Nat.succ_le_of_lt room)
          split
          · exact listed.startFinishing n
          · exact listed
      · exact (h.queueFrame _).openNewSet n r
  · exact h
  · exact h
  · exact h

theorem deliver (h : s.Keeps a) (x : Serial) : s.Keeps (a.deliver x) := by
  unfold State.deliver
  dsimp only
  have k := h.queueFrame (.delivered x a.diverterBin)
  repeat' split
  · exact (k.addPurged 1).divertForSheet
  · exact k.divertForSheet
  · exact (k.listSheet _ _).divertForSheet
  · exact k.divertForSheet
  · exact k.divertForSheet

theorem closeSet (h : s.Keeps a) (n : Nat) (outcome : SetOutcome) : s.Keeps (a.closeSet n outcome) := by
  unfold State.closeSet
  split
  · exact h
  · exact (h.queueFrame _).setBin _ _ (by simp)

theorem ejected (h : s.Keeps a) (n : Nat) : s.Keeps (a.ejected n) := (h.addPurged _).closeSet n .forfeited

theorem ejectTest (h : s.Keeps a) : s.Keeps a.ejectTest := by
  unfold State.ejectTest
  split
  · exact h
  · rename_i n _
    have started := (h.setBin n (fun b =>
      { b with beforeEject := b.state, state := .ejecting, fin := true, finish := .running a.prof.finishAllowance }) id).setDiverter
        (binCode 0)
    dsimp only
    split
    · exact started
    · exact started.ejected n

theorem stopBins (h : s.Keeps a) : s.Keeps a.stopBins := by
  refine h.trans (.of (exit := .inr ⟨by simp [State.stopBins], by simp, fun law b hb => ?_⟩))
  simp only [State.stopBins, List.mem_map] at hb
  obtain ⟨c, hc, rfl⟩ := hb
  have same : c.stop.openSet = c.openSet := by unfold Bin.stop; split <;> rfl
  exact same ▸ law c hc

theorem closeStaySets (h : s.Keeps a) : s.Keeps a.closeStaySets := h.fold _ _ fun n h => h.closeSet n .forfeited

theorem trayTaken (h : s.Keeps a) (n : Nat) : s.Keeps (a.trayTaken n) := by
  unfold State.trayTaken
  dsimp only
  have k := h.setBin n (fun b => { b with trayStray := false }) id
  repeat' split
  · exact k
  · exact k
  · exact k
  · exact k.closeSet _ _
  · exact k
  · exact k.closeSet _ _
  · exact k.setBin _ _ id

/-! ### HANDOFF -/

theorem setOffer (h : s.Keeps a) (dest : Pos) (f : OfferRecord → OfferRecord) : s.Keeps (a.setOffer dest f) := h.trans .of

theorem resetFreeCounts (h : s.Keeps a) : s.Keeps a.resetFreeCounts := h.trans .of

theorem setOfferStates (h : s.Keeps a) (xs : List Serial) (st : OfferState) : s.Keeps (a.setOfferStates xs st) :=
  h.mapQueue _ fun e => by split <;> rfl

theorem makeOffer (h : s.Keeps a) (o : OfferRecord) (xs : List Serial) : s.Keeps (a.makeOffer o xs) := by
  unfold State.makeOffer
  dsimp only
  have k := h.queueFrame (.offer o.dest xs (a.zone a.lastSensor).lead (a.zone a.lastSensor).trail)
  have offered := (k.setOfferStates xs .offered).setOffer o.dest fun o =>
    { o with state := .awaiting, offered := xs, answer := .stopped, reoffer := .stopped, retryMet := false }
  repeat' split
  · exact k
  · exact offered.setDiverter _
  · exact offered

theorem offerTest (h : s.Keeps a) : s.Keeps a.offerTest := by
  unfold State.offerTest
  dsimp only
  repeat' split
  · exact h
  · exact h
  · exact h
  · exact h
  · exact h.detect _ _ _
  · exact h.detect _ _ _
  · exact h
  · exact h.makeOffer _ _
  · exact h

theorem voidHandoffs (h : s.Keeps a) : s.Keeps a.voidHandoffs :=
  (h.mapQueue (fun e => { e with offer := .unoffered }) fun _ => rfl).trans (.of (tx := id) (entries := .refl _))

theorem declareFree (h : s.Keeps a) (sender : Pos) (free : Nat) : s.Keeps (a.declareFree sender free) := h.setOffer _ _

theorem offerAccepted (h : s.Keeps a) (dest : Pos) (xs : List Serial) : s.Keeps (a.offerAccepted dest xs) :=
  (h.setOffer _ _).setOfferStates _ _

theorem offerDeferred (h : s.Keeps a) (dest : Pos) (xs : List Serial) (reason : DeferReason) (free : Nat) :
    s.Keeps (a.offerDeferred dest xs reason free) := by
  unfold State.offerDeferred
  split
  · exact (h.setOffer _ _).setOfferStates _ _
  · exact h.setOffer _ _

end State.Keeps
end Sys2Proof.Machine
end

section
/-! PROOFS. Offers taken, FEED, IMAGING, the survey, DRIVE and the entry to RUN keep the laws. -/

-- One theorem after the other: side by side they wait for each other's defaults and hold too many threads.
set_option deprecated.oldSectionVars true

namespace Sys2Proof.Machine

/-! ### Offers taken (06 R101..R105) -/

/-- 06 R102: an offer that no test defers is admitted at the MERGE station, and its appends are not refused. -/
theorem State.deferReason_none {s : State} {xs : List Serial} (h : s.deferReason xs = none) :
    (s.hasRole .merge = true → s.admitted xs = true) ∧ s.refusesAppend xs = false := by
  unfold State.deferReason at h
  repeat' split at h
  all_goals simp_all

/-- 05 R77: the serials of an offer that is not refused are new to the list, and no two of them are the same. -/
theorem State.append_nodup {s : State} {xs : List Serial} (h : s.refusesAppend xs = false) (law : s.expectedLaw) :
    (s.track.expected.map (·.serial) ++ xs).Nodup := by
  simp only [State.refusesAppend, Bool.or_eq_false_iff, Bool.not_eq_false', decide_eq_true_eq] at h
  obtain ⟨⟨⟨nodup, fresh⟩, -⟩, -⟩ := h
  refine List.nodup_append.mpr ⟨law, nodup, ?_⟩
  rintro x hx y hy rfl
  simp only [List.any_eq_false, Bool.or_eq_true, not_or] at fresh
  refine (fresh x hy).2 ?_
  simpa using hx

/-- 07 R118, R119: a sheet of an offer that is not deferred comes at its pass. -/
theorem State.admits_of_deferReason {s : State} {xs : List Serial} (h : s.deferReason xs = none) (x : Serial) (hx : x ∈ xs) :
    s.admits x := by
  intro merge due
  obtain ⟨admitted, fits⟩ := State.deferReason_none h
  simp only [State.refusesAppend, Bool.or_eq_false_iff, merge, Bool.true_and] at fits
  obtain ⟨⟨-, train⟩, -⟩ := fits
  have short : ¬ 2 ≤ xs.length := by
    intro long
    simp only [long, decide_true, Bool.true_and, List.any_eq_false] at train
    exact train x hx due
  obtain ⟨y, rfl⟩ : ∃ y, xs = [y] := List.length_eq_one_iff.mp (by have := List.length_pos_of_mem hx; omega)
  obtain rfl : x = y := by simpa using hx
  simpa [State.admitted, due, Option.any_eq_true] using admitted merge

namespace State.Keeps
variable {s a : State}

theorem acceptOffer (h : s.Keeps a) (d : DeferredOffer) (taken : a.deferReason d.serials = none) : s.Keeps (a.acceptOffer d) := by
  unfold State.acceptOffer
  dsimp only
  have k := h.queueFrame (.accept d.upstream d.serials (a.freeCount - d.serials.length))
  have same : (a.queueFrame (.accept d.upstream d.serials (a.freeCount - d.serials.length))).track = a.track := by simp
  rw [same]
  have appended := h.trans <| State.Keeps.of (s := a) (t := { a.queueFrame (.accept d.upstream d.serials
      (a.freeCount - d.serials.length)) with
        track := { a.track with expected := a.track.expected ++ d.serials.map fun x =>
          { serial := x, upstream := d.upstream, group := a.newGroup, window := d.window, spacing := d.spacing : ExpItem } } })
    (tx := ((State.Keeps.refl a).queueFrame _).tx)
    (expected := .inr ⟨fun law => by
        simpa [State.expectedLaw, Function.comp_def] using State.append_nodup (State.deferReason_none taken).2 law, by
      intro i hi
      simp only [List.mem_append, List.mem_map] at hi
      rcases hi with hi | ⟨x, hx, rfl⟩
      · exact .inl ⟨i, hi, rfl⟩
      · exact .inr (State.admits_of_deferReason taken x hx)⟩)
  repeat' split
  · exact k
  · exact appended.divertForSheet
  · exact appended

theorem retest (h : s.Keeps a) (d : DeferredOffer) : s.Keeps (a.retest d).1 := by
  unfold State.retest
  repeat' split
  · exact h
  · exact h
  · exact h.acceptOffer d (by simp_all)

theorem retestAll (h : s.Keeps a) (ds : List DeferredOffer) : s.Keeps (a.retestAll ds).1 := by
  induction ds generalizing a with
  | nil => exact h
  | cons d ds ih => exact ih (h.retest d)

theorem reevaluate (h : s.Keeps a) : s.Keeps a.reevaluate := by
  unfold State.reevaluate
  split
  · exact (h.retestAll a.handoff.deferred).trans .of
  · exact h

theorem ejectStart (h : s.Keeps a) : s.Keeps a.ejectStart := by
  unfold State.ejectStart
  split
  · exact h.ejectTest.reevaluate
  · exact h

theorem answerOffer (h : s.Keeps a) (d : DeferredOffer) : s.Keeps (a.answerOffer d) := by
  unfold State.answerOffer
  dsimp only
  split
  · exact h
  · have k := h.trans (.of (s := a) (t := { a with
      handoff.deferred := a.handoff.deferred.filter fun x => x.upstream != d.upstream }))
    split
    · rename_i taken
      exact (k.acceptOffer d taken).reevaluate
    · split
      · exact k.queueFrame _
      · exact (k.queueFrame _).trans (.of (tx := id))

/-! ### FEED and IMAGING -/

theorem pickTest (h : s.Keeps a) : s.Keeps a.pickTest := h.trans .of

theorem demandAtEntry (h : s.Keeps a) : s.Keeps a.demandAtEntry := by
  unfold State.demandAtEntry
  split
  · exact (h.queueFrame (.demand (a.freeSlots a.own))).trans .of
  · exact h

theorem demandCrossing (h : s.Keeps a) : s.Keeps a.demandCrossing := by
  unfold State.demandCrossing
  dsimp only
  repeat' split
  · exact h.trans .of
  · exact (h.queueFrame (.demand (a.freeSlots a.own))).trans .of
  · exact h
  · exact h

theorem reportPicked (h : s.Keeps a) : s.Keeps a.reportPicked := h.fold _ _ fun _ h => h.queueFrame _

theorem markPass (h : s.Keeps a) (x : Serial) : s.Keeps (a.markPass x) := by
  unfold State.markPass
  dsimp only
  split
  · exact h
  · split
    · exact h
    · split
      · exact h
      · split
        · exact h.queueFrame _
        · exact (h.queueFrame _).trans (.of (tx := id))

theorem imageCover (h : s.Keeps a) (k : Nat) (x : Serial) : s.Keeps (a.imageCover k x) := by
  unfold State.imageCover
  split
  · exact h.markPass x
  · exact h

/-! ### The survey -/

theorem sendReport (h : s.Keeps a) (ps : List Payload) : s.Keeps (a.sendReport ps) := by
  induction ps generalizing a with
  | nil => exact h.trans (.of (s := a) (t := { a with recovery.report := [] }))
  | cons p ps ih =>
    unfold State.sendReport
    split
    · exact (h.queueTagged .report (a.stamped p)).trans .of
    · exact ih h.lose

theorem enterSurvey (h : s.Keeps a) : s.Keeps a.enterSurvey :=
  (h.trans (.of (s := a) (t := { a with
    recovery.path := .survey, recovery.claim := .stopped, recovery.lineHeld := .stopped
    recovery.survey := .running (Config.surveyMs + Config.surveyRankMs * a.rank a.own) }) (path := .inr ⟨nofun, nofun⟩))).sendReport _

theorem openSurvey (h : s.Keeps a) : s.Keeps a.openSurvey :=
  State.Keeps.enterSurvey ((h.mapQueue (fun e => { e with release := false, deferred := false }) fun _ => rfl).trans
    (.of (expected := .inl (List.nil_sublist _)) (entries := .refl _)))

theorem surveyTest (h : s.Keeps a) : s.Keeps a.surveyTest := by
  unfold State.surveyTest
  split
  · exact h.openSurvey
  · exact h

/-! ### DRIVE and the entry to RUN -/

theorem runFromResuming (h : s.Keeps a) : s.Keeps a.runFromResuming :=
  (h.trans (.of (s := a) (t := { a with
      recovery.path := .run, table.presence := .running Config.presenceMs, track.attributing := true })
    (path := .inr ⟨nofun, nofun⟩)))
  |>.strayTest.reportPicked.demandAtEntry.pickTest.divertForSheet.restartFinishing.resetFreeCounts.reevaluate.offerTest

theorem driveOff (h : s.Keeps a) : s.Keeps a.driveOff :=
  (h.trans (.of (s := a) (t := { a with drive.state := .off, drive.halt := .stopped }))).reevaluate.surveyTest

theorem spinTest (h : s.Keeps a) : s.Keeps a.spinTest := by
  unfold State.spinTest
  split
  · exact (h.trans .of).reevaluate
  · exact h

theorem driveHalt (h : s.Keeps a) : s.Keeps a.driveHalt := by
  have k : s.Keeps { a.endPick with
      drive.state := .halting, drive.spin := .stopped, drive.fresh := false, drive.halt := .running Config.haltMs } :=
    h.endPick.trans .of
  unfold State.driveHalt
  dsimp only
  split
  · exact k.reevaluate
  · exact k.reevaluate.driveOff.spinTest

theorem driveSync (h : s.Keeps a) : s.Keeps a.driveSync := by
  unfold State.driveSync
  repeat' split
  · exact h.spinTest
  · exact h
  · exact h.driveHalt
  · exact h
  · exact h.driveHalt
  · exact h

theorem driveForcedOff (h : s.Keeps a) : s.Keeps a.driveForcedOff := by
  unfold State.driveForcedOff
  split
  · exact h.driveHalt
  · exact h.driveHalt
  · exact h
  · exact h

theorem driveRunning (h : s.Keeps a) : s.Keeps a.driveRunning := by
  have k : s.Keeps { a with drive.state := .running, drive.spin := .stopped } := h.trans .of
  unfold State.driveRunning
  dsimp only
  split
  · exact k.runFromResuming
  · exact k.reevaluate.pickTest

theorem needTest (h : s.Keeps a) : s.Keeps a.needTest := by
  unfold State.needTest
  split
  · exact (h.trans .of).driveSync
  · exact h

theorem occupancyChanged (h : s.Keeps a) (before : State) : s.Keeps (State.occupancyChanged before a) :=
  (h.gateFollow.endHold before).needTest.reevaluate.ejectStart.pickTest

theorem dropPick (h : s.Keeps a) : s.Keeps a.dropPick := by
  unfold State.dropPick
  split
  · exact h.endPick.trans .of
  · exact h

/-- 05 R76: entries leave the queue. -/
theorem filterQueue (h : s.Keeps a) (p : Entry → Bool) : s.Keeps { a with track.queue := a.track.queue.filter p } :=
  h.trans (.of (entries := List.filter_sublist.map _))

theorem dropEntries (h : s.Keeps a) : s.Keeps a.dropEntries := by
  unfold State.dropEntries
  dsimp only
  repeat' split
  · exact h
  · exact ((h.filterQueue _).fold _ _ fun _ h => h.strayCover _).occupancyChanged _
  · exact h

theorem rosterChanged (h : s.Keeps a) : s.Keeps a.rosterChanged := by
  unfold State.rosterChanged
  split
  · exact h.dropPick.dropEntries.reevaluate.demandCrossing.pickTest
  · exact h.reevaluate

theorem doorTest (h : s.Keeps a) : s.Keeps a.doorTest := by
  unfold State.doorTest
  split
  · exact h.detect _ _ _
  · exact h

theorem trayStrayTest (h : s.Keeps a) : s.Keeps a.trayStrayTest := by
  unfold State.trayStrayTest
  split
  · exact h.fold _ _ fun _ h => (h.setBin _ _ id).detect _ _ _
  · exact h

theorem loadSilence (h : s.Keeps a) : s.Keeps a.loadSilence := h.mapEntries _ fun _ _ => by split <;> exact ⟨rfl, rfl⟩

theorem reloadSilence (h : s.Keeps a) : s.Keeps a.reloadSilence := h.mapEntries _ fun _ _ => by split <;> exact ⟨rfl, rfl⟩

theorem trayAtEntry (h : s.Keeps a) : s.Keeps a.trayAtEntry := by
  unfold State.trayAtEntry
  split
  · exact h.queueFrame _
  · exact h

theorem desyncTest (h : s.Keeps a) : s.Keeps a.desyncTest := by
  unfold State.desyncTest
  split
  · exact h.detect _ _ _
  · exact h

theorem runFromRollCall (h : s.Keeps a) : s.Keeps a.runFromRollCall :=
  (h.trans (.of (s := a) (t := { a with
      recovery.path := .run, recovery.epoch := 0, table.presence := .running Config.presenceMs
      table.rollCall := .stopped, table.joinDelay := .stopped, track.attributing := true }) (path := .inr ⟨nofun, nofun⟩)))
  |>.loadSilence.resetFreeCounts.desyncTest.strayTest.trayStrayTest.doorTest.demandAtEntry.trayAtEntry.driveSync.offerTest

end State.Keeps
end Sys2Proof.Machine
end

section
/-! PROOFS. Time, RECOVERY and the events of the inputs and the line keep the laws. -/

-- One theorem after the other: side by side they wait for each other's defaults and hold too many threads.
set_option deprecated.oldSectionVars true

namespace Sys2Proof.Machine
/-! ### The jam list (08 R133) -/

/-- The entries merged, each of them with its epoch, kind and station. -/
theorem State.jamLaw_merged {s : State} (law : s.jamLaw) (f : JamEntry → JamEntry)
    (same : ∀ j, (f j).epoch = j.epoch ∧ (f j).kind = j.kind ∧ (f j).station = j.station) :
    State.jamLaw { s with recovery.jams := s.recovery.jams.map f } := by
  refine ⟨by simpa using law.1, ?_⟩
  simp only [List.pairwise_map]
  exact law.2.imp fun {a b} different => by simpa [JamEntry.same, same] using different

/-- An entry made, where the list has room and none of the same epoch, kind and station. -/
theorem State.jamLaw_appended {s : State} (law : s.jamLaw) (j : JamEntry)
    (new : ∀ k ∈ s.recovery.jams, JamEntry.same j k = false) (room : s.recovery.jams.length < 8) :
    State.jamLaw { s with recovery.jams := s.recovery.jams ++ [j] } := by
  refine ⟨by simpa using Nat.succ_le_of_lt room, ?_⟩
  simp only [List.pairwise_append, List.pairwise_singleton, true_and]
  refine ⟨law.2, fun k hk i hi => ?_⟩
  obtain rfl : i = j := by simpa using hi
  have different := new k hk
  simp only [JamEntry.same, Bool.and_eq_false_iff, beq_eq_false_iff_ne, ne_eq] at different ⊢
  simpa only [eq_comm] using different

namespace State.Keeps
variable {s a : State}

/-! ### Time and the input lines -/

theorem elapse (h : s.Keeps a) (n : Nat) : s.Keeps (a.elapse n) := by
  refine h.trans (.of (inputs := ?_) (table := ?_) (votes := ?_) (entries := ?_) (expected := .inl ?_) (exit := .inr ⟨?_, ?_, ?_⟩))
  · simp [State.elapse, Inputs.pass]
  · simp [State.elapse, State.passTable]
  · intro p
    simp only [State.entry, State.elapse, State.passTable, List.getElem?_map]
    split
    · simp
    · cases a.table.entries[p - 1]? <;> simp
  · simp [State.elapse, State.passTrack, State.passEntry, Function.comp_def]
  · simp [State.elapse, State.passTrack, Function.comp_def]
  · simp [State.elapse, State.passExit]
  · simp
  · simp [State.setLaw, State.elapse, State.passExit]

theorem setLine (h : s.Keeps a) (id : InputId) (l : InputLine) : s.Keeps { a with inputs := a.inputs.setLine id l } := by
  refine h.trans (.of (inputs := ?_))
  cases id <;> simp only [Inputs.setLine] <;> try split
  all_goals simp

theorem expire (h : s.Keeps a) (t : Timer) (runs : Bool) {k : State → State} (then_ : ∀ {b}, s.Keeps b → s.Keeps (k b)) :
    s.Keeps (a.expire t runs k) := by
  unfold State.expire
  repeat' split
  · exact then_ (h.elapse _)
  · exact h
  · exact h

theorem settle (h : s.Keeps a) (id : InputId) (level : Bool) {k : State → State} (then_ : ∀ {b}, s.Keeps b → s.Keeps (k b)) :
    s.Keeps (a.settle id level k) := by
  unfold State.settle
  repeat' split
  · exact h
  · exact then_ ((h.elapse _).setLine _ _)
  · exact h

/-! ### RECOVERY -/

theorem enterClosed (h : s.Keeps a) (p : PathState) (closed : closedPath p = true) : s.Keeps (a.enterClosed p) := by
  refine h.emptyTx.trans (.of (tx := id) (path := .inr ?_) (exit := .inr ⟨?_, ?_, ?_⟩))
  · constructor <;> rintro rfl <;> exact absurd closed nofun
  · simp [State.enterClosed]
  · simp
  · simp [State.setLaw, State.enterClosed]

theorem enterStopping (h : s.Keeps a) (epoch : Epoch) : s.Keeps (a.enterStopping epoch) :=
  (h.withdrawRecovery.trans (.of (s := a.withdrawRecovery) (t := { a.withdrawRecovery with
      recovery.path := .stopping, recovery.epoch := epoch
      recovery.claim := .running Config.claimMs, recovery.lineHeld := .running Config.lineHeldMs
      recovery.survey := .stopped, recovery.driveJam := false
      drive.gateHeld := true }) (path := .inr ⟨nofun, nofun⟩)))
  |>.parkAll.voidHandoffs.endPick.stopBins.reloadSilence.driveSync

theorem followEpoch (h : s.Keeps a) (f : RxFrame) : s.Keeps (a.followEpoch f) := h.trans .of

theorem addJam (h : s.Keeps a) (j : JamEntry) : s.Keeps (a.addJam j) := by
  refine h.trans (.of (jams := fun law => ?_))
  unfold State.addJam
  split
  · exact State.jamLaw_merged law _ fun k => by split <;> exact ⟨rfl, rfl, rfl⟩
  · rename_i new
    split
    · exact law
    · rename_i full
      exact State.jamLaw_appended law j (by simpa using new) (Nat.not_le.mp full)

theorem enterJam (h : s.Keeps a) (j : JamEntry) : s.Keeps (a.enterJam j) := by
  unfold State.enterJam
  split
  · exact h.addJam j
  · exact h

theorem setReport (h : s.Keeps a) (p : Pos) (f : PosReport → PosReport) : s.Keeps (a.setReport p f) := h.trans .of

theorem stopTests (h : s.Keeps a) (lineLow : Bool) : s.Keeps (a.stopTests lineLow) := by
  have seen : s.Keeps { a with recovery.record.seen := true } := h.trans .of
  unfold State.stopTests
  dsimp only
  split
  · exact h
  · split
    · exact seen
    · split
      · split
        · exact seen.addJam _
        · exact (seen.addJam _).addJam _
      · split
        · exact seen
        · exact seen.addJam _

theorem sendReady (h : s.Keeps a) : s.Keeps a.sendReady := by
  unfold State.sendReady
  repeat' split
  · exact h.trans .of
  · exact h.trans .of
  · exact h.queueFrame _

theorem queueReady (h : s.Keeps a) : s.Keeps a.queueReady := by
  unfold State.queueReady
  split
  · exact h.sendReady
  · exact h

theorem evaluateReady (h : s.Keeps a) : s.Keeps a.evaluateReady :=
  State.Keeps.queueReady (h.trans .of)

theorem queueRevision (h : s.Keeps a) : s.Keeps a.queueRevision := by
  unfold State.queueRevision
  repeat' split
  · exact h
  · exact h.queueFrame _
  · exact h

theorem doorCloseEvaluation (h : s.Keeps a) : s.Keeps a.doorCloseEvaluation := by
  unfold State.doorCloseEvaluation
  have k : s.Keeps { a with track.strays := a.track.strays.mapIdx fun i b => b && a.covered (i + 1) } :=
    h.trans (.of (strays := by simp))
  exact (k.trans .of).queueRevision.evaluateReady

theorem sendPlan (h : s.Keeps a) (is : List PlanItem) : s.Keeps (a.sendPlan is) := by
  induction is generalizing a with
  | nil => exact h.trans (.of (s := a) (t := { a with recovery.planOut := [] }))
  | cons i is ih =>
    unfold State.sendPlan
    split
    · exact (h.queueTagged .plan (a.planPayload i)).trans .of
    · exact ih h.lose

/-- 11 R182: the entry to PLAN comes with the vote that it asks for. -/
theorem enterPlan (h : s.Keeps a) (vote : a.voted) : s.Keeps a.enterPlan := by
  have k : a.Keeps { a with recovery.path := .survey } := .of (path := .inr ⟨nofun, nofun⟩)
  have entered : a.Keeps { a with recovery.path := .plan } :=
    { k with path := nofun, plan := fun _ => .inr vote }
  unfold State.enterPlan
  dsimp only
  split
  · exact (h.trans entered).sendPlan _
  · exact h.trans entered

theorem voteTest (h : s.Keeps a) : s.Keeps a.voteTest := by
  unfold State.voteTest
  split
  · rename_i vote
    simp only [State.voteComplete, Bool.and_eq_true, List.all_eq_true, beq_iff_eq, Bool.not_eq_true', List.isEmpty_eq_false_iff]
      at vote
    obtain ⟨⟨-, digest⟩, ⟨-, someone⟩, ready⟩ := vote
    exact h.enterPlan ⟨someone, digest, ready⟩
  · exact h

theorem clearanceTests (h : s.Keeps a) : s.Keeps a.clearanceTests := by
  unfold State.clearanceTests
  split
  · exact State.Keeps.voteTest (State.Keeps.doorCloseEvaluation (h.trans .of))
  · exact h.queueRevision.evaluateReady.voteTest

theorem enterClearance (h : s.Keeps a) : s.Keeps a.enterClearance :=
  (h.trans (.of (s := a) (t := { a with recovery.path := .clearance, recovery.driveNeed := false })
    (path := .inr ⟨nofun, nofun⟩))).driveSync.reevaluate.clearanceTests

theorem runoutTest (h : s.Keeps a) : s.Keeps a.runoutTest := by
  unfold State.runoutTest
  split
  · exact h.parkAll.gateFollow.voidHandoffs.enterClearance
  · exact h

theorem completed (h : s.Keeps a) : s.Keeps a.completed := h.needTest.ejectStart.runoutTest

theorem setCompleted (h : s.Keeps a) : s.Keeps a.setCompleted := h.needTest.runoutTest

theorem restore_serial (e : Entry) : e.restore.serial = e.serial := by
  unfold Entry.restore
  split <;> rfl

theorem restoreRunout (h : s.Keeps a) : s.Keeps a.restoreRunout :=
  h.mapQueue _ fun e => by
    split
    · exact restore_serial e
    · rfl

theorem reportCoasted (h : s.Keeps a) : s.Keeps a.reportCoasted := h.fold _ _ fun _ h => h.queueFrame _

theorem enterRunout (h : s.Keeps a) : s.Keeps a.enterRunout :=
  (h.restoreRunout.trans (.of (s := a.restoreRunout) (t := { a.restoreRunout with
    recovery.path := .runout, drive.gateHeld := false }) (path := .inr ⟨nofun, nofun⟩)))
  |>.gateFollow.resetFreeCounts.reportCoasted.divertForSheet.needTest.reevaluate.offerTest.ejectStart

theorem dropGone (h : s.Keeps a) : s.Keeps a.dropGone := h.filterQueue _

theorem enterResuming (h : s.Keeps a) : s.Keeps a.enterResuming :=
  ((h.trans (.of (s := a) (t := { a with recovery.path := .resuming, drive.gateHeld := false })
    (path := .inr ⟨nofun, nofun⟩))).mapQueue Entry.restore restore_serial).gateFollow.reevaluate.driveSync

/-! ### Events of the inputs and the line -/

theorem offerCover (h : s.Keeps a) (k : Nat) : s.Keeps (a.offerCover k) := by
  unfold State.offerCover
  split
  · exact h.offerTest
  · exact h

theorem arrivalReport (h : s.Keeps a) (e : Entry) : s.Keeps (a.arrivalReport e) := by
  unfold State.arrivalReport
  split
  · exact h.queueFrame _
  · exact h

theorem changeFirst_serials (p : Entry → Bool) (f : Entry → Entry) (serial : ∀ e, (f e).serial = e.serial) (es : List Entry) :
    (changeFirst p f es).map (·.serial) = es.map (·.serial) := by
  induction es with
  | nil => rfl
  | cons e es ih =>
    unfold changeFirst
    split
    · simp [serial]
    · simp [ih]

theorem coverSensorK (h : s.Keeps a) (k : Nat) : s.Keeps (a.coverSensorK k) := by
  unfold State.coverSensorK
  repeat' split
  · exact h.strayCover k
  · refine State.Keeps.offerCover (State.Keeps.imageCover (h.trans (.of (entries := ?_))) k _) k
    simp [changeFirst_serials _ (a.leadTo k) fun _ => rfl]
  · exact h

theorem departure (h : s.Keeps a) (x : Serial) : s.Keeps (a.departure x) := by
  unfold State.departure
  repeat' split
  · exact h.deliver x
  · exact h
  · exact h.offerTest
  · exact h

theorem uncoverTrack (h : s.Keeps a) (k : Nat) (e : Entry) : s.Keeps (a.uncoverTrack k e) := by
  unfold State.uncoverTrack
  dsimp only
  split
  · exact h.filterQueue _
  · exact h.trans (.of (entries := by simp [changeFirst_serials _ (a.trailTo (k + 1)) fun _ => rfl]))

theorem uncoverSensor (h : s.Keeps a) (k : Nat) : s.Keeps (a.uncoverSensor k) := by
  unfold State.uncoverSensor
  dsimp only
  split
  · split
    · exact h
    · rename_i e _
      have short : s.Keeps (if a.isShort k e then a.detect .short k (some e.serial) else a) := by
        split
        · exact h.detect _ _ _
        · exact h
      split
      · exact ((short.uncoverTrack k e).departure e.serial).occupancyChanged a
      · exact short.uncoverTrack k e
  · exact h

theorem throatCleared (h : s.Keeps a) (k : Nat) : s.Keeps (a.throatCleared k) := by
  unfold State.throatCleared
  split
  · exact h.pickTest
  · exact h

theorem drdyRisen (h : s.Keeps a) : s.Keeps a.drdyRisen := by
  unfold State.drdyRisen
  split
  · exact h.driveRunning
  · exact h

theorem drdyFallen (h : s.Keeps a) : s.Keeps a.drdyFallen := by
  unfold State.drdyFallen
  split
  · exact h
  · exact h.trans .of
  · exact h.detectDrive.driveHalt
  · exact h.driveOff.spinTest

theorem doorOpened (h : s.Keeps a) : s.Keeps a.doorOpened := by
  unfold State.doorOpened
  have jam := (h.detect .door 0 none).driveForcedOff
  split
  iterate 4 exact jam
  · exact State.Keeps.driveForcedOff (State.Keeps.queueReady (h.trans .of))
  · exact h.driveForcedOff

theorem doorClosed (h : s.Keeps a) : s.Keeps a.doorClosed := by
  have marked : s.Keeps { a with recovery.doorMark := true } := h.trans .of
  unfold State.doorClosed
  dsimp only
  split
  · exact marked.driveSync
  · exact marked.driveSync
  · exact marked.driveSync
  · exact (marked.detect .door 0 none).driveSync
  · exact (marked.detect .door 0 none).driveSync
  · exact h.doorCloseEvaluation.driveSync
  · exact h.driveSync

theorem trayChanged (h : s.Keeps a) : s.Keeps a.trayChanged := by
  have tray : s.Keeps { a with feed.tray := trayOf (a.reads .tempty) } := h.trans .of
  unfold State.trayChanged
  dsimp only
  repeat' split
  · exact (tray.queueFrame _).pickTest
  · exact tray.queueFrame _
  · exact tray.pickTest
  · exact tray
  · exact h

theorem finisherDone (h : s.Keeps a) (n : Nat) : s.Keeps (a.finisherDone n) := by
  unfold State.finisherDone
  split
  · exact (h.closeSet n .finished).reevaluate
  · exact h

theorem trayFallen (h : s.Keeps a) (n : Nat) : s.Keeps (a.trayFallen n) := by
  unfold State.trayFallen
  dsimp only
  split
  · split
    · have k := (h.setBin n (fun b => { b with trayStray := false }) id).ejected n
      split
      · exact k.reevaluate.evaluateReady
      · exact k.reevaluate
    · have k := h.trayTaken n
      split
      · exact k.reevaluate.evaluateReady
      · exact k.reevaluate
  · exact h

theorem purgeEmptied (h : s.Keeps a) : s.Keeps a.purgeEmptied := by
  unfold State.purgeEmptied
  split
  · exact h.trans (.of (exit := .inr ⟨rfl, fun _ => Nat.zero_le _, id⟩))
  · exact h

theorem fallen (h : s.Keeps a) : s.Keeps a.fallen := by
  unfold State.fallen
  split
  iterate 6 exact h.enterStopping _
  · exact h.parkAll.reloadSilence
  · exact h

theorem risen (h : s.Keeps a) : s.Keeps a.risen := by
  unfold State.risen
  dsimp only
  split
  · exact h.driveSync.surveyTest.evaluateReady
  · exact h.driveSync.surveyTest

end State.Keeps
end Sys2Proof.Machine
end

section
/-! PROOFS. The events of the link, and the receipts and timers that change neither the roster nor the vote, keep the laws. -/

-- One theorem after the other: side by side they wait for each other's defaults and hold too many threads.
set_option deprecated.oldSectionVars true

namespace Sys2Proof.Machine
namespace State.Keeps
variable {s a : State}

/-! ### Attempts, collisions and completions on the link -/

theorem linkBusy (h : s.Keeps a) : s.Keeps a.linkBusy := by
  unfold State.linkBusy
  split
  · exact h.trans .of
  · exact h

theorem changeFrame_length (p : TxFrame → Bool) (f : TxFrame → TxFrame) (fs : List TxFrame) :
    (changeFrame p f fs).length = fs.length := by
  induction fs with
  | nil => rfl
  | cons x xs ih => unfold changeFrame; split <;> simp [ih]

theorem transmit (h : s.Keeps a) (f : TxFrame → TxFrame) : s.Keeps (a.transmit f) := by
  unfold State.transmit
  dsimp only
  refine State.Keeps.linkBusy (h.trans ?_)
  split
  · exact .of
  · split
    · exact .of (tx := by simp [changeFrame_length])
    · exact .of (tx := by simp [changeFrame_length])

theorem attempt (h : s.Keeps a) (f : TxFrame) : s.Keeps (a.attempt f) := by
  unfold State.attempt
  repeat' split
  · exact h.transmit _
  · exact h
  · exact h
  · exact h.withdrawFrames _
  · exact h.transmit _
  · exact h.transmit _

theorem removeSending (h : s.Keeps a) : s.Keeps a.removeSending :=
  h.trans (.of (tx := Nat.le_trans (List.length_filter_le _ _)))

theorem countCollision (h : s.Keeps a) : s.Keeps a.countCollision := h.trans (.of (tx := by simp [State.countCollision]))

/-- 02 R29: what the live states and ROLLCALL do after an abandoned frame. -/
theorem givenUp (h : s.Keeps a) (p : Payload) : s.Keeps (
    if livePath a.path then
      (match p with
       | .jam .link _ _ => a
       | _ => a.detect .link 0 none)
    else if a.path == .rollcall then
      (match p with
       | .join _ _ => a.queueFrame a.joinFrame
       | _ => a)
    else a) := by
  split
  · split
    · exact h
    · exact h.detect _ _ _
  · split
    · split
      · exact h.queueFrame _
      · exact h
    · exact h

theorem abandoned (h : s.Keeps a) (f : TxFrame) : s.Keeps (a.abandoned f) := by
  unfold State.abandoned
  dsimp only
  split
  · exact State.Keeps.givenUp (h.trans .of) _
  · exact h.givenUp _

theorem nextReady (h : s.Keeps a) : s.Keeps a.nextReady := by
  unfold State.nextReady
  split
  · exact State.Keeps.queueReady (h.trans .of)
  · exact h

theorem collide (h : s.Keeps a) (f : TxFrame) : s.Keeps (a.collide f) := by
  have k : s.Keeps { a with link.backoff := true } := h.trans .of
  unfold State.collide
  dsimp only
  split
  · exact k.removeSending.linkBusy.nextReady
  · split
    · exact (k.removeSending.abandoned f).linkBusy.nextReady
    · exact k.countCollision.linkBusy.nextReady

theorem takeIn (h : s.Keeps a) (f : RxFrame) : s.Keeps (a.takeIn f) := by
  unfold State.takeIn
  split
  · rename_i room
    have fits : a.link.rx.length < 24 := room
    exact h.trans (.of (rx := fun _ => by simpa using Nat.succ_le_of_lt fits))
  · exact h.lose

theorem ownCompleted (h : s.Keeps a) (p : Payload) : s.Keeps (a.ownCompleted p) := by
  have k : s.Keeps (if livePath a.path then { a with table.presence := .running Config.presenceMs } else a) := by
    split
    · exact h.trans .of
    · exact h
  unfold State.ownCompleted
  dsimp only
  split
  · exact k.setOffer _ _
  · refine k.trans (.of (expected := .inl (sublist_of_eq ?_)))
    rw [List.map_map]
    exact List.map_congr_left fun i _ => by simp only [Function.comp]; split <;> rfl
  · exact k

theorem continueAfter (h : s.Keeps a) (f : TxFrame) : s.Keeps (a.continueAfter f) := by
  unfold State.continueAfter
  split
  · exact h.sendReport _
  · exact h.sendPlan _
  · split
    · exact h.nextReady
    · exact h

theorem completeOwn (h : s.Keeps a) (f : TxFrame) : s.Keeps (a.completeOwn f) :=
  ((h.removeSending.linkBusy.takeIn _).ownCompleted _).continueAfter f

theorem heardFrom (h : s.Keeps a) (p : Pos) : s.Keeps (a.heardFrom p) := by
  unfold State.heardFrom
  split
  · exact h.setEntry _ _ (by exact fun _ => ⟨rfl, rfl⟩)
  · exact h

theorem completeOther (h : s.Keeps a) (w : WireFrame) : s.Keeps (a.completeOther w) := by
  unfold State.completeOther
  dsimp only
  split
  · exact h.linkBusy
  · exact h.linkBusy.lose
  · exact (h.linkBusy.heardFrom _).takeIn _

/-! ### Receipts that leave the roster and the vote -/

theorem markAccepted (h : s.Keeps a) (epoch : Epoch) (xs : List Serial) : s.Keeps (a.markAccepted epoch xs) :=
  (h.mapQueue _ fun e => by split <;> rfl).gateFollow.endHold a

theorem markDeferred (h : s.Keeps a) (epoch : Epoch) (xs : List Serial) : s.Keeps (a.markDeferred epoch xs) :=
  h.mapQueue _ fun e => by split <;> rfl

theorem ownArrived (h : s.Keeps a) (sender : Pos) : s.Keeps (a.ownArrived sender) := by
  unfold State.ownArrived
  split
  · exact h.offerTest
  · exact h

theorem arrivedForPick (h : s.Keeps a) (sender : Pos) (picked : Bool) : s.Keeps (a.arrivedForPick sender picked) := by
  unfold State.arrivedForPick
  split
  · exact h.dropEntries
  · exact h

theorem accountPurged (h : s.Keeps a) (r : SheetRecord) : s.Keeps (a.accountPurged r) := by
  unfold State.accountPurged
  split
  · exact h.trans .of
  · exact h

theorem accountEjected (h : s.Keeps a) (f : ForfeitedSet) : s.Keeps (a.accountEjected f) := by
  unfold State.accountEjected
  split
  · exact h
  · exact h.trans .of

theorem setDoneReceived (h : s.Keeps a) (sender : Pos) (bin : Nat) (job : Byte) (set : BitVec 16) :
    s.Keeps (a.setDoneReceived sender bin job set) := by
  unfold State.setDoneReceived
  split
  · exact h
  · exact State.Keeps.setCompleted ((h.accountEjected _).trans (.of (tx := id) (exit := .inl rfl)))

theorem restartClaimed (h : s.Keeps a) (p : Pos) : s.Keeps (a.restartClaimed p) := by
  unfold State.restartClaimed
  split
  · exact ((h.setEntry p _ (by exact fun _ => ⟨rfl, rfl⟩)).escalate).queueFrame _
  · exact h

theorem peerLost (h : s.Keeps a) (epoch : Epoch) (serial : Option Serial) : s.Keeps (a.peerLost epoch serial) := by
  unfold State.peerLost
  repeat' split
  · exact h.setEntry _ _ (by exact fun _ => ⟨rfl, rfl⟩)
  · exact h
  · exact h

theorem recordHolding (h : s.Keeps a) (p : Pos) (f : HoldingFields) : s.Keeps (a.recordHolding p f) := by
  have k := h.setReport p fun r =>
    { r with entries := (r.entries ++ f.entries).take Config.reportMax, restarted := r.restarted || f.restarted
             desync := r.desync || f.desync }
  unfold State.recordHolding
  dsimp only
  repeat' split
  · exact ((k.setEntry p _ (by exact fun _ => ⟨rfl, rfl⟩)).escalate).escalate
  · exact k.escalate
  · exact (k.setEntry p _ (by exact fun _ => ⟨rfl, rfl⟩)).escalate
  · exact k

theorem ownHolding (h : s.Keeps a) (p : Pos) : s.Keeps (a.ownHolding p) := by
  unfold State.ownHolding
  split
  · exact h.trans .of
  · exact h

theorem setlistReceived (h : s.Keeps a) (f : RxFrame) (bin : Nat) (job : Byte) (set : BitVec 16) (es : List SetEntry) (last : Bool) :
    s.Keeps (a.setlistReceived f bin job set es last) := by
  unfold State.setlistReceived
  split
  · exact h.setReport _ _
  · exact h

theorem planEntryReceived (h : s.Keeps a) (f : RxFrame) (e : PlanEntryFields) : s.Keeps (a.planEntryReceived f e) := by
  unfold State.planEntryReceived
  split
  · exact h.trans .of
  · exact h

theorem dropPending (h : s.Keeps a) (f : RxFrame) (v : RevisionContent) : s.Keeps (a.dropPending f v) := by
  unfold State.dropPending
  split
  · exact h.trans .of
  · exact h

theorem revisionTests (h : s.Keeps a) (applied dropped : Bool) : s.Keeps (a.revisionTests applied dropped) := by
  unfold State.revisionTests
  repeat' split
  · exact h.clearanceTests
  · exact h.queueReady
  · exact h.queueRevision
  · exact h

/-! ### Timers -/

theorem leadJam (h : s.Keeps a) (x : Serial) : s.Keeps (a.leadJam x) := by
  unfold State.leadJam
  split
  · exact h
  · exact (h.mapQueue _ fun e => by split <;> rfl).detect _ _ _

theorem trailJam (h : s.Keeps a) (x : Serial) : s.Keeps (a.trailJam x) := by
  unfold State.trailJam
  split
  · exact h
  · exact (h.mapQueue _ fun e => by split <;> rfl).detect _ _ _

theorem pickExpired (h : s.Keeps a) : s.Keeps a.pickExpired := by
  unfold State.pickExpired
  split
  · exact h.trans .of
  · exact State.Keeps.pickTest ((h.detect .misfeed 0 a.track.pickCandidate).endPick.trans (.of (tx := id)))

theorem lateArrival (h : s.Keeps a) (x : Serial) :
    s.Keeps { a with track.expected := a.track.expected.map fun i =>
      if i.serial == x then { i with timer := .expired } else i } := by
  refine h.trans (.of (expected := .inl (sublist_of_eq ?_)))
  rw [List.map_map]
  exact List.map_congr_left fun i _ => by simp only [Function.comp]; split <;> rfl

theorem binTimeout (h : s.Keeps a) (n : Nat) : s.Keeps (a.setBin n Bin.timeout) := by
  refine h.setBin n _ fun law => ?_
  have same : (a.bin n).timeout.openSet = (a.bin n).openSet := by unfold Bin.timeout; split <;> rfl
  exact same ▸ law

/-! ### First settling -/

theorem takePurgeCount (h : s.Keeps a) : s.Keeps a.takePurgeCount := by
  unfold State.takePurgeCount
  split
  · split
    · refine h.trans (.of (exit := .inr ⟨rfl, fun _ => ?_, id⟩))
      dsimp only
      split
      · exact Nat.zero_le _
      · exact Nat.le_refl _
    · exact h
  · exact h

theorem takePempty (h : s.Keeps a) : s.Keeps a.takePempty := by
  unfold State.takePempty
  split
  · exact h
  · exact State.Keeps.takePurgeCount (h.trans (.of (exit := .inr ⟨rfl, id, id⟩)))

theorem takeTray (h : s.Keeps a) : s.Keeps a.takeTray := by
  unfold State.takeTray
  split
  · exact h.trans .of
  · exact h

end State.Keeps
end Sys2Proof.Machine
end

section
/-! PROOFS. The entry to STOPPING (08 R126, R128). -/

-- One theorem after the other: side by side they wait for each other's defaults and hold too many threads.
set_option deprecated.oldSectionVars true

namespace Sys2Proof.Machine

/-! ### STOPPING: the drive is not asked for, and the survey waits for the claim window -/

theorem State.reevaluate_still {s : State} (h : movingPath s.path = false) : s.reevaluate = s := by
  simp [State.reevaluate, h]

theorem State.spinTest_unasked {s : State} (h : s.driveRequest = false) : s.spinTest = s := by
  simp [State.spinTest, h]

theorem State.surveyTest_claimed {s : State} (h : s.recovery.claim ≠ .expired) : s.surveyTest = s := by
  simp [State.surveyTest, h]

/-- 04 R64, R65: a turning drive has been halted; with DRDY low it is OFF at once. -/
def State.halted (s : State) : State :=
  { s.endPick with
    drive.state := if s.reads .drdy then .halting else .off
    drive.spin := .stopped, drive.fresh := false
    drive.halt := if s.reads .drdy then .running Config.haltMs else .stopped }

theorem State.driveHalt_stopping {s : State} (path : s.recovery.path = .stopping) (claim : s.recovery.claim ≠ .expired) :
    s.driveHalt = s.halted := by
  unfold State.driveHalt State.driveOff
  dsimp only
  rw [State.reevaluate_still (by simp [State.path, path, movingPath])]
  split
  · simp [State.halted, *]
  · rw [State.reevaluate_still (by simp [State.path, path, movingPath]), State.surveyTest_claimed (by simpa using claim),
      State.spinTest_unasked (by simp [State.driveRequest, State.path, path])]
    simp [State.halted, *]

/-- 08 R126: after the drive rules of STOPPING, DEN is inactive. -/
theorem State.driveSync_stopping {s : State} (path : s.recovery.path = .stopping) (claim : s.recovery.claim ≠ .expired) :
    s.driveSync = if s.drive.state = .spinning ∨ s.drive.state = .running then s.halted else s := by
  have unasked : s.driveRequest = false := by simp [State.driveRequest, State.path, path]
  unfold State.driveSync
  split
  · rw [State.spinTest_unasked unasked]; simp [*]
  · simp [State.driveHalt_stopping path claim, *]
  · simp [State.driveHalt_stopping path claim, *]
  · simp [*]

/-- The entry to STOPPING before the drive's part. -/
def State.stopped (s : State) (epoch : Epoch) : State :=
  let t := s.withdrawRecovery
  ({ t with
    recovery.path := .stopping, recovery.epoch := epoch
    recovery.claim := .running Config.claimMs, recovery.lineHeld := .running Config.lineHeldMs
    recovery.survey := .stopped, recovery.driveJam := false
    drive.gateHeld := true } : State).parkAll.voidHandoffs.endPick.stopBins.reloadSilence

theorem State.enterStopping_eq (s : State) (epoch : Epoch) : s.enterStopping epoch = (s.stopped epoch).driveSync := rfl

/-- 08 R126, R128: what stands at the entry to STOPPING. -/
theorem State.enterStopping_stands (s : State) (epoch : Epoch) :
    let t := s.enterStopping epoch
    t.recovery.path = .stopping ∧ t.recovery.epoch = epoch ∧ t.recovery.claim = .running 100 ∧
      t.recovery.lineHeld = .running 2000 ∧ t.den = false ∧ t.feed.pickOut = false ∧ t.track.expected = s.track.expected := by
  have path : (s.stopped epoch).recovery.path = .stopping := by simp [State.stopped]
  have claim : (s.stopped epoch).recovery.claim = .running 100 := by simp [State.stopped, Config.claimMs]
  have held : (s.stopped epoch).recovery.lineHeld = .running 2000 := by simp [State.stopped, Config.lineHeldMs]
  have expected : (s.stopped epoch).track.expected = s.track.expected := by simp [State.stopped]
  have pickOut : (s.stopped epoch).feed.pickOut = false := by simp [State.stopped, State.endPick]
  have own : (s.stopped epoch).recovery.epoch = epoch := by simp [State.stopped]
  rw [State.enterStopping_eq, State.driveSync_stopping path (by simp [claim])]
  split
  · refine ⟨path, own, claim, held, ?_, rfl, expected⟩
    by_cases h : (s.stopped epoch).reads .drdy <;> simp [State.den, State.halted, h]
  · rename_i off
    refine ⟨path, own, claim, held, ?_, pickOut, expected⟩
    simp only [not_or] at off
    simp [State.den, off]

end Sys2Proof.Machine
end

section
/-! PROOFS. What a change of the roster keeps of the laws of its records and fates. -/

-- One theorem after the other: side by side they wait for each other's defaults and hold too many threads.
set_option deprecated.oldSectionVars true

namespace Sys2Proof.Machine

/-- 01 R1, R3: the roster's part of `State.rosterLaw`. -/
def Roster.Lawful (a : Roster) : Prop :=
  a.records.length ≤ 48 ∧ (a.records.map (·.serial)).Nodup ∧ ∀ r ∈ a.records, r.duplex = true ↔ r.backPass.isSome

/-- 01 R19, R20, R21: the roster's part of `State.fateLaw`. -/
def Roster.Fated (a : Roster) : Prop :=
  (a.phase = .normal ↔ a.stage = .notApplicable) ∧ (a.phase = .normal → ∀ r ∈ a.records, r.fate = none) ∧
    (a.stage = .closed → ∀ r ∈ a.records, r.fate.isSome)

/-- The roster `b` follows on `a`: the laws stand, and each of its records is one of `a`, with a fate where that has one. -/
structure Roster.Follows (a b : Roster) : Prop where
  lawful : a.Lawful → b.Lawful
  fated : a.Fated → b.Fated
  fates : ∀ q ∈ b.records, ∃ r ∈ a.records, r.serial = q.serial ∧ (r.fate.isSome → q.fate.isSome)

/-- The roster `b` is that of phase NORMAL that an INTENT or the final PLAN makes of `a`. -/
structure Roster.Ends (a b : Roster) : Prop where
  lawful : a.Lawful → b.Lawful
  fated : a.Fated → b.Fated
  normal : b.phase = .normal

@[simp] theorem Roster.Follows.refl (a : Roster) : a.Follows a := ⟨id, id, fun q hq => ⟨q, hq, rfl, id⟩⟩

theorem Roster.Follows.trans {a b c : Roster} (h : a.Follows b) (k : b.Follows c) : a.Follows c where
  lawful := k.lawful ∘ h.lawful
  fated := k.fated ∘ h.fated
  fates := by
    intro q hq
    obtain ⟨r, hr, serial, fate⟩ := k.fates q hq
    obtain ⟨p, hp, first, older⟩ := h.fates r hr
    exact ⟨p, hp, first.trans serial, fate ∘ older⟩

/-- The record has the same identity: what the laws of the roster speak of but the fate. -/
def SheetRecord.Same (r q : SheetRecord) : Prop := q.serial = r.serial ∧ q.duplex = r.duplex ∧ q.backPass = r.backPass

/-- Records are removed or changed, and none is added. -/
theorem Roster.lawful_of_map {α : Type} {a b : Roster} (ws : List α) (f g : α → SheetRecord)
    (old : (ws.map f).Sublist a.records) (new : b.records = ws.map g) (same : ∀ w, (f w).Same (g w)) (law : a.Lawful) :
    b.Lawful := by
  obtain ⟨room, nodup, duplex⟩ := law
  have serials : (ws.map g).map (·.serial) = (ws.map f).map (·.serial) := by
    simp only [List.map_map]
    exact List.map_congr_left fun w _ => (same w).1
  refine ⟨?_, ?_, ?_⟩
  · have := old.length_le
    simp only [new, List.length_map] at this ⊢
    exact Nat.le_trans this room
  · rw [new, serials]
    exact nodup.sublist (old.map _)
  · intro q hq
    rw [new, List.mem_map] at hq
    obtain ⟨w, hw, rfl⟩ := hq
    obtain ⟨-, d, p⟩ := same w
    rw [d, p]
    exact duplex _ (old.subset (List.mem_map_of_mem hw))

theorem Roster.Follows.of_map {α : Type} {a b : Roster} (ws : List α) (f g : α → SheetRecord)
    (old : (ws.map f).Sublist a.records) (new : b.records = ws.map g) (same : ∀ w, (f w).Same (g w))
    (fates : ∀ w, (f w).fate.isSome → (g w).fate.isSome) (fated : a.Fated → b.Fated) : a.Follows b where
  fated := fated
  lawful := Roster.lawful_of_map ws f g old new same
  fates := by
    intro q hq
    rw [new, List.mem_map] at hq
    obtain ⟨w, hw, rfl⟩ := hq
    exact ⟨f w, old.subset (List.mem_map_of_mem hw), (same w).1.symm, fates w⟩

/-- Records are removed, or changed in what has no part in the laws. -/
theorem Roster.Follows.edit {a b : Roster} (keep : SheetRecord → Bool) (g : SheetRecord → SheetRecord)
    (new : b.records = (a.records.filter keep).map g) (same : ∀ r : SheetRecord, r.Same (g r) ∧ (g r).fate = r.fate)
    (phase : b.phase = a.phase) (stage : b.stage = a.stage) : a.Follows b := by
  refine .of_map (a.records.filter keep) id g (by simp) new (fun r => (same r).1) (fun r => by simp [(same r).2]) ?_
  rintro ⟨applies, normal, closed⟩
  simp only [Roster.Fated, phase, stage, new, List.mem_map, List.mem_filter]
  refine ⟨applies, ?_, ?_⟩
  · rintro h _ ⟨r, ⟨hr, -⟩, rfl⟩
    exact (same r).2.trans (normal h r hr)
  · rintro h _ ⟨r, ⟨hr, -⟩, rfl⟩
    exact (same r).2 ▸ closed h r hr

/-- 11 R187, 01 R22: records are removed or changed and lose their fates, and phase NORMAL begins. -/
theorem Roster.Ends.of_each {a b : Roster} (g : SheetRecord → SheetRecord) (new : b.records = a.records.map g)
    (same : ∀ r : SheetRecord, r.Same (g r) ∧ (g r).fate = none) (phase : b.phase = .normal) (stage : b.stage = .notApplicable) :
    a.Ends b where
  lawful := Roster.lawful_of_map a.records id g (by simp) new fun r => (same r).1
  normal := phase
  fated := by
    rintro -
    refine ⟨by simp [phase, stage], fun _ q hq => ?_, by simp [stage]⟩
    rw [new, List.mem_map] at hq
    obtain ⟨r, -, rfl⟩ := hq
    exact (same r).2

/-- Every record is changed in what has no part in the laws. -/
theorem Roster.Follows.each {a b : Roster} (g : SheetRecord → SheetRecord) (new : b.records = a.records.map g)
    (same : ∀ r : SheetRecord, r.Same (g r) ∧ (g r).fate = r.fate) (phase : b.phase = a.phase) (stage : b.stage = a.stage) :
    a.Follows b :=
  .edit (fun _ => true) g (new.trans (congrArg (List.map g) (List.filter_eq_self.mpr fun _ _ => rfl).symm)) same phase stage

/-- 01 R11: a record with a new serial joins in phase NORMAL. -/
theorem State.acceptIntent_ends {s : State} {f : IntentFields} (h : s.refusal f = none) :
    s.roster.Ends (s.acceptIntent f).roster := by
  have normal : s.roster.phase = .normal := by
    refine Decidable.byContradiction fun other => ?_
    have : s.roster.phase = .recovery := by cases phase : s.roster.phase <;> simp_all
    simp [State.refusal, this] at h
  unfold State.refusal at h
  simp only [normal, Option.isSome_iff_ne_none, ne_eq] at h
  split at h
  · exact absurd h nofun
  · split at h
    · exact absurd h nofun
    · rename_i room
      split at h
      · exact absurd h nofun
      · rename_i fresh
        simp only [Bool.or_eq_true, not_or, decide_eq_true_eq, Nat.not_le] at room
        have room : s.roster.records.length < 48 := room.1
        have fresh : ∀ r ∈ s.roster.records, r.serial ≠ f.serial := by
          simpa [State.record] using fresh
        refine ⟨?_, ?_, normal⟩
        · rintro ⟨-, nodup, duplex⟩
          refine ⟨by simpa [State.acceptIntent] using Nat.succ_le_of_lt room, ?_, ?_⟩
          · simp only [State.acceptIntent, List.map_append, List.nodup_append]
            refine ⟨nodup, by simp, ?_⟩
            simpa [newRecord] using fresh
          · intro r hr
            simp only [State.acceptIntent, List.mem_append, List.mem_singleton] at hr
            rcases hr with hr | rfl
            · exact duplex r hr
            · by_cases d : f.duplex = true <;> simp [newRecord, d]
        · rintro ⟨applies, none, closed⟩
          refine ⟨applies, fun h r hr => ?_, fun stage => ?_⟩
          · simp only [State.acceptIntent, List.mem_append, List.mem_singleton] at hr
            rcases hr with hr | rfl
            · exact none h r hr
            · rfl
          · have : s.roster.stage = .notApplicable := applies.mp normal
            simp [State.acceptIntent, this] at stage

/-- 09 R143, 01 R21: at a survey close, or after one, every record takes a fate. -/
theorem State.storeFates_follows (s : State) (again : Bool) {a : Roster} (records : s.roster.records = a.records)
    (phase : s.roster.phase = a.phase) (stage : a.stage ≠ .notApplicable) (after : s.roster.stage ≠ .notApplicable) :
    a.Follows (s.storeFates again).roster := by
  have sheets := (if again then s else s.countReports).computeFates_sheets again
  have same : (if again then s else s.countReports).roster.records = a.records := by
    split
    · exact records
    · simpa [State.countReports] using records
  refine .of_map ((if again then s else s.countReports).computeFates again).1 (·.sheet)
    (fun w => { w.sheet with fate := some (w.fate.getD .keep) }) (sublist_of_eq (sheets.trans same)) rfl (fun _ => ⟨rfl, rfl, rfl⟩)
    (fun _ _ => rfl) ?_
  rintro ⟨applies, -, -⟩
  have recovery : ¬ a.phase = .normal := fun normal => stage (applies.mp normal)
  have kept : (s.storeFates again).roster.phase = a.phase := phase
  refine ⟨?_, fun normal => absurd (kept ▸ normal) recovery, fun _ => (s.storeFates_records again).2⟩
  exact ⟨fun normal => absurd (kept ▸ normal) recovery, fun none => absurd none after⟩

end Sys2Proof.Machine
end

section
/-! PROOFS. The part of a command that changes the roster or the vote: `Prepares`; a command is such a part and one that keeps: `Steps`. -/

-- One theorem after the other: side by side they wait for each other's defaults and hold too many threads.
set_option deprecated.oldSectionVars true

namespace Sys2Proof.Machine

/-! ### The part of a command that may change the roster and the vote -/

/-- What a part of a command keeps that admits no sheet and enters no PLAN, whatever it does to the roster and to the vote. -/
structure State.Readies (s a : State) : Prop extends State.Safe s a where
  older : ∀ i ∈ a.track.expected, ∃ j ∈ s.track.expected, j.serial = i.serial
  plan : a.path = .plan → s.path = .plan

/-- Such a part whose roster follows on the one before. -/
structure State.Prepares (s a : State) : Prop extends State.Readies s a where
  roster : s.roster.Follows a.roster

/-- Such a part after which an INTENT has joined the roster, or the final PLAN has ended the recovery. -/
structure State.Ends (s a : State) : Prop extends State.Readies s a where
  roster : s.roster.Ends a.roster

/-- A command does its work on the roster and the vote, and then what follows from it. -/
def State.Steps (s t : State) : Prop := ∃ a, s.Prepares a ∧ (a.Keeps t ∨ ∃ b, a.Ends b ∧ b.Keeps t)

/-- A safe change of the roster, the table or RECOVERY. -/
theorem State.Readies.of {s t : State} (safe : s.Safe t := by exact .of)
    (expected : t.track.expected = s.track.expected := by simp)
    (path : t.recovery.path = s.recovery.path ∨ t.path ≠ .plan := by simp) : s.Readies t :=
  { safe with
    older := fun i hi => ⟨i, expected ▸ hi, rfl⟩
    plan := fun h => path.elim (fun same => by simpa only [State.path, same] using h) (absurd h) }

theorem State.Prepares.of {s t : State} (safe : s.Safe t := by exact .of)
    (expected : t.track.expected = s.track.expected := by simp)
    (path : t.recovery.path = s.recovery.path ∨ t.path ≠ .plan := by simp)
    (roster : s.roster.Follows t.roster := by simp) : s.Prepares t :=
  { State.Readies.of safe expected path with roster }

theorem State.Prepares.refl (s : State) : s.Prepares s := .of (.refl s)

theorem State.Readies.trans {s a b : State} (h : s.Readies a) (k : a.Readies b) : s.Readies b :=
  { h.toSafe.trans k.toSafe with
    older := fun i hi => by
      obtain ⟨j, hj, same⟩ := k.older i hi
      obtain ⟨m, hm, first⟩ := h.older j hj
      exact ⟨m, hm, first.trans same⟩
    plan := h.plan ∘ k.plan }

theorem State.Prepares.trans {s a b : State} (h : s.Prepares a) (k : a.Prepares b) : s.Prepares b :=
  { h.toReadies.trans k.toReadies with roster := h.roster.trans k.roster }

theorem State.Prepares.keeps {s a t : State} (h : s.Prepares a) (k : a.Keeps t) : s.Steps t := ⟨a, h, .inl k⟩

theorem State.Prepares.ends {s a b t : State} (h : s.Prepares a) (k : a.Ends b) (l : b.Keeps t) : s.Steps t :=
  ⟨a, h, .inr ⟨b, k, l⟩⟩

theorem State.Keeps.steps {s t : State} (h : s.Keeps t) : s.Steps t := (State.Prepares.refl s).keeps h

theorem State.Prepares.steps {s t : State} (h : s.Prepares t) : s.Steps t := h.keeps (.refl t)

theorem State.Prepares.follows {s a t : State} (h : s.Prepares a) (k : a.Steps t) : s.Steps t := by
  obtain ⟨b, first, next⟩ := k
  exact ⟨b, h.trans first, next⟩

theorem State.Steps.refl (s : State) : s.Steps s := (State.Keeps.refl s).steps

theorem State.Steps.keeps {s a t : State} (h : s.Steps a) (k : a.Keeps t) : s.Steps t := by
  obtain ⟨b, first, next | ⟨c, ends, next⟩⟩ := h
  · exact first.keeps (next.trans k)
  · exact first.ends ends (next.trans k)

/-- The roster and the vote stand from some state of the command on. -/
theorem State.Steps.readies {s t : State} (h : s.Steps t) : ∃ a, s.Readies a ∧ a.Keeps t := by
  obtain ⟨a, first, next | ⟨b, ends, next⟩⟩ := h
  · exact ⟨a, first.toReadies, next⟩
  · exact ⟨b, first.toReadies.trans ends.toReadies, next⟩

theorem State.Steps.roster {s t : State} (h : s.Steps t) :
    (s.roster.Lawful → t.roster.Lawful) ∧ (s.roster.Fated → t.roster.Fated) ∧
      (t.roster.phase = .recovery → s.roster.Follows t.roster) := by
  obtain ⟨a, first, next | ⟨b, ends, next⟩⟩ := h
  · rw [next.roster]
    exact ⟨first.roster.lawful, first.roster.fated, fun _ => first.roster⟩
  · rw [next.roster]
    exact ⟨ends.roster.lawful ∘ first.roster.lawful, ends.roster.fated ∘ first.roster.fated,
      fun recovery => absurd (ends.roster.normal.symm.trans recovery) nofun⟩

theorem State.Steps.ite {s a b : State} {c : Prop} [Decidable c] (h : c → s.Steps a) (k : ¬ c → s.Steps b) :
    s.Steps (if c then a else b) := by
  split
  · exact h (by assumption)
  · exact k (by assumption)

namespace State.Prepares
variable {s a : State}

/-- A part that keeps, admits no sheet and enters no PLAN. -/
theorem step {b : State} (h : s.Prepares a) (k : a.Keeps b) (expected : b.track.expected = a.track.expected := by simp)
    (path : b.recovery.path = a.recovery.path ∨ b.path ≠ .plan := by simp) : s.Prepares b :=
  h.trans (.of k.toSafe expected path (k.roster ▸ .refl _))

theorem setEntry (h : s.Prepares a) (p : Pos) (f : TableEntry → TableEntry) : s.Prepares (a.setEntry p f) :=
  h.trans (.of (.of (table := by simp [State.setEntry]; split <;> simp)))

theorem mapEntries (h : s.Prepares a) (f : Pos → TableEntry → TableEntry) : s.Prepares (a.mapEntries f) :=
  h.trans (.of (.of (table := by simp [State.mapEntries])))

theorem setRecord (h : s.Prepares a) (x : Serial) (f : SheetRecord → SheetRecord)
    (same : ∀ r : SheetRecord, r.Same (f r) ∧ (f r).fate = r.fate) : s.Prepares (a.setRecord x f) :=
  h.trans (.of (roster := .each (fun r => if r.serial == x then f r else r) rfl
    (fun r => by
      split
      · exact same r
      · exact ⟨⟨rfl, rfl, rfl⟩, rfl⟩) rfl rfl))

theorem removeRecord (h : s.Prepares a) (x : Serial) : s.Prepares (a.removeRecord x) :=
  h.trans (.of (roster := .edit (fun r => r.serial != x) id (by simp [State.removeRecord]) (fun _ => ⟨⟨rfl, rfl, rfl⟩, rfl⟩) rfl rfl))

theorem storeFates (h : s.Prepares a) (again : Bool) (stage : a.roster.stage ≠ .notApplicable) : s.Prepares (a.storeFates again) :=
  h.trans (.of (roster := a.storeFates_follows again rfl rfl stage stage))

theorem openRecovery (h : s.Prepares a) (epoch : Epoch) : s.Prepares (a.openRecovery epoch) :=
  (h.mapEntries fun _ e => { e with holdingReceived := false, lastReady := none }).trans (.of (.of (s := a.mapEntries _)
    (t := a.openRecovery epoch) (table := by simp [State.openRecovery]))
    (roster := .of_map a.roster.records id (fun r => { r with handoff := none }) (by simp) rfl (fun _ => ⟨rfl, rfl, rfl⟩)
      (fun _ => id) fun _ => by simp [Roster.Fated, State.openRecovery]))

theorem enterStopping (h : s.Prepares a) (epoch : Epoch) : s.Prepares (a.enterStopping epoch) := by
  obtain ⟨path, -, -, -, -, -, expected⟩ := a.enterStopping_stands epoch
  exact h.step ((State.Keeps.refl a).enterStopping epoch) expected (.inr (by simp [State.path, path]))

theorem applyEpoch (h : s.Prepares a) (epoch : Epoch) : s.Prepares (a.applyEpoch epoch) := by
  have opened := h.openRecovery epoch
  unfold State.applyEpoch
  dsimp only
  split
  · exact h
  · split
    · exact opened.enterStopping epoch
    · exact opened.enterStopping epoch
    · exact opened.step .of
    iterate 4
      split
      · exact opened
      · exact opened.enterStopping epoch
    · exact opened

theorem epochReceived (h : s.Prepares a) (f : RxFrame) : s.Prepares (a.epochReceived f) :=
  (h.applyEpoch f.epoch).step (b := (a.applyEpoch f.epoch).followEpoch f) ((State.Keeps.refl _).followEpoch f)

theorem emptyVote (h : s.Prepares a) : s.Prepares a.emptyVote := (h.mapEntries fun _ e => { e with lastReady := none }).step (.of (table := ⟨id, id⟩) (votes := fun _ => ⟨rfl, rfl⟩))

theorem escalate (h : s.Prepares a) : s.Prepares a.escalate := h.step (State.Keeps.refl _).escalate

theorem countMismatch (h : s.Prepares a) : s.Prepares a.countMismatch := by
  have k : s.Prepares { a with recovery.mismatch := min (a.recovery.mismatch + 1) Config.mismatchMax } := h.step .of
  unfold State.countMismatch
  dsimp only
  split
  · exact k.escalate
  · exact k

theorem strikeOut (h : s.Prepares a) (ps : List Pos) : s.Prepares (a.strikeOut ps) := by
  have k := h.mapEntries fun p e => if ps.contains p then { e with presence := .absent, silence := .stopped } else e
  unfold State.strikeOut
  dsimp only
  split
  · exact k.step ((State.Keeps.refl _).enterClosed .silentAbsent rfl) (path := .inr (by simp [State.enterClosed, State.path]))
  · exact k

end State.Prepares

/-! ### The survey close -/

/-- 08 R140, 11 R175: the survey close up to the fates. -/
theorem State.surveyClose_prepares (s : State) (open_ : s.roster.stage = .open) :
    s.Prepares (({ (s.withdrawFrames Payload.isClose).mapEntries fun _ e => { e with lastReady := none } with
      roster.stage := .closed, recovery.survey := .stopped, recovery.following := false
      recovery.clearanceEpoch := s.roster.epoch, recovery.firstDigest := none } : State).storeFates false) := by
  have emptied := (((State.Prepares.refl s).step ((State.Keeps.refl s).withdrawFrames Payload.isClose)).mapEntries
    fun _ e => { e with lastReady := none })
  refine emptied.trans (.of (.trans (.of (tx := id)) .of) (roster := ?_))
  exact State.storeFates_follows _ false (by simp) (by simp) (by simp [open_]) nofun

theorem State.closeSurvey_steps (s : State) (open_ : s.roster.stage = .open) : s.Steps s.closeSurvey := by
  have closed := s.surveyClose_prepares open_
  unfold State.closeSurvey
  dsimp only
  split
  · split
    · exact closed.keeps (State.Keeps.refl _).enterRunout
    · exact closed.keeps (State.Keeps.refl _).enterClearance
  · exact closed.steps

end Sys2Proof.Machine
end

section
/-! PROOFS. Each receipt is a part that changes the roster or the vote and one that keeps. -/

-- One theorem after the other: side by side they wait for each other's defaults and hold too many threads.
set_option deprecated.oldSectionVars true

namespace Sys2Proof.Machine

/-! ### Receipts -/

/-- 02 R32: the frame at the head of the receive queue is taken. -/
theorem State.Prepares.taken {s : State} {f : RxFrame} {rest : List RxFrame} (h : s.link.rx = f :: rest) :
    s.Prepares { s with link.rx := rest } :=
  .of (.of (rx := by rw [h]; exact Nat.le_trans (Nat.le_succ _)))

theorem State.restart_steps (s : State) (e : Epoch) : s.Steps (s.restart e) := by
  have cleared : s.Prepares { s with table := { entries := List.replicate 16 {}, map := List.replicate 16 {},
                                                presence := .running Config.presenceMs } } := .of
  have own := (cleared.setEntry s.own fun x => { x with presence := .present, summary := some s.prof.summary }).step
    (State.Keeps.refl _).rebuildMap
  unfold State.restart
  refine own.keeps (State.Keeps.detect (State.Keeps.loadSilence ?_) .restart 0 none)
  exact .of (path := .inr ⟨nofun, nofun⟩)

theorem State.formingReceipt_steps (s : State) (f : RxFrame) : s.Steps (s.formingReceipt f) := by
  unfold State.formingReceipt
  split
  · exact s.restart_steps _
  · exact .refl s

theorem State.receive_steps (s : State) (kind : Payload → Bool) (live : RxFrame → State → State)
    (steps : ∀ f (t : State), t.Steps (live f t)) : s.Steps (s.receive kind live) := by
  unfold State.receive
  split
  · exact .refl s
  · rename_i found
    have taken := State.Prepares.taken found
    dsimp only
    split
    · exact .refl s
    · split
      · split
        · exact taken.steps
        · exact taken.follows (steps _ _)
      · split
        · exact taken.follows (State.formingReceipt_steps _ _)
        · exact taken.steps

theorem State.enterRollCall_prepares (s : State) : s.Prepares s.enterRollCall :=
  .of (t := s.enterRollCall) (.of (path := .inr nofun)) (path := .inr nofun)

theorem State.joinRollCall_prepares (s : State) (p : Pos) (m : Summary) : s.Prepares (s.joinRollCall p m) := by
  have k : s.Prepares { s with table.rollCall := .running Config.rollCallMs } := .of
  exact k.setEntry p _

theorem State.joinRestarted_prepares (s : State) (p : Pos) (m : Summary) : s.Prepares (s.joinRestarted p m) :=
  ((State.Prepares.refl s).setEntry p _).step (State.Keeps.refl _).rebuildMap

theorem State.joinReceived_steps (s : State) (p : Pos) (m : Summary) : s.Steps (s.joinReceived p m) := by
  unfold State.joinReceived
  repeat' split
  · exact (s.enterRollCall_prepares.trans (State.joinRollCall_prepares _ p m)).steps
  · exact .refl s
  · exact (s.joinRollCall_prepares p m).steps
  · exact .refl s
  · exact (s.joinRestarted_prepares p m).steps
  · exact .refl s

theorem execJoinReceipt_steps {s t : State} (h : execJoinReceipt s = .next t) : s.Steps t := by
  unfold execJoinReceipt at h
  injection h with h
  subst h
  split
  · rename_i found
    split
    · exact .refl s
    · exact (State.Prepares.taken found).follows (State.joinReceived_steps _ _ _)
  · exact .refl s

theorem execProbeReceipt_steps {s t : State} (h : execProbeReceipt s = .next t) : s.Steps t := by
  unfold execProbeReceipt at h
  injection h with h
  subst h
  split
  · rename_i found
    have taken := State.Prepares.taken found
    dsimp only
    split
    · exact .refl s
    · split
      · split
        · exact taken.steps.keeps ((State.Keeps.refl _).queueFrame _)
        · exact taken.steps
      · split
        · exact taken.follows (State.formingReceipt_steps _ _)
        · exact taken.steps
  · exact .refl s

theorem State.intentReceived_steps (s : State) (sender : Pos) (f : IntentFields) : s.Steps (s.intentReceived sender f) := by
  unfold State.intentReceived
  split
  · exact .refl s
  · split
    · rename_i accepted
      exact (State.Prepares.refl s).ends { State.Readies.of with roster := State.acceptIntent_ends accepted }
        (State.Keeps.refl _).rosterChanged
    · split
      · exact ((State.Keeps.refl s).queueFrame _).steps
      · exact .refl s

theorem State.withdrawJob_prepares (s : State) (job : Byte) : s.Prepares (s.withdrawJob job) :=
  .of (roster := .edit (fun r => !(r.stage == .announced && r.job == job)) id (by simp [State.withdrawJob])
    (fun _ => ⟨⟨rfl, rfl, rfl⟩, rfl⟩) rfl rfl)

theorem State.applyOffer_prepares (s : State) (sender dest : Pos) (epoch : Epoch) (xs : List Serial) :
    s.Prepares (s.applyOffer sender dest epoch xs) :=
  .of (roster := .each _ rfl (fun r => by split <;> exact ⟨⟨rfl, rfl, rfl⟩, rfl⟩) rfl rfl)

theorem State.applyAccept_prepares (s : State) (sender : Pos) (epoch : Epoch) (xs : List Serial) :
    s.Prepares (s.applyAccept sender epoch xs) :=
  .of (roster := .each _ rfl (fun r => by split <;> exact ⟨⟨rfl, rfl, rfl⟩, rfl⟩) rfl rfl)

theorem State.applyDefer_prepares (s : State) (sender : Pos) (epoch : Epoch) (xs : List Serial) (reason : DeferReason) :
    s.Prepares (s.applyDefer sender epoch xs reason) :=
  .of (roster := .each _ rfl (fun r => by split <;> exact ⟨⟨rfl, rfl, rfl⟩, rfl⟩) rfl rfl)

theorem State.withdrawReceived_steps (s : State) (sender : Pos) (job : Byte) : s.Steps (s.withdrawReceived sender job) := by
  unfold State.withdrawReceived
  split
  · exact (s.withdrawJob_prepares job).keeps (State.Keeps.refl _).rosterChanged
  · exact .refl s

theorem State.offerReceived_steps (s : State) (f : RxFrame) (dest : Pos) (xs : List Serial) (window spacing : Nat) :
    s.Steps (s.offerReceived f dest xs window spacing) := by
  have offered := s.applyOffer_prepares f.sender dest f.epoch xs
  unfold State.offerReceived
  dsimp only
  split
  · exact offered.steps.keeps ((State.Keeps.refl _).answerOffer _)
  · exact offered.steps

theorem State.acceptReceived_steps (s : State) (f : RxFrame) (dest : Pos) (xs : List Serial) (free : Nat) :
    s.Steps (s.acceptReceived f dest xs free) := by
  have accepted := s.applyAccept_prepares f.sender f.epoch xs
  have declared := accepted.steps.keeps ((State.Keeps.refl _).declareFree f.sender free)
  have marked : s.Steps (if dest == s.own then
      ((s.applyAccept f.sender f.epoch xs).declareFree f.sender free).markAccepted f.epoch xs
      else (s.applyAccept f.sender f.epoch xs).declareFree f.sender free) := by
    split
    · exact declared.keeps ((State.Keeps.refl _).markAccepted _ _)
    · exact declared
  unfold State.acceptReceived
  dsimp only
  exact .ite (fun _ => marked.keeps ((State.Keeps.refl _).offerAccepted f.sender xs).offerTest)
    fun _ => .ite (fun _ => marked.keeps (State.Keeps.refl _).offerTest) fun _ => marked

theorem State.deferReceived_steps (s : State) (f : RxFrame) (dest : Pos) (xs : List Serial) (reason : DeferReason) (free : Nat) :
    s.Steps (s.deferReceived f dest xs reason free) := by
  have deferred := s.applyDefer_prepares f.sender f.epoch xs reason
  have declared := deferred.steps.keeps ((State.Keeps.refl _).declareFree f.sender free)
  have marked : s.Steps (if dest == s.own then
      ((s.applyDefer f.sender f.epoch xs reason).declareFree f.sender free).markDeferred f.epoch xs
      else (s.applyDefer f.sender f.epoch xs reason).declareFree f.sender free) := by
    split
    · exact declared.keeps ((State.Keeps.refl _).markDeferred _ _)
    · exact declared
  have answered (u : State) : u.Keeps (if s.matchesOffer f.sender dest xs false then
      u.offerDeferred f.sender xs reason free else u) := by
    split
    · exact (State.Keeps.refl u).offerDeferred _ _ _ _
    · exact .refl u
  unfold State.deferReceived
  dsimp only
  exact .ite (fun _ => marked.keeps (answered _).offerTest) fun _ => marked.keeps (answered _)

theorem SheetRecord.arrived_same (sender : Pos) (picked : Bool) (r : SheetRecord) :
    r.Same (SheetRecord.arrived sender picked r) ∧ (SheetRecord.arrived sender picked r).fate = r.fate := by
  unfold SheetRecord.arrived
  split <;> exact ⟨⟨rfl, rfl, rfl⟩, rfl⟩

theorem State.arrivedReceived_steps (s : State) (sender : Pos) (x : Serial) (picked : Bool) :
    s.Steps (s.arrivedReceived sender x picked) := by
  have none := ((State.Keeps.refl s).ownArrived sender).steps
  have arrived : s.Steps (((s.setRecord x (SheetRecord.arrived sender picked)).rosterChanged).ownArrived sender) :=
    ((State.Prepares.refl s).setRecord x _ (SheetRecord.arrived_same sender picked)).keeps
      ((State.Keeps.refl _).rosterChanged.ownArrived sender)
  unfold State.arrivedReceived
  dsimp only
  split
  · exact none
  · split
    · split
      · exact arrived.keeps (State.Keeps.refl _).completed
      · exact arrived
    · exact none

/-- 01 R16: the roster's part of a PASS. -/
theorem State.passTaken_steps (s : State) (sender : Pos) (x : Serial) (side : Nat) (pass : Pass) :
    s.Steps (match s.record x with
      | none => s
      | some r => if s.passes sender side pass r then
          (s.setRecord x fun r => { r with sides := r.sides + 1 }).rosterChanged else s) := by
  split
  · exact .refl s
  · split
    · exact ((State.Prepares.refl s).setRecord x _ (by exact fun _ => ⟨⟨rfl, rfl, rfl⟩, rfl⟩)).keeps
        (State.Keeps.refl _).rosterChanged
    · exact .refl s

theorem State.passReceived_steps (s : State) (sender : Pos) (x : Serial) (side : Nat) (pass : Pass) :
    s.Steps (s.passReceived sender x side pass) := by
  have listed : s.Prepares (if sender == s.own then
      { s with imaging.passes := s.imaging.passes.filter fun p => p != (x, side) } else s) := by
    split
    · exact .of
    · exact .refl s
  exact listed.follows (State.passTaken_steps _ sender x side pass)

theorem State.deliveredReceived_steps (s : State) (sender : Pos) (x : Serial) : s.Steps (s.deliveredReceived sender x) := by
  have gone (r : SheetRecord) : s.Steps ((s.accountPurged r).removeRecord x).rosterChanged :=
    (((State.Prepares.refl s).step ((State.Keeps.refl s).accountPurged r)).removeRecord x).keeps (State.Keeps.refl _).rosterChanged
  unfold State.deliveredReceived
  dsimp only
  split
  · exact .refl s
  · split
    · split
      · exact (gone _).keeps (State.Keeps.refl _).completed
      · exact gone _
    · exact .refl s

theorem State.jamReceived_steps (s : State) (f : RxFrame) (k : JamKind) (serial : Option Serial) :
    s.Steps (s.jamReceived f k serial) := by
  have received := ((State.Prepares.refl s).epochReceived f).steps
  unfold State.jamReceived
  dsimp only
  split
  · exact received.keeps (((State.Keeps.refl _).restartClaimed _).enterJam _)
  · exact received.keeps (((State.Keeps.refl _).peerLost _ _).enterJam _)
  · exact received.keeps ((State.Keeps.refl _).enterJam _)

theorem State.haltReceived_steps (s : State) (f : RxFrame) : s.Steps (s.haltReceived f) :=
  ((State.Prepares.refl s).epochReceived f).steps.keeps ((State.Keeps.refl _).enterJam _)

theorem State.finalHolding_steps (s : State) (p : Pos) (h : HoldingFields) (open_ : s.roster.stage = .open) :
    s.Steps (s.finalHolding p h) := by
  have reported := ((State.Prepares.refl s).step (b := s.setReport p fun r =>
      { r with purgeSpace := h.purgeSpace, openSets := h.openSets }) ((State.Keeps.refl s).setReport p _)).setEntry p
    fun e => { e with holdingReceived := true }
  unfold State.finalHolding
  dsimp only
  split
  · split
    · exact reported.follows (State.closeSurvey_steps _ (by simpa using open_))
    · exact reported.steps
  · split
    · exact reported.escalate.follows (State.closeSurvey_steps _ (by simpa using open_))
    · exact reported.escalate.steps

theorem State.holdingReceivedFrom_steps (s : State) (f : RxFrame) (h : HoldingFields) :
    s.Steps (s.holdingReceivedFrom f h) := by
  have received := ((State.Prepares.refl s).step ((State.Keeps.refl s).ownHolding f.sender)).epochReceived f
  unfold State.holdingReceivedFrom
  dsimp only
  split
  · rename_i applies
    simp only [State.holdingApplies, Bool.and_eq_true, beq_iff_eq] at applies
    have open_ := applies.1.1.2
    have recorded := (received.step ((State.Keeps.refl _).stopTests f.lineLow)).step ((State.Keeps.refl _).recordHolding f.sender h)
    split
    · exact recorded.follows (State.finalHolding_steps _ _ _ (by simpa using open_))
    · exact recorded.steps
  · exact received.steps

theorem State.closeReceived_steps (s : State) (f : RxFrame) (ps : List Pos) : s.Steps (s.closeReceived f ps) := by
  have followed := (State.Prepares.refl s).step ((State.Keeps.refl s).followEpoch f)
  have withdrawn := followed.step ((State.Keeps.refl _).withdrawFrames Payload.isClose)
  unfold State.closeReceived
  dsimp only
  split
  · split
    · rename_i applies
      simp only [Bool.and_eq_true, beq_iff_eq] at applies
      split
      · exact (withdrawn.strikeOut ps).follows (State.closeSurvey_steps _ (by simpa using applies.1))
      · exact (withdrawn.strikeOut ps).steps
    · exact withdrawn.steps
  · exact followed.steps

theorem State.mismatched_steps (s : State) : s.Steps s.mismatched := by
  have counted := (State.Prepares.refl s).countMismatch
  have emptied := ((counted.trans (.of (t := { s.countMismatch with
    recovery.resurvey := some (s.countMismatch.recovery.clearanceEpoch + 1) }))).emptyVote).step
      (State.Keeps.refl _).withdrawRecovery
  unfold State.mismatched
  dsimp only
  split
  · exact emptied.steps.keeps (State.Keeps.openSurvey .of)
  · exact emptied.steps

theorem State.readyReceived_steps (s : State) (f : RxFrame) (clear : Bool) (digest : Crc) :
    s.Steps (s.readyReceived f clear digest) := by
  unfold State.readyReceived
  split
  · split
    · exact s.mismatched_steps
    · exact (((State.Prepares.refl s).setEntry f.sender fun e =>
        { e with lastReady := some { clear := clear, digest := digest, epoch := f.epoch } }).trans .of).keeps
        (State.Keeps.refl _).voteTest
  · exact .refl s

theorem State.applyRevision_prepares (s : State) (sender : Pos) (v : RevisionContent) (closed : s.roster.stage = .closed) :
    s.Prepares (s.applyRevision sender v) := by
  have revised : s.Prepares { s with
    recovery.revisions := s.recovery.revisions ++ [revisionItem sender v]
    recovery.clearanceEpoch := s.recovery.clearanceEpoch + 1 } := .of
  have stored := ((revised.emptyVote).step (State.Keeps.refl _).withdrawRecovery).storeFates true
    (by simp [State.emptyVote, closed])
  unfold State.applyRevision
  dsimp only
  split
  · exact stored.trans (.of (.of (path := .inr nofun)) (path := .inr nofun))
  · exact stored.trans .of

theorem State.revisionReceived_steps (s : State) (f : RxFrame) (v : RevisionContent) : s.Steps (s.revisionReceived f v) := by
  have dropped := (State.Prepares.refl s).step ((State.Keeps.refl s).dropPending f v)
  unfold State.revisionReceived
  dsimp only
  split
  · rename_i applies
    simp only [State.revises, State.ofClearance, Bool.and_eq_true, beq_iff_eq] at applies
    have closed := applies.1.1.1.2
    exact (dropped.trans (State.applyRevision_prepares _ _ _ (by simpa using closed))).steps.keeps ((State.Keeps.refl _).revisionTests _ _)
  · exact dropped.steps.keeps ((State.Keeps.refl _).revisionTests _ _)

theorem State.planCustody_same (s : State) (r : SheetRecord) :
    r.Same (s.planCustody r) ∧ (s.planCustody r).fate = r.fate := by
  unfold State.planCustody
  repeat' split
  all_goals exact ⟨⟨rfl, rfl, rfl⟩, rfl⟩

theorem State.planCarrier_same (s : State) (r : SheetRecord) :
    r.Same (s.planCarrier r) ∧ (s.planCarrier r).fate = r.fate := by
  unfold State.planCarrier
  repeat' split
  all_goals exact ⟨⟨rfl, rfl, rfl⟩, rfl⟩

theorem planPurge_same (r : SheetRecord) : r.Same (planPurge r) ∧ (planPurge r).fate = r.fate := by
  unfold planPurge
  split
  all_goals exact ⟨⟨rfl, rfl, rfl⟩, rfl⟩

theorem SheetRecord.Same.trans {p q r : SheetRecord} (h : p.Same q) (k : q.Same r) : p.Same r :=
  ⟨k.1.trans h.1, k.2.1.trans h.2.1, k.2.2.trans h.2.2⟩

/-- 11 R187: the plan leaves the records it keeps their identity, and so far their fates. -/
theorem State.planRecords_prepares (s : State) : s.Prepares { s with roster.records := s.planRecords } := by
  refine .of (roster := .edit s.staysInPlan _ rfl (fun r => ?_) rfl rfl)
  obtain ⟨custody, fate1⟩ := s.planCustody_same r
  obtain ⟨carrier, fate2⟩ := s.planCarrier_same (s.planCustody r)
  obtain ⟨purge, fate3⟩ := planPurge_same (s.planCarrier (s.planCustody r))
  exact ⟨(custody.trans carrier).trans purge, fate3.trans (fate2.trans fate1)⟩

theorem State.applyFinalPlan_steps (s : State) (epoch : Epoch) (f : PlanFields) : s.Steps (s.applyFinalPlan epoch f) := by
  have dropped := (s.planRecords_prepares.step (State.Keeps.refl _).closeStaySets).step (b := State.dropGone _)
    (State.Keeps.refl _).dropGone
  have voteless := dropped.mapEntries fun _ e => { e with lastReady := none, restarted := false }
  unfold State.applyFinalPlan
  dsimp only
  split
  · refine voteless.ends { State.Readies.of with roster := ?_ }
      ((State.Keeps.refl _).enterResuming.occupancyChanged _).rosterChanged
    exact .of_each (fun r => { r with fate := none }) rfl (fun _ => ⟨⟨rfl, rfl, rfl⟩, rfl⟩) rfl rfl
  · refine voteless.ends { State.Readies.of with roster := ?_ } ((State.Keeps.refl _).occupancyChanged _).rosterChanged
    exact .of_each (fun r => { r with fate := none }) rfl (fun _ => ⟨⟨rfl, rfl, rfl⟩, rfl⟩) rfl rfl

theorem State.applyPlan_steps (s : State) (f : RxFrame) (p : PlanFields) : s.Steps (s.applyPlan f p) := by
  unfold State.applyPlan
  split
  · exact s.applyFinalPlan_steps _ _
  · exact (State.Keeps.of (t := { s with recovery.planIn := _ })).steps

theorem State.planReceived_steps (s : State) (f : RxFrame) (p : PlanFields) : s.Steps (s.planReceived f p) := by
  have struck := (State.Prepares.refl s).strikeOut p.absent
  unfold State.planReceived
  dsimp only
  split
  · split
    · exact struck.follows (State.applyPlan_steps _ _ _)
    · exact struck.steps
  · split
    · exact struck.steps
    · exact .refl s

end Sys2Proof.Machine
end

section
/-! PROOFS. Each command but RESET and the profile read is a part that changes the roster or the vote and one that keeps. -/

-- One theorem after the other: side by side they wait for each other's defaults and hold too many threads.
set_option deprecated.oldSectionVars true

namespace Sys2Proof.Machine

/-! ### Every command but RESET and the profile read -/

theorem State.elapse_prepares (s : State) (n : Nat) : s.Prepares (s.elapse n) where
  toSafe := ((State.Keeps.refl s).elapse n).toSafe
  older := by simpa [State.elapse, State.passTrack] using fun i hi => ⟨i, hi, rfl⟩
  plan := by simp [State.path]
  roster := by simp

theorem State.settle_steps (s : State) (id : InputId) (level : Bool) (k : State → State) (steps : ∀ b : State, b.Steps (k b)) :
    s.Steps (s.settle id level k) := by
  unfold State.settle
  split
  · exact .refl s
  · split
    · exact ((s.elapse_prepares _).step ((State.Keeps.refl _).setLine _ _)).follows (steps _)
    · exact .refl s

theorem State.expire_steps (s : State) (t : Timer) (runs : Bool) (k : State → State) (steps : ∀ b : State, b.Steps (k b)) :
    s.Steps (s.expire t runs k) := by
  unfold State.expire
  split
  · split
    · exact (s.elapse_prepares _).follows (steps _)
    · exact .refl s
  · exact .refl s

/-- 05 R78: a cover of sensor 1 has a candidate: one that is not in the queue yet, while the queue has room. -/
theorem State.coverFirst_some {s t : State} {e : Entry} (h : s.coverFirst = some (t, e)) :
    ∃ x, s.candidate = some x ∧ (∀ f ∈ s.track.queue, f.serial ≠ x) ∧ s.track.queue.length < s.prof.capacity ∧
      e = s.appended x ∧ t.track.queue = s.track.queue ++ [e] ∧
      (t.track.expected = s.track.expected ∨ t.track.expected = dropHead s.track.expected) := by
  unfold State.coverFirst at h
  split at h
  · exact absurd h nofun
  · rename_i x found
    split at h
    · exact absurd h nofun
    · rename_i free
      simp only [Bool.or_eq_true, List.any_eq_true, beq_iff_eq, decide_eq_true_eq, not_or, not_exists, not_and, Nat.not_le] at free
      refine ⟨x, found, free.1, free.2, ?_⟩
      dsimp only at h
      split at h
      · cases h
        exact ⟨rfl, rfl, .inl rfl⟩
      · cases h
        exact ⟨rfl, rfl, .inr rfl⟩

theorem dropHead_sublist (is : List ExpItem) : ((dropHead is).map (·.serial)).Sublist (is.map (·.serial)) := by
  match is with
  | [] => exact .refl _
  | [_] => exact List.nil_sublist _
  | a :: b :: rest =>
    have same : (if a.group == b.group then { b with timer := .running b.spacing } else b).serial = b.serial := by
      split <;> rfl
    simp only [dropHead, List.map_cons, same]
    exact .cons _ (.refl _)

theorem State.coverFirst_prepares {s t : State} {e : Entry} (h : s.coverFirst = some (t, e)) : s.Prepares t := by
  obtain ⟨x, -, fresh, room, rfl, queue, expected⟩ := State.coverFirst_some h
  have frame := State.coverFirst_frame s t _ h
  have sub : (t.track.expected.map (·.serial)).Sublist (s.track.expected.map (·.serial)) := by
    rcases expected with same | dropped
    · exact sublist_of_eq (congrArg _ same)
    · rw [dropped]
      exact dropHead_sublist _
  simp only [OuterKept] at frame
  obtain ⟨⟨-, profile, -, -, inputs⟩, -, link, table, roster, strays, -, -, -, -, exit, -, recovery⟩ := frame
  exact {
    profile
    tx := by rw [link]; exact id
    rx := by rw [link]; exact id
    occupancy := by
      rintro ⟨-, nodup⟩
      refine ⟨by simpa [queue, State.prof, profile] using Nat.succ_le_of_lt room, ?_⟩
      simp only [queue, List.map_append, List.nodup_append]
      refine ⟨nodup, by simp, ?_⟩
      simpa [State.appended] using fresh
    expected := fun law => law.sublist sub
    purge := by simp [State.prof, profile, exit]
    sets := by simp [State.setLaw, exit]
    shape := by simp [State.shapeLaw, inputs, strays, exit, table]
    path := by simp [State.path, recovery]
    jams := by simp [State.jamLaw, recovery]
    roster := by simp [roster]
    older := fun i hi => by
      have := sub.subset (List.mem_map_of_mem hi)
      simpa using this
    plan := by simp [State.path, recovery] }

theorem State.coverSensor1_steps (s : State) : s.Steps s.coverSensor1 := by
  unfold State.coverSensor1
  split
  · split
    · exact ((State.Keeps.refl s).strayCover 1).steps
    · rename_i found
      exact (State.coverFirst_prepares found).steps.keeps
        ((((State.Keeps.refl _).arrivalReport _).imageCover 1 _).offerCover 1 |>.occupancyChanged s)
  · exact .refl s

theorem State.closeRollCall_steps (s : State) : s.Steps s.closeRollCall := by
  have frozen : s.Prepares (State.freezeTable { s with table.rollCall := .expired }) :=
    (State.Prepares.of (t := { s with table.rollCall := .expired })).mapEntries _
  unfold State.closeRollCall
  dsimp only
  split
  · exact (frozen.trans (.of (t := State.backToListen _)
      (.of (path := .inr nofun) (table := by simp [State.backToListen])) (path := .inr nofun))).steps
  · split
    · exact frozen.steps.keeps (((State.Keeps.refl _).enterClosed .unfit rfl).trans
        (.of (path := .inl rfl) (tx := id) (exit := .inl rfl)))
    · exact frozen.steps.keeps (State.Keeps.refl _).rebuildMap.runFromRollCall

theorem Inputs.takeFirst_keeps (s : State) : s.Keeps { s with inputs := s.inputs.takeFirst } :=
  .of (inputs := by simp [Inputs.takeFirst])

theorem State.firstSettled_steps (s : State) : s.Steps (
    let t := s.elapse s.firstTime
    let u := { t with inputs := t.inputs.takeFirst }
    let v := if t.inputs.tempty.first && !u.inputs.tempty.first then u.takeTray else u
    if t.inputs.pempty.first && !u.inputs.pempty.first then v.takePempty else v) := by
  have settled := (s.elapse_prepares s.firstTime).steps.keeps (Inputs.takeFirst_keeps _)
  have tray := State.Steps.ite (c := ((s.elapse s.firstTime).inputs.tempty.first &&
    !(s.elapse s.firstTime).inputs.takeFirst.tempty.first) = true)
    (fun _ => settled.keeps (State.Keeps.refl _).takeTray) fun _ => settled
  exact .ite (fun _ => tray.keeps (State.Keeps.refl _).takePempty) fun _ => tray

theorem next_steps {s t u : State} (h : (.next u : Reply) = .next t) (k : s.Steps u) : s.Steps t := by
  cases h
  exact k

theorem exec_steps {c : Instr} {s t : State} (reset : ∀ low, c ≠ .reset low) (read : ∀ r b k, c ≠ .profileReadDone r b k)
    (h : exec c s = .next t) : s.Steps t := by
  have settled (id : InputId) (level : Bool) (k : State → State) (keeps : ∀ {b}, s.Keeps b → s.Keeps (k b)) :
      s.Steps (s.settle id level k) := ((State.Keeps.refl s).settle id level keeps).steps
  have expired (timer : Timer) (runs : Bool) (k : State → State) (keeps : ∀ {b}, s.Keeps b → s.Keeps (k b)) :
      s.Steps (s.expire timer runs k) := ((State.Keeps.refl s).expire timer runs keeps).steps
  cases c with
  | reset low => exact absurd rfl (reset low)
  | profileReadDone r b k => exact absurd rfl (read r b k)
  | profileReadTimeout =>
    refine next_steps h (.ite (fun _ => ?_) fun _ => .refl s)
    exact State.Keeps.steps (((State.Keeps.refl s).enterClosed .silent rfl).trans
      (.of (path := .inl rfl) (tx := id) (exit := .inl rfl)))
  | rawInputChange id level => exact next_steps h ((State.Keeps.refl s).setLine id _).steps
  | sensor1Cover => exact next_steps h (s.settle_steps _ _ _ State.coverSensor1_steps)
  | sensorKCover k => exact next_steps h (.ite (fun _ => settled _ _ _ fun h => h.coverSensorK k) fun _ => .refl s)
  | sensorUncover k => exact next_steps h (settled _ _ _ fun h => (h.uncoverSensor k).throatCleared k)
  | drdyRise => exact next_steps h (settled _ _ _ fun h => h.drdyRisen)
  | drdyFall => exact next_steps h (settled _ _ _ fun h => h.drdyFallen)
  | doorOpen => exact next_steps h (settled _ _ _ fun h => h.doorOpened)
  | doorClose => exact next_steps h (settled _ _ _ fun h => h.doorClosed)
  | temptyChange => exact next_steps h (settled _ _ _ fun h => h.trayChanged)
  | fdoneRise n => exact next_steps h (settled _ _ _ fun h => h.finisherDone n)
  | setTrayFall n => exact next_steps h (settled _ _ _ fun h => h.trayFallen n)
  | pemptyRise => exact next_steps h (settled _ _ _ fun h => h.purgeEmptied)
  | stopLineFall =>
    refine next_steps h (.ite (fun _ => .refl s) fun _ => ?_)
    exact (State.Keeps.of (t := { s with link.lineLow := true })).fallen.steps
  | stopLineRise =>
    refine next_steps h (.ite (fun _ => .refl s) fun _ => ?_)
    exact (State.Keeps.of (t := { s with link.lineLow := false })).risen.steps
  | linkAttemptStart quiet =>
    refine next_steps h ?_
    split
    · exact .ite (fun _ => ((State.Keeps.refl s).attempt _).steps) fun _ => .refl s
    · exact .refl s
  | collision =>
    refine next_steps h ?_
    split
    · exact ((State.Keeps.refl s).collide _).steps
    · exact .refl s
  | frameCompletion c =>
    refine next_steps h ?_
    split
    · exact ((State.Keeps.refl s).completeOwn _).steps
    · exact ((State.Keeps.refl s).completeOther _).steps
    · exact .refl s
  | joinReceipt => exact execJoinReceipt_steps h
  | presenceReceipt => exact next_steps h (s.receive_steps _ _ fun _ => .refl)
  | refusedReceipt => exact next_steps h (s.receive_steps _ _ fun _ => .refl)
  | demandReceipt => exact next_steps h (s.receive_steps _ _ fun _ => .refl)
  | trayReceipt => exact next_steps h (s.receive_steps _ _ fun _ => .refl)
  | statusReceipt => exact next_steps h (s.receive_steps _ _ fun _ => .refl)
  | intentReceipt => exact next_steps h (s.receive_steps _ _ fun f t => by
      split
      · exact t.intentReceived_steps _ _
      · exact .refl t)
  | withdrawReceipt => exact next_steps h (s.receive_steps _ _ fun f t => by
      split
      · exact t.withdrawReceived_steps _ _
      · exact .refl t)
  | offerReceipt => exact next_steps h (s.receive_steps _ _ fun f t => by
      split
      · exact t.offerReceived_steps _ _ _ _ _
      · exact .refl t)
  | acceptReceipt => exact next_steps h (s.receive_steps _ _ fun f t => by
      split
      · exact t.acceptReceived_steps _ _ _ _
      · exact .refl t)
  | deferReceipt => exact next_steps h (s.receive_steps _ _ fun f t => by
      split
      · exact t.deferReceived_steps _ _ _ _ _
      · exact .refl t)
  | arrivedReceipt => exact next_steps h (s.receive_steps _ _ fun f t => by
      split
      · exact (t.arrivedReceived_steps _ _ _).keeps ((State.Keeps.refl _).arrivedForPick _ _)
      · exact .refl t)
  | passReceipt => exact next_steps h (s.receive_steps _ _ fun f t => by
      split
      · exact t.passReceived_steps _ _ _ _
      · exact .refl t)
  | deliveredReceipt => exact next_steps h (s.receive_steps _ _ fun f t => by
      split
      · exact t.deliveredReceived_steps _ _
      · exact .refl t)
  | setDoneReceipt => exact next_steps h (s.receive_steps _ _ fun f t => by
      split
      · exact .ite (fun _ => ((State.Keeps.refl t).setDoneReceived _ _ _ _).steps) fun _ => .refl t
      · exact .refl t)
  | jamReceipt => exact next_steps h (s.receive_steps _ _ fun f t => by
      split
      · exact t.jamReceived_steps _ _ _
      · exact .refl t)
  | haltReceipt => exact next_steps h (s.receive_steps _ _ fun f t => t.haltReceived_steps f)
  | holdingReceipt => exact next_steps h (s.receive_steps _ _ fun f t => by
      split
      · exact t.holdingReceivedFrom_steps _ _
      · exact .refl t)
  | setlistReceipt => exact next_steps h (s.receive_steps _ _ fun f t => by
      split
      · exact ((State.Keeps.refl t).setlistReceived _ _ _ _ _ _).steps
      · exact .refl t)
  | closeReceipt => exact next_steps h (s.receive_steps _ _ fun f t => by
      split
      · exact t.closeReceived_steps _ _
      · exact .refl t)
  | readyReceipt => exact next_steps h (s.receive_steps _ _ fun f t => by
      split
      · exact t.readyReceived_steps _ _ _
      · exact .refl t)
  | revisionReceipt => exact next_steps h (s.receive_steps _ _ fun f t => by
      split
      · exact t.revisionReceived_steps _ _
      · exact .refl t)
  | planReceipt => exact next_steps h (s.receive_steps _ _ fun f t => by
      split
      · exact t.planReceived_steps _ _
      · exact .refl t)
  | planEntryReceipt => exact next_steps h (s.receive_steps _ _ fun f t => by
      split
      · exact ((State.Keeps.refl t).planEntryReceived _ _).steps
      · exact .refl t)
  | probeReceipt => exact execProbeReceipt_steps h
  | listenTimerExpiry => exact next_steps h (s.expire_steps _ _ _ fun t => t.enterRollCall_prepares.steps)
  | joinDelayExpiry => exact next_steps h (expired _ _ _ fun h =>
      State.Keeps.queueFrame (h.trans .of) _)
  | rollCallClose => exact next_steps h (s.expire_steps _ _ _ State.closeRollCall_steps)
  | presenceTimerExpiry => exact next_steps h (s.expire_steps _ _ _ fun t => by
      have marked : t.Keeps { t with table.presence := .expired } := .of
      exact .ite (fun _ => (marked.queueFrame _).steps) fun _ => marked.steps)
  | silenceTimerExpiry p => exact next_steps h (expired _ _ _ fun h =>
      (h.setEntry p (fun e => { e with silence := .expired }) fun _ => ⟨rfl, rfl⟩).detect _ _ _)
  | spinTimerExpiry => exact next_steps h (expired _ _ _ fun h => h.detectDrive.driveHalt)
  | haltTimerExpiry => exact next_steps h (expired _ _ _ fun h => h.detectDrive.driveOff.spinTest)
  | claimWindowExpiry => exact next_steps h (expired _ _ _ fun h => State.Keeps.surveyTest (h.trans .of))
  | lineHeldTimerExpiry => exact next_steps h (s.expire_steps _ _ _ fun t => by
      have marked : t.Keeps { t with recovery.lineHeld := .expired } := .of
      exact .ite (fun _ => marked.openSurvey.steps) fun _ => marked.steps)
  | surveyTimerExpiry => exact next_steps h (s.expire_steps _ _ _ fun t => by
      have marked : t.Keeps { t with recovery.survey := .expired } := .of
      exact .ite (fun _ => (marked.queueFrame _).steps) fun _ => marked.steps)
  | answerTimerExpiry dest => exact next_steps h (expired _ _ _ fun h => (h.setOffer dest _).detect _ _ _)
  | reOfferTimerExpiry dest => exact next_steps h (expired _ _ _ fun h => (h.setOffer dest _).offerTest)
  | arrivalTimerExpiry x => exact next_steps h (expired _ _ _ fun h => (h.lateArrival x).detect _ _ _)
  | leadTimerExpiry x => exact next_steps h (expired _ _ _ fun h => h.leadJam x)
  | trailTimerExpiry x => exact next_steps h (expired _ _ _ fun h => h.trailJam x)
  | pickTimerExpiry => exact next_steps h (expired _ _ _ fun h => h.pickExpired)
  | finishTimerExpiry n => exact next_steps h (expired _ _ _ fun h => ((h.binTimeout n).detect _ _ _).reevaluate)
  | isyncPulseEnd => exact next_steps h (expired _ _ _ fun h => h.trans .of)
  | firstSettling => exact next_steps h (.ite (fun _ => s.firstSettled_steps) fun _ => .refl s)

end Sys2Proof.Machine
end

section
/-! PROOFS. The laws of the queues, of the roster and the jam list, of TRACK and EXIT, of the shape of the state, of the vote and of the merge (O6 to O13). -/

-- One theorem after the other: side by side they wait for each other's defaults and hold too many threads.
set_option deprecated.oldSectionVars true

namespace Sys2Proof.Machine

/-! ### One step: a command that keeps the laws, RESET, or a good profile read -/

/-- RESET, with the waiting commands kept. -/
abbrev State.resetTo (s : State) (low : Bool) (rest : List Instr) : State :=
  { State.resetWith s.inputs low with pending := rest }

/-- 03 R43: the state a good profile read is made in, and what it makes of it. -/
def State.ReadsProfile (s t : State) : Prop :=
  s.path = .profileRead ∧ ∃ rest p crc, t = ({ s with pending := rest } : State).enterListen p crc

theorem step_cases {s t : State} (h : step s = .next t) :
    s.Steps t ∨ (∃ low rest, t = s.resetTo low rest) ∨ s.ReadsProfile t := by
  unfold step at h
  split at h
  · refine .inl (next_steps h (.ite (fun _ => ((State.Keeps.refl s).elapse 1).steps) fun _ => ?_))
    exact (State.Keeps.of (t := { s with pending := s.pending ++ s.dueEvents })).steps
  · rename_i c rest _
    have waiting : s.Prepares { s with pending := rest } := .of
    by_cases reset : ∃ low, c = .reset low
    · obtain ⟨low, rfl⟩ := reset
      cases h
      exact .inr (.inl ⟨low, rest, rfl⟩)
    · by_cases read : ∃ r b k, c = .profileReadDone r b k
      · obtain ⟨r, b, k, rfl⟩ := read
        by_cases path : s.path = .profileRead
        · cases good : goodProfile r b k with
          | some p =>
            refine .inr (.inr ⟨path, rest, p, k, ?_⟩)
            simp only [exec, execProfileReadDone, State.path] at h path
            simpa [path, good] using h.symm
          | none =>
            refine .inl (waiting.follows (next_steps h ?_))
            simp only [State.path] at path ⊢
            simp only [path, good, beq_self_eq_true, if_true]
            exact State.Keeps.steps (((State.Keeps.refl _).enterClosed .silent rfl).trans
              (.of (path := .inl rfl) (tx := id) (exit := .inl rfl)))
        · refine .inl (waiting.follows (next_steps h ?_))
          simp only [State.path] at path ⊢
          simpa [path] using .refl _
      · refine .inl (waiting.follows (exec_steps ?_ ?_ h))
        · exact fun low same => reset ⟨low, same⟩
        · exact fun r b k same => read ⟨r, b, k, same⟩

theorem State.Steps.safe {s t : State} (h : s.Steps t) : s.Safe t := by
  obtain ⟨a, first, next⟩ := h.readies
  exact first.toSafe.trans next.toSafe

/-- 03 R43: a station without a profile has no capacity. -/
theorem State.Safe.profileLaw {s t : State} (h : s.Safe t) (law : s.profileLaw) : t.profileLaw := by
  intro path
  obtain ⟨profile, queue, count⟩ := law (h.path path)
  have none : t.profile = none := h.profile.trans profile
  have empty := (h.occupancy (by simp [queue])).1
  have emptied := h.purge (by simp [count])
  simp only [State.prof, none, Option.getD_none, Nat.le_zero, List.length_eq_zero_iff] at empty emptied
  exact ⟨none, empty, emptied⟩

theorem State.ReadsProfile.path {s t : State} (h : s.ReadsProfile t) : t.path = .listen := by
  obtain ⟨-, rest, p, crc, rfl⟩ := h
  simp [State.path, State.enterListen]

/-- 03 R43: TRACK and the bins stand as the profile read finds them. -/
theorem State.ReadsProfile.frame {s t : State} (h : s.ReadsProfile t) :
    t.track = s.track ∧ t.exit.bins = s.exit.bins ∧ t.inputs = s.inputs ∧ t.table.entries = s.table.entries ∧
      t.table.map = s.table.map ∧ t.link.queue = s.link.queue ∧ t.roster = s.roster ∧ t.recovery.jams = s.recovery.jams := by
  obtain ⟨-, rest, p, crc, rfl⟩ := h
  simp

theorem State.ReadsProfile.rx {s t : State} (h : s.ReadsProfile t) : t.link.rx = [] := by
  obtain ⟨-, rest, p, crc, rfl⟩ := h
  simp [State.enterListen]

/-- 10 R174: the purge count that a profile read takes is none, or the purge capacity. -/
theorem State.ReadsProfile.purgeCount {s t : State} (h : s.ReadsProfile t) (empty : s.exit.purgeCount = 0) :
    t.exit.purgeCount ≤ t.prof.purgeCapacity := by
  obtain ⟨-, rest, p, crc, rfl⟩ := h
  unfold State.enterListen
  refine ((State.Keeps.refl _).takePurgeCount).purge ?_
  simp [empty]

/-! ### The laws -/

/-- Settles O6: a queue of LINK gains a frame only where it has room. -/
theorem queueLawKept : Obligations.QueueLawKept := by
  unfold Obligations.QueueLawKept
  rintro s t ⟨tx, rx⟩ h
  rcases step_cases h with steps | ⟨low, rest, rfl⟩ | read
  · exact ⟨steps.safe.tx tx, steps.safe.rx rx⟩
  · simp [State.queueLaw, State.resetWith]
  · obtain ⟨-, -, -, -, -, queue, -⟩ := read.frame
    exact ⟨queue ▸ tx, by simp [read.rx]⟩

/-- Settles O7: a record joins at an INTENT, with a new serial and while there is room. -/
theorem rosterLawKept : Obligations.RosterLawKept := by
  unfold Obligations.RosterLawKept
  intro s t law h
  rcases step_cases h with steps | ⟨low, rest, rfl⟩ | read
  · exact steps.roster.1 law
  · simp [State.rosterLaw, State.resetWith]
  · obtain ⟨-, -, -, -, -, -, roster, -⟩ := read.frame
    simpa only [State.rosterLaw, roster] using law

/-- 01 R1: no two records share a serial. -/
theorem Roster.Lawful.unique {a : Roster} (law : a.Lawful) {r q : SheetRecord} (hr : r ∈ a.records) (hq : q ∈ a.records)
    (same : r.serial = q.serial) : r = q :=
  eq_of_nodup_map (·.serial) law.2.1 hr hq same

/-- Settles O8: the fates come with a survey close and go with the final PLAN, which ends phase RECOVERY. -/
theorem fateLawKept : Obligations.FateLawKept := by
  unfold Obligations.FateLawKept
  refine ⟨?_, ?_⟩
  · intro s t law h
    rcases step_cases h with steps | ⟨low, rest, rfl⟩ | read
    · exact steps.roster.2.1 law
    · simp [State.fateLaw, State.resetWith]
    · obtain ⟨-, -, -, -, -, -, roster, -⟩ := read.frame
      simpa only [State.fateLaw, roster] using law
  · intro s t law h recovery r hr fate q hq same
    have follows : s.roster.Follows t.roster := by
      rcases step_cases h with steps | ⟨low, rest, rfl⟩ | read
      · exact steps.roster.2.2 recovery
      · exact absurd recovery nofun
      · obtain ⟨-, -, -, -, -, -, roster, -⟩ := read.frame
        simp [roster]
    obtain ⟨p, hp, serial, keeps⟩ := follows.fates q hq
    exact keeps (Roster.Lawful.unique law hp hr (serial.trans same) ▸ fate)

/-- Settles O9: an entry joins the jam list where it has room and none of its epoch, kind and station. -/
theorem jamLawKept : Obligations.JamLawKept := by
  unfold Obligations.JamLawKept
  intro s t law h
  rcases step_cases h with steps | ⟨low, rest, rfl⟩ | read
  · exact steps.safe.jams law
  · simp [State.jamLaw, State.resetWith]
  · obtain ⟨-, -, -, -, -, -, -, jams⟩ := read.frame
    simpa only [State.jamLaw, jams] using law

/-- Settles O10: the queue grows at an attributed cover of sensor 1, the expected list at an ACCEPT, the purge count at a delivery. -/
theorem occupancyLawsKept : Obligations.OccupancyLawsKept := by
  unfold Obligations.OccupancyLawsKept
  refine ⟨?_, ?_, ?_⟩
  · rintro s t ⟨profile, occupancy⟩ h
    rcases step_cases h with steps | ⟨low, rest, rfl⟩ | read
    · exact ⟨steps.safe.profileLaw profile, steps.safe.occupancy occupancy⟩
    · simp [State.occupancyLaw, State.profileLaw, State.resetWith]
    · obtain ⟨-, queue, -⟩ := profile read.1
      simp [State.occupancyLaw, State.profileLaw, read.path, read.frame.1, queue]
  · intro s t law h
    rcases step_cases h with steps | ⟨low, rest, rfl⟩ | read
    · exact steps.safe.expected law
    · simp [State.expectedLaw, State.resetWith]
    · simpa [State.expectedLaw, read.frame.1] using law
  · rintro s t ⟨profile, count⟩ h
    rcases step_cases h with steps | ⟨low, rest, rfl⟩ | read
    · exact ⟨steps.safe.profileLaw profile, steps.safe.purge count⟩
    · simp [State.purgeLaw, State.profileLaw, State.resetWith]
    · exact ⟨by simp [State.profileLaw, read.path], read.purgeCount (profile read.1).2.2⟩

theorem Inputs.atReset_lengths (i : Inputs) :
    i.atReset.sensors.length = i.sensors.length ∧ i.atReset.fdone.length = i.fdone.length ∧
      i.atReset.sett.length = i.sett.length := by simp [Inputs.atReset]

/-- Settles O11: the lists of the segment are changed entry by entry, and RESET builds them at their size. -/
theorem shapeLawsKept : Obligations.ShapeLawsKept := by
  unfold Obligations.ShapeLawsKept
  refine ⟨?_, ?_⟩
  · intro s t law h
    rcases step_cases h with steps | ⟨low, rest, rfl⟩ | read
    · exact steps.safe.shape law
    · obtain ⟨sensors, fdone, sett⟩ := s.inputs.atReset_lengths
      obtain ⟨h1, h2, h3, -⟩ := law
      simp [State.shapeLaw, State.resetWith, *]
    · obtain ⟨track, bins, inputs, entries, map, -⟩ := read.frame
      simpa only [State.shapeLaw, track, bins, inputs, entries, map] using law
  · intro s t law h
    rcases step_cases h with steps | ⟨low, rest, rfl⟩ | read
    · exact steps.safe.sets law
    · simp [State.setLaw, State.resetWith]
    · simpa only [State.setLaw, read.frame.2.1] using law

/-- Settles O12: PLAN is entered by the vote test alone. -/
theorem planNeedsTheVote : Obligations.PlanNeedsTheVote := by
  unfold Obligations.PlanNeedsTheVote
  intro s t h before path
  rcases step_cases h with steps | ⟨low, rest, rfl⟩ | read
  · obtain ⟨a, first, next⟩ := steps.readies
    exact (next.plan path).resolve_left fun planned => before (first.plan planned)
  · exact absurd path nofun
  · exact absurd (read.path.symm.trans path) nofun

/-- Settles O13: a sheet joins the expected list at an offer that no test defers, and the roster stands from then on. -/
theorem mergeAdmitsLowestPass : Obligations.MergeAdmitsLowestPass := by
  unfold Obligations.MergeAdmitsLowestPass
  intro s t i h merge mem new due
  rcases step_cases h with steps | ⟨low, rest, rfl⟩ | read
  · obtain ⟨a, first, next⟩ := steps.readies
    rcases next.admitted i mem with ⟨j, hj, same⟩ | admits
    · obtain ⟨m, hm, older⟩ := first.older j hj
      exact absurd (older.trans same) (new m hm)
    · rw [← State.admits_congr next.profile next.roster] at admits
      refine admits ?_ due
      simpa [State.hasRole, State.prof, first.profile, next.profile] using merge
  · exact absurd mem nofun
  · exact absurd rfl (new i (read.frame.1 ▸ mem))

end Sys2Proof.Machine
end

section
/-! PROOFS. A step of the machine, RESET, a bad profile, and the receipts without effect (O1 to O5, O16, O35, O38). -/

namespace Sys2Proof.Machine

/-! ### A step -/

/-- Settles O1. -/
theorem stepRunsFront : Obligations.StepRunsFront := by
  unfold Obligations.StepRunsFront
  intro c s rest h
  simp [step, h]

/-- Settles O2. -/
theorem idleStep : Obligations.IdleStep := by
  unfold Obligations.IdleStep
  intro s h
  refine ⟨fun due => ?_, fun due => ?_⟩
  · simp [step, h, State.idle, due]
  · simp [step, h, State.idle, due]

/-! ### The queue of waiting commands -/

theorem State.settle_pending (s : State) (id : InputId) (level : Bool) (k : State → State)
    (kept : ∀ t : State, (k t).pending = t.pending) : (s.settle id level k).pending = s.pending := by
  unfold State.settle
  split
  · rfl
  · split
    · simp [kept]
    · rfl

theorem State.expire_pending (s : State) (t : Timer) (runs : Bool) (k : State → State)
    (kept : ∀ t : State, (k t).pending = t.pending) : (s.expire t runs k).pending = s.pending := by
  unfold State.expire
  split
  · split
    · simp [kept]
    · rfl
  · rfl

theorem State.receive_pending (s : State) (kind : Payload → Bool) (live : RxFrame → State → State)
    (kept : ∀ f t, (live f t).pending = t.pending) : (s.receive kind live).pending = s.pending := by
  unfold State.receive
  split
  · rfl
  · dsimp only
    split
    · rfl
    · split
      · split
        · rfl
        · simp [kept]
      · split
        · simp
        · rfl

/-- Settles O3: each command is a state after which the waiting commands are those before it. -/
theorem everyCommandCompletes : Obligations.EveryCommandCompletes := by
  unfold Obligations.EveryCommandCompletes
  intro c s
  cases c with
  | reset low => exact ⟨_, rfl, rfl⟩
  | profileReadDone r b k => exact ⟨_, rfl, by (repeat' split) <;> simp⟩
  | profileReadTimeout => exact ⟨_, rfl, by split <;> simp⟩
  | rawInputChange id level => exact ⟨_, rfl, rfl⟩
  | sensor1Cover => exact ⟨_, rfl, s.settle_pending _ _ _ fun t => by simp⟩
  | sensorKCover k =>
    refine ⟨_, rfl, ?_⟩
    split
    · exact s.settle_pending _ _ _ fun t => by simp
    · rfl
  | sensorUncover k => exact ⟨_, rfl, s.settle_pending _ _ _ fun t => by simp⟩
  | drdyRise => exact ⟨_, rfl, s.settle_pending _ _ _ fun t => by simp⟩
  | drdyFall => exact ⟨_, rfl, s.settle_pending _ _ _ fun t => by simp⟩
  | doorOpen => exact ⟨_, rfl, s.settle_pending _ _ _ fun t => by simp⟩
  | doorClose => exact ⟨_, rfl, s.settle_pending _ _ _ fun t => by simp⟩
  | temptyChange => exact ⟨_, rfl, s.settle_pending _ _ _ fun t => by simp⟩
  | fdoneRise n => exact ⟨_, rfl, s.settle_pending _ _ _ fun t => by simp⟩
  | setTrayFall n => exact ⟨_, rfl, s.settle_pending _ _ _ fun t => by simp⟩
  | pemptyRise => exact ⟨_, rfl, s.settle_pending _ _ _ fun t => by simp⟩
  | stopLineFall => exact ⟨_, rfl, by split <;> simp⟩
  | stopLineRise => exact ⟨_, rfl, by split <;> simp⟩
  | linkAttemptStart quiet => exact ⟨_, rfl, by (repeat' split) <;> simp⟩
  | collision => exact ⟨_, rfl, by split <;> simp⟩
  | frameCompletion c => exact ⟨_, rfl, by split <;> simp⟩
  | joinReceipt => exact ⟨_, rfl, by (repeat' split) <;> simp⟩
  | probeReceipt => exact ⟨_, rfl, by dsimp only; (repeat' split) <;> simp⟩
  | presenceReceipt => exact ⟨_, rfl, s.receive_pending _ _ fun f t => rfl⟩
  | refusedReceipt => exact ⟨_, rfl, s.receive_pending _ _ fun f t => rfl⟩
  | demandReceipt => exact ⟨_, rfl, s.receive_pending _ _ fun f t => rfl⟩
  | trayReceipt => exact ⟨_, rfl, s.receive_pending _ _ fun f t => rfl⟩
  | statusReceipt => exact ⟨_, rfl, s.receive_pending _ _ fun f t => rfl⟩
  | intentReceipt => exact ⟨_, rfl, s.receive_pending _ _ fun f t => by split <;> simp⟩
  | withdrawReceipt => exact ⟨_, rfl, s.receive_pending _ _ fun f t => by split <;> simp⟩
  | offerReceipt => exact ⟨_, rfl, s.receive_pending _ _ fun f t => by split <;> simp⟩
  | acceptReceipt => exact ⟨_, rfl, s.receive_pending _ _ fun f t => by split <;> simp⟩
  | deferReceipt => exact ⟨_, rfl, s.receive_pending _ _ fun f t => by split <;> simp⟩
  | arrivedReceipt => exact ⟨_, rfl, s.receive_pending _ _ fun f t => by split <;> simp⟩
  | passReceipt => exact ⟨_, rfl, s.receive_pending _ _ fun f t => by split <;> simp⟩
  | deliveredReceipt => exact ⟨_, rfl, s.receive_pending _ _ fun f t => by split <;> simp⟩
  | setDoneReceipt => exact ⟨_, rfl, s.receive_pending _ _ fun f t => by (repeat' split) <;> simp⟩
  | jamReceipt => exact ⟨_, rfl, s.receive_pending _ _ fun f t => by split <;> simp⟩
  | haltReceipt => exact ⟨_, rfl, s.receive_pending _ _ fun f t => by simp⟩
  | holdingReceipt => exact ⟨_, rfl, s.receive_pending _ _ fun f t => by split <;> simp⟩
  | setlistReceipt => exact ⟨_, rfl, s.receive_pending _ _ fun f t => by split <;> simp⟩
  | closeReceipt => exact ⟨_, rfl, s.receive_pending _ _ fun f t => by split <;> simp⟩
  | readyReceipt => exact ⟨_, rfl, s.receive_pending _ _ fun f t => by split <;> simp⟩
  | revisionReceipt => exact ⟨_, rfl, s.receive_pending _ _ fun f t => by split <;> simp⟩
  | planReceipt => exact ⟨_, rfl, s.receive_pending _ _ fun f t => by split <;> simp⟩
  | planEntryReceipt => exact ⟨_, rfl, s.receive_pending _ _ fun f t => by split <;> simp⟩
  | listenTimerExpiry => exact ⟨_, rfl, s.expire_pending _ _ _ fun t => by simp⟩
  | joinDelayExpiry => exact ⟨_, rfl, s.expire_pending _ _ _ fun t => by simp⟩
  | rollCallClose => exact ⟨_, rfl, s.expire_pending _ _ _ fun t => by simp⟩
  | presenceTimerExpiry => exact ⟨_, rfl, s.expire_pending _ _ _ fun t => by dsimp only; split <;> simp⟩
  | silenceTimerExpiry p => exact ⟨_, rfl, s.expire_pending _ _ _ fun t => by simp⟩
  | spinTimerExpiry => exact ⟨_, rfl, s.expire_pending _ _ _ fun t => by simp⟩
  | haltTimerExpiry => exact ⟨_, rfl, s.expire_pending _ _ _ fun t => by simp⟩
  | claimWindowExpiry => exact ⟨_, rfl, s.expire_pending _ _ _ fun t => by simp⟩
  | lineHeldTimerExpiry => exact ⟨_, rfl, s.expire_pending _ _ _ fun t => by dsimp only; split <;> simp⟩
  | surveyTimerExpiry => exact ⟨_, rfl, s.expire_pending _ _ _ fun t => by dsimp only; split <;> simp⟩
  | answerTimerExpiry dest => exact ⟨_, rfl, s.expire_pending _ _ _ fun t => by simp⟩
  | reOfferTimerExpiry dest => exact ⟨_, rfl, s.expire_pending _ _ _ fun t => by simp⟩
  | arrivalTimerExpiry x => exact ⟨_, rfl, s.expire_pending _ _ _ fun t => by simp⟩
  | leadTimerExpiry x => exact ⟨_, rfl, s.expire_pending _ _ _ fun t => by simp⟩
  | trailTimerExpiry x => exact ⟨_, rfl, s.expire_pending _ _ _ fun t => by simp⟩
  | pickTimerExpiry => exact ⟨_, rfl, s.expire_pending _ _ _ fun t => by simp⟩
  | finishTimerExpiry n => exact ⟨_, rfl, s.expire_pending _ _ _ fun t => by simp⟩
  | isyncPulseEnd => exact ⟨_, rfl, s.expire_pending _ _ _ fun t => rfl⟩
  | firstSettling =>
    refine ⟨_, rfl, ?_⟩
    dsimp only
    repeat' split
    all_goals simp

/-! ### RESET and a bad profile -/

/-- 04 R74: each input keeps its raw level, unsettled, and begins to settle for the first time. -/
theorem Inputs.atReset_line (i : Inputs) (id : InputId) (sensors : i.sensors.length = 4) (fdone : i.fdone.length = 3)
    (sett : i.sett.length = 3) (h : id ∈ allInputs) : i.atReset.line id = InputLine.atReset (i.line id).raw := by
  have taken {n k : Nat} (ls : List InputLine) (size : ls.length = n) (small : k < n) :
      (ls[k]?.map fun l => InputLine.atReset l.raw).getD {} = InputLine.atReset ((ls[k]?).getD {}).raw := by
    subst size
    simp [small]
  cases id with
  | drdy | door | tempty | pempty => rfl
  | sensor k =>
    obtain ⟨low, high⟩ : 1 ≤ k ∧ k ≤ 4 := by simp [allInputs] at h; omega
    simpa [Inputs.atReset, Inputs.line, Nat.ne_of_gt low] using taken i.sensors sensors (show k - 1 < 4 by omega)
  | fdone k =>
    obtain ⟨low, high⟩ : 1 ≤ k ∧ k ≤ 3 := by simp [allInputs] at h; omega
    simpa [Inputs.atReset, Inputs.line, Nat.ne_of_gt low] using taken i.fdone fdone (show k - 1 < 3 by omega)
  | sett k =>
    obtain ⟨low, high⟩ : 1 ≤ k ∧ k ≤ 3 := by simp [allInputs] at h; omega
    simpa [Inputs.atReset, Inputs.line, Nat.ne_of_gt low] using taken i.sett sett (show k - 1 < 3 by omega)

/-- Settles O4. -/
theorem resetValues : Obligations.ResetValues := by
  unfold Obligations.ResetValues
  rintro low s ⟨sensors, fdone, sett, -⟩
  refine ⟨_, rfl, rfl, rfl, rfl, fun id h => s.inputs.atReset_line id sensors fdone sett h, ?_⟩
  and_intros
  all_goals rfl

/-- Settles O5. -/
theorem lawsAtReset : Obligations.LawsAtReset := by
  unfold Obligations.LawsAtReset
  refine ⟨?_, ?_, ?_, ?_, ?_, ?_, ?_, ?_, ?_⟩
  · simp [State.queueLaw, State.reset, State.resetWith]
  · simp [State.rosterLaw, State.reset, State.resetWith]
  · simp [State.fateLaw, State.reset, State.resetWith]
  · simp [State.jamLaw, State.reset, State.resetWith]
  · simp [State.occupancyLaw, State.profileLaw, State.reset, State.resetWith]
  · simp [State.expectedLaw, State.reset, State.resetWith]
  · simp [State.purgeLaw, State.profileLaw, State.reset, State.resetWith]
  · simp [State.setLaw, State.reset, State.resetWith]
  · simp [State.shapeLaw, State.reset, State.resetWith, Inputs.atReset, Inputs.low]

theorem goodProfile_none {r : ProfileRecord} {bytes : List Byte} {check : Crc}
    (bad : crc16 bytes ≠ check ∨ checkProfile r = none) : goodProfile r bytes check = none := by
  unfold goodProfile
  split
  · exact bad.resolve_left fun h => h (by assumption)
  · rfl

/-- 03 R45, 04 R74: without a profile the diverter's home is that of no output active. -/
theorem State.enterSilent_silentFrom (s : State) (crc : Crc) (none : s.profile = none) :
    (s.enterSilent crc).profileCrc = crc ∧ (s.enterSilent crc).silentFrom s := by
  refine ⟨rfl, ?_⟩
  have home : s.prof.homeDiverter = (false, false) := by simp [State.prof, none]; rfl
  simp [State.silentFrom, State.enterSilent, State.enterClosed, State.emptyTx, home]

/-- Settles O16. -/
theorem badProfileEntersSilent : Obligations.BadProfileEntersSilent := by
  unfold Obligations.BadProfileEntersSilent
  intro s path none
  refine ⟨fun r bytes check bad => ⟨s.enterSilent check, ?_, s.enterSilent_silentFrom check none⟩,
    s.enterSilent 0, ?_, s.enterSilent_silentFrom 0 none⟩
  · simp [exec, execProfileReadDone, path, goodProfile_none bad]
  · simp [exec, execProfileReadTimeout, path]

/-! ### Receipts without effect -/

/-- Settles O35. -/
theorem reportsChangeNothing : Obligations.ReportsChangeNothing := by
  unfold Obligations.ReportsChangeNothing
  intro s f rest h
  have taken (kind : Payload → Bool) (is : kind f.payload = true) : s.receive kind (fun _ t => t) = s.taken rest :=
    s.receive_live f rest kind _ h is
  refine ⟨?_, ?_, ?_, ?_, ?_⟩
  · intro p e payload
    exact congrArg Host.Outcome.next (taken _ (by rw [payload]; rfl))
  · intro x r payload
    exact congrArg Host.Outcome.next (taken _ (by rw [payload]; rfl))
  · intro n payload
    exact congrArg Host.Outcome.next (taken _ (by rw [payload]; rfl))
  · intro a payload
    exact congrArg Host.Outcome.next (taken _ (by rw [payload]; rfl))
  · intro a payload
    exact congrArg Host.Outcome.next (taken _ (by rw [payload]; rfl))

/-- 03 R59: what a PROBE at the head of the receive queue does. -/
theorem execProbeReceipt_eq (s : State) (p q : Pos) (e : Epoch) (low : Bool) (rest : List RxFrame)
    (rx : s.link.rx = { sender := p, epoch := e, payload := .probe q, lineLow := low } :: rest)
    (reading : s.path ≠ .profileRead) (listen : s.path ≠ .listen) (rollcall : s.path ≠ .rollcall) :
    exec .probeReceipt s = .next (if answersProbe s.path && (p == 0 && q == s.own) then
      (s.taken rest).queueFrame (.status (s.taken rest).status) else s.taken rest) := by
  have notReading : ¬ (s.path == .profileRead) = true := by simpa using reading
  have notForming : ¬ (s.path == .listen || s.path == .rollcall) = true := by simpa using And.intro listen rollcall
  simp only [exec, execProbeReceipt, rx]
  rw [if_neg notReading]
  change Host.Outcome.next (if answersProbe s.path then
    (if p == 0 && q == s.own then (s.taken rest).queueFrame (.status (s.taken rest).status) else s.taken rest)
    else if s.path == .listen || s.path == .rollcall then _ else s.taken rest) = _
  rw [if_neg notForming]
  by_cases answers : answersProbe s.path = true
  · rw [if_pos answers, answers, Bool.true_and]
  · rw [if_neg answers, if_neg (by simp [answers])]

/-- Settles O38. -/
theorem probeAnsweredWithStatus : Obligations.ProbeAnsweredWithStatus := by
  unfold Obligations.ProbeAnsweredWithStatus
  intro s p q e low rest rx
  refine ⟨fun answers => ?_, fun silent => ?_⟩
  · have outside : s.path ≠ .profileRead ∧ s.path ≠ .listen ∧ s.path ≠ .rollcall := by
      refine ⟨?_, ?_, ?_⟩ <;> · intro h; simp [h, livePath] at answers
    obtain ⟨reading, listen, rollcall⟩ := outside
    have answered : answersProbe s.path = true := by
      simpa [answersProbe, or_assoc] using answers
    rw [execProbeReceipt_eq s p q e low rest rx reading listen rollcall]
    refine ⟨?_, ?_⟩
    · rintro rfl rfl room
      refine ⟨_, (s.taken rest).status, rfl, ?_⟩
      have roomy : (s.taken rest).txRoom = true := room
      rw [if_pos (by simp [answered]), State.queueFrame_room _ _ roomy]
      refine ⟨rfl, rfl, fun fit => ?_, fun u unfit reason => ?_, rfl, rfl, rfl, rfl, rfl, rfl⟩
      · simp [State.status, State.taken, State.path] at fit ⊢
        simp [fit]
      · simp [State.status, State.taken, State.path] at unfit ⊢
        simp [unfit, reason]
    · intro other
      rw [if_neg (by rcases other with h | h <;> simp [h])]
  · rw [execProbeReceipt_eq s p q e low rest rx (by simp [silent]) (by simp [silent]) (by simp [silent]), if_neg]
    simp [silent, answersProbe, livePath]

end Sys2Proof.Machine
end

section
/-! PROOFS. A good profile, the raw levels of the pins, and the first settling (O15, O17, O18). -/

namespace Sys2Proof.Machine

/-! ### The profile -/

theorem inRange_iff {lo hi n : Nat} : inRange lo hi n = true ↔ lo ≤ n ∧ n ≤ hi := by simp [inRange]

/-- 03 R44: the tests that a profile passes, and what is read of the record. -/
theorem checkProfile_tests {r : ProfileRecord} {p : Profile} (h : checkProfile r = some p) :
    ∃ (role : Role) (downstream : List (Pos × DivSetting)) (bins : List BinKind),
      (Pos.station r.position && inRange 1 6 r.capacity && inRange 1 4 r.zoneCount && r.zones.length == r.zoneCount
        && r.zones.all zoneOk && downstreamOk r.position downstream && (!(role == .exit) || downstream.isEmpty)
        && (!(role == .feed) || (r.media ≤ 15 && inRange 1 8 r.demandThreshold && inRange 50 1000 r.pickAllowance
          && r.pickRetries ≤ 2))
        && (!(role == .exit) || (inRange 1 3 bins.length && inRange 10 250 r.purgeCapacity && inRange 500 5000 r.finishAllowance))
        && (role != .imaging || inRange 1 r.zoneCount r.imageZone)) = true ∧
      p.position = r.position ∧ p.role = role ∧ p.capacity = r.capacity ∧ p.zones = r.zones ∧ p.downstream = downstream ∧
      p.bins = bins ∧ (role = .feed → p.media = r.media ∧ p.demandThreshold = r.demandThreshold) ∧
      (role = .exit → p.purgeCapacity = r.purgeCapacity) ∧ (role = .imaging → p.imageZone = r.imageZone) := by
  simp only [checkProfile, Option.bind_eq_bind, Option.bind_eq_some_iff] at h
  obtain ⟨role, -, stopClass, -, settings, -, h⟩ := h
  split at h
  · simp only [Option.bind_eq_some_iff] at h
    obtain ⟨bins, -, policy, -, h⟩ := h
    split at h
    · rename_i tests
      cases h
      exact ⟨role, _, bins, tests, rfl, rfl, rfl, rfl, rfl, rfl, by rintro rfl; exact ⟨rfl, rfl⟩, fun _ => rfl, by rintro rfl; rfl⟩
    · exact absurd h nofun
  · rename_i other
    simp only [Option.bind_some] at h
    split at h
    · rename_i tests
      cases h
      exact ⟨role, _, [], tests, rfl, rfl, rfl, rfl, rfl, rfl, by rintro rfl; exact ⟨rfl, rfl⟩,
        fun role => absurd (beq_iff_eq.mpr role) other, by rintro rfl; rfl⟩
    · exact absurd h nofun

/-- 03 R44: the ranges of the fields of a profile that the tests pass. -/
theorem checkProfile_ranges {r : ProfileRecord} {p : Profile} (h : checkProfile r = some p) :
    p.position = r.position ∧ 1 ≤ p.position ∧ p.position ≤ 16 ∧ 1 ≤ p.capacity ∧ p.capacity ≤ 6 ∧
      1 ≤ p.zones.length ∧ p.zones.length ≤ 4 ∧ p.zones = r.zones ∧ p.zones.all zoneOk = true ∧
      p.downstream.length ≤ 2 ∧ (p.role = .exit → p.downstream = [] ∧ 1 ≤ p.bins.length ∧ p.bins.length ≤ 3 ∧
        10 ≤ p.purgeCapacity ∧ p.purgeCapacity ≤ 250) ∧
      (p.role = .feed → p.media ≤ 15 ∧ 1 ≤ p.demandThreshold ∧ p.demandThreshold ≤ 8) ∧
      (p.role = .imaging → 1 ≤ p.imageZone ∧ p.imageZone ≤ p.zones.length) := by
  obtain ⟨role, ds, bins, tests, eq1, eq2, eq3, eq4, eq5, eq6, ofFeed, ofExit, ofImaging⟩ := checkProfile_tests h
  simp only [Bool.and_eq_true, Bool.or_eq_true, Bool.not_eq_true', beq_iff_eq, beq_eq_false_iff_ne, ne_eq, inRange_iff,
    decide_eq_true_eq, bne_iff_ne, List.isEmpty_iff, Pos.station, downstreamOk] at tests
  obtain ⟨⟨⟨⟨⟨⟨⟨⟨⟨position, capacity⟩, zoneCount⟩, zones⟩, zonesOk⟩, ⟨⟨downstream, -⟩, -⟩⟩, noDownstream⟩, feed⟩, exit⟩, imaging⟩ :=
    tests
  rw [eq1, eq2, eq3, eq4, eq5, eq6]
  refine ⟨rfl, position.1, position.2, capacity.1, capacity.2, zones ▸ zoneCount.1, zones ▸ zoneCount.2, rfl, zonesOk,
    downstream, fun role => ?_, fun role => ?_, fun role => ?_⟩
  · rw [ofExit role]
    have none := noDownstream.resolve_left (absurd role)
    obtain ⟨⟨⟨few, many⟩, space⟩, -⟩ := exit.resolve_left (absurd role)
    exact ⟨none, few, many, space⟩
  · rw [(ofFeed role).1, (ofFeed role).2]
    obtain ⟨⟨demands, -⟩, -⟩ := feed.resolve_left (absurd role)
    exact demands
  · rw [ofImaging role, zones]
    exact imaging.resolve_left (absurd role)

theorem State.takePurgeCount_eq (s : State) :
    s.takePurgeCount = { s with exit.purgeCount := s.takePurgeCount.exit.purgeCount } := by
  unfold State.takePurgeCount
  split
  · split <;> rfl
  · rfl

/-- 10 R174: the purge count waits for the first settling of PEMPTY. -/
theorem State.takePurgeCount_count (s : State) :
    s.takePurgeCount.exit.purgeCount = match s.exit.firstPempty with
      | some high => if s.hasRole .exit then (if high then 0 else s.prof.purgeCapacity) else s.exit.purgeCount
      | none => s.exit.purgeCount := by
  unfold State.takePurgeCount
  cases s.exit.firstPempty with
  | none => rfl
  | some high => by_cases exit : s.hasRole .exit = true <;> simp [exit]

/-- 10 R174: the purge count a profile read takes. -/
theorem State.enterListen_purgeCount (s : State) (p : Profile) (crc : Crc) :
    (s.enterListen p crc).exit.purgeCount = match s.exit.firstPempty with
      | some high => if p.role == .exit then (if high then 0 else p.purgeCapacity) else s.exit.purgeCount
      | none => s.exit.purgeCount := by
  unfold State.enterListen
  rw [State.takePurgeCount_count]
  rfl

theorem State.enterListen_eq (s : State) (p : Profile) (crc : Crc) :
    s.enterListen p crc = { s with
      profile := some p, profileCrc := crc, profileTimer := .stopped
      link.rx := []
      recovery.path := .listen
      table.listen := .running 1500
      feed.retries := if p.role = .feed then p.pickRetries else 0
      feed.tray := if p.role = .feed then s.feed.tray else .empty
      handoff.offers := p.downstream.map fun d => { dest := d.1, state := .idle, offered := [], free := none }
      drive.div1 := p.homeDiverter.1, drive.div2 := p.homeDiverter.2
      exit := (s.enterListen p crc).exit } := by
  unfold State.enterListen
  rw [State.takePurgeCount_eq]
  by_cases feed : p.role = .feed <;> simp [State.setDiverter, feed] <;> rfl

/-- Settles O15. -/
theorem goodProfileEntersListen : Obligations.GoodProfileEntersListen := by
  unfold Obligations.GoodProfileEntersListen
  intro r bytes check p s path crc good
  refine ⟨checkProfile_ranges good, s.enterListen p check, ?_, by simp, by simp, ?_, ?_, s.enterListen_eq p check⟩
  · simp [exec, execProfileReadDone, path, goodProfile, crc, good]
  · intro high pempty exit
    rw [State.enterListen_purgeCount, pempty]
    simp [exit]
  · intro none
    rw [State.enterListen_purgeCount]
    split
    · rename_i high pempty
      rw [if_neg]
      simpa [pempty] using none
    · rfl

/-! ### The lines of the inputs -/

/-- 04 R69: a line that the station has is set. -/
theorem Inputs.setLine_same (s : State) (id : InputId) (l : InputLine) (shape : s.shapeLaw) (wf : id.wf = true) :
    (s.inputs.setLine id l).line id = l := by
  obtain ⟨sensors, fdone, sett, -⟩ := shape
  cases id with
  | drdy | door | tempty | pempty => rfl
  | sensor k =>
    simp only [InputId.wf, Bool.and_eq_true, decide_eq_true_eq] at wf
    have hk : k ≠ 0 := by omega
    have inside : k - 1 < s.inputs.sensors.length := by omega
    simp [Inputs.setLine, Inputs.line, hk, inside]
  | fdone k =>
    simp only [InputId.wf, Bool.and_eq_true, decide_eq_true_eq] at wf
    have hk : k ≠ 0 := by omega
    have inside : k - 1 < s.inputs.fdone.length := by omega
    simp [Inputs.setLine, Inputs.line, hk, inside]
  | sett k =>
    simp only [InputId.wf, Bool.and_eq_true, decide_eq_true_eq] at wf
    have hk : k ≠ 0 := by omega
    have inside : k - 1 < s.inputs.sett.length := by omega
    simp [Inputs.setLine, Inputs.line, hk, inside]

/-- 04 R69: the other lines stay. -/
theorem Inputs.setLine_other (i : Inputs) {id other : InputId} (l : InputLine) (h : other ≠ id) :
    (i.setLine id l).line other = i.line other := by
  have apart {k n : Nat} (hk : k ≠ 0) (hn : n ≠ 0) (ne : n ≠ k) : ¬ k - 1 = n - 1 := by omega
  cases id with
  | drdy => cases other <;> first | rfl | exact absurd rfl h
  | door => cases other <;> first | rfl | exact absurd rfl h
  | tempty => cases other <;> first | rfl | exact absurd rfl h
  | pempty => cases other <;> first | rfl | exact absurd rfl h
  | sensor k =>
    cases other with
    | sensor n =>
      have ne : n ≠ k := fun e => h (congrArg _ e)
      by_cases hk : k = 0 <;> by_cases hn : n = 0 <;> simp [Inputs.setLine, Inputs.line, hk, hn, apart, ne]
    | _ => rfl
  | fdone k =>
    cases other with
    | fdone n =>
      have ne : n ≠ k := fun e => h (congrArg _ e)
      by_cases hk : k = 0 <;> by_cases hn : n = 0 <;> simp [Inputs.setLine, Inputs.line, hk, hn, apart, ne]
    | _ => rfl
  | sett k =>
    cases other with
    | sett n =>
      have ne : n ≠ k := fun e => h (congrArg _ e)
      by_cases hk : k = 0 <;> by_cases hn : n = 0 <;> simp [Inputs.setLine, Inputs.line, hk, hn, apart, ne]
    | _ => rfl

/-- Settles O17. -/
theorem rawChangeStartsSettling : Obligations.RawChangeStartsSettling := by
  unfold Obligations.RawChangeStartsSettling
  intro id level s shape wf
  refine ⟨_, rfl, rfl, fun other h => Inputs.setLine_other _ _ h, ?_⟩
  simp only [Inputs.setLine_same s id _ shape wf, InputLine.change, Bool.not_eq_true']
  rfl

/-! ### The first settling -/

theorem Inputs.pass_line (n : Nat) (i : Inputs) (id : InputId) :
    ∃ row, (i.pass n).line id = (i.line id).pass n row := by
  have none (row : Bool → Bool) : InputLine.pass n row {} = {} := rfl
  have mapped (row : Bool → Bool) (ls : List InputLine) (k : Nat) :
      ((ls.map (InputLine.pass n row))[k]?).getD {} = ((ls[k]?).getD {}).pass n row := by
    rw [List.getElem?_map]
    cases ls[k]? <;> simp [none]
  cases id with
  | drdy | door | tempty | pempty => exact ⟨_, rfl⟩
  | sensor k =>
    refine ⟨edgeHasRow (.sensor 1), ?_⟩
    by_cases hk : k = 0 <;> simp [Inputs.line, Inputs.pass, hk, mapped, none, -List.getElem?_map]
  | fdone k =>
    refine ⟨edgeHasRow (.fdone 1), ?_⟩
    by_cases hk : k = 0 <;> simp [Inputs.line, Inputs.pass, hk, mapped, none, -List.getElem?_map]
  | sett k =>
    refine ⟨edgeHasRow (.sett 1), ?_⟩
    by_cases hk : k = 0 <;> simp [Inputs.line, Inputs.pass, hk, mapped, none, -List.getElem?_map]

theorem Inputs.takeFirst_line (i : Inputs) (id : InputId) : i.takeFirst.line id = (i.line id).takeFirst := by
  have none : InputLine.takeFirst {} = {} := rfl
  have mapped (ls : List InputLine) (k : Nat) :
      ((ls.map InputLine.takeFirst)[k]?).getD {} = ((ls[k]?).getD {}).takeFirst := by
    rw [List.getElem?_map]
    cases ls[k]? <;> simp [none]
  cases id with
  | drdy | door | tempty | pempty => rfl
  | sensor k => by_cases hk : k = 0 <;> simp [Inputs.line, Inputs.takeFirst, hk, mapped, none, -List.getElem?_map]
  | fdone k => by_cases hk : k = 0 <;> simp [Inputs.line, Inputs.takeFirst, hk, mapped, none, -List.getElem?_map]
  | sett k => by_cases hk : k = 0 <;> simp [Inputs.line, Inputs.takeFirst, hk, mapped, none, -List.getElem?_map]

/-- 04 R74: a line in its first settling, after `n` ms, at most as many as it has still to hold. -/
theorem InputLine.first_settled (l : InputLine) (n r : Nat) (row : Bool → Bool) (first : l.first = true)
    (settling : l.settling = .running r) (time : n ≤ r) :
    (l.pass n row).takeFirst = if r = n
      then { raw := l.raw, settled := l.raw, settling := .stopped, first := false }
      else { l with settling := .running (r - n) } := by
  by_cases same : r = n
  · simp [InputLine.pass, settling, first, InputLine.takeFirst, Timer.due, same]
  · have : r - n ≠ 0 := by omega
    simp [InputLine.pass, settling, first, InputLine.takeFirst, Timer.due, same, this]

/-- The least of `init` and the values of `xs` is one of them, and none is below it. -/
theorem foldl_min {α : Type} (f : α → Nat) (xs : List α) (init : Nat) :
    xs.foldl (fun m x => min m (f x)) init ≤ init ∧ (∀ x ∈ xs, xs.foldl (fun m x => min m (f x)) init ≤ f x) ∧
      (xs.foldl (fun m x => min m (f x)) init = init ∨ ∃ x ∈ xs, xs.foldl (fun m x => min m (f x)) init = f x) := by
  induction xs generalizing init with
  | nil => simp
  | cons a xs ih =>
    obtain ⟨low, below, attained⟩ := ih (min init (f a))
    refine ⟨Nat.le_trans low (Nat.min_le_left _ _), ?_, ?_⟩
    · intro x hx
      rcases List.mem_cons.mp hx with rfl | hx
      · exact Nat.le_trans low (Nat.min_le_right _ _)
      · exact below x hx
    · rcases attained with same | ⟨x, hx, same⟩
      · rcases Nat.le_total init (f a) with le | le
        · exact .inl (same.trans (Nat.min_eq_left le))
        · exact .inr ⟨a, List.mem_cons_self, same.trans (Nat.min_eq_right le)⟩
      · exact .inr ⟨x, List.mem_cons_of_mem a hx, same⟩

theorem State.firstTime_le (s : State) (id : InputId) (r : Nat) (mem : id ∈ allInputs) (first : (s.inputs.line id).first = true)
    (settling : (s.inputs.line id).settling = .running r) : s.firstTime ≤ r := by
  obtain ⟨-, below, -⟩ := foldl_min (fun id => (((s.inputs.line id).settling.remaining).getD 0))
    (allInputs.filter fun id => (s.inputs.line id).first) Config.settleMs
  have least : s.firstTime ≤ ((s.inputs.line id).settling.remaining).getD 0 := below id (List.mem_filter.mpr ⟨mem, first⟩)
  rwa [settling] at least

/-- 04 R74: some input has held its level for the first settling time. -/
theorem State.firstTime_attained (s : State) (some : ∃ id ∈ allInputs, (s.inputs.line id).first = true)
    (bound : ∀ id ∈ allInputs, (s.inputs.line id).first = true → ∃ r, r ≤ 3 ∧ (s.inputs.line id).settling = .running r) :
    ∃ id ∈ allInputs, (s.inputs.line id).first = true ∧ (s.inputs.line id).settling = .running s.firstTime := by
  obtain ⟨-, -, attained⟩ := foldl_min (fun id => (((s.inputs.line id).settling.remaining).getD 0))
    (allInputs.filter fun id => (s.inputs.line id).first) Config.settleMs
  rcases attained with init | ⟨id, hid, same⟩
  · obtain ⟨id, mem, first⟩ := some
    obtain ⟨r, high, settling⟩ := bound id mem first
    have low := s.firstTime_le id r mem first settling
    have init : s.firstTime = 3 := init
    exact ⟨id, mem, first, by rw [settling, show r = s.firstTime by omega]⟩
  · obtain ⟨mem, first⟩ := List.mem_filter.mp hid
    obtain ⟨r, -, settling⟩ := bound id mem first
    refine ⟨id, mem, first, ?_⟩
    have same : s.firstTime = r := by simpa [State.firstTime, settling, Timer.remaining] using same
    rw [settling, same]

/-- FIRST_SETTLING up to the tray state. -/
def State.firstTray (s : State) : State :=
  let t := s.elapse s.firstTime
  let u := { t with inputs := t.inputs.takeFirst }
  if t.inputs.tempty.first && !u.inputs.tempty.first then u.takeTray else u

/-- What FIRST_SETTLING makes of the state. -/
def State.firstSettled (s : State) : State :=
  let t := s.elapse s.firstTime
  if t.inputs.pempty.first && !t.inputs.takeFirst.pempty.first then s.firstTray.takePempty else s.firstTray

theorem State.firstTray_frame (s : State) :
    s.firstTray.path = s.path ∧ s.firstTray.profile = s.profile ∧ s.firstTray.exit = (s.elapse s.firstTime).exit ∧
      s.firstTray.inputs = (s.elapse s.firstTime).inputs.takeFirst := by
  unfold State.firstTray
  dsimp only
  split
  all_goals simp [State.path]

theorem exec_firstSettling (s : State) (h : ∃ id ∈ allInputs, (s.inputs.line id).first = true) :
    exec .firstSettling s = .next s.firstSettled := by
  have some : (allInputs.any fun id => (s.inputs.line id).first) = true := by simpa using h
  simp only [exec, execFirstSettling, some, if_true]
  rfl

theorem State.firstSettled_inputs (s : State) : s.firstSettled.inputs = ((s.elapse s.firstTime).inputs).takeFirst := by
  obtain ⟨-, -, -, inputs⟩ := s.firstTray_frame
  unfold State.firstSettled
  dsimp only
  split
  · simp [inputs]
  · exact inputs

theorem State.firstSettled_line (s : State) (id : InputId) :
    ∃ row, s.firstSettled.inputs.line id = ((s.inputs.line id).pass s.firstTime row).takeFirst := by
  obtain ⟨row, passed⟩ := Inputs.pass_line s.firstTime s.inputs id
  refine ⟨row, ?_⟩
  rw [State.firstSettled_inputs, Inputs.takeFirst_line, ← passed]
  rfl

theorem State.takeTray_eq (s : State) : s.takeTray = { s with feed.tray := s.takeTray.feed.tray } := by
  unfold State.takeTray
  split <;> rfl

theorem State.takePempty_eq (s : State) : s.takePempty =
    { s with exit.purgeCount := s.takePempty.exit.purgeCount, exit.firstPempty := s.takePempty.exit.firstPempty } := by
  unfold State.takePempty
  split
  · rfl
  · dsimp only
    rw [State.takePurgeCount_eq]

/-- 04 R74: the first settling changes the inputs, and at TEMPTY and PEMPTY the tray state and the purge count. -/
theorem State.firstSettled_eq (s : State) : s.firstSettled = { s.elapse s.firstTime with
    inputs := s.firstSettled.inputs, feed.tray := s.firstSettled.feed.tray
    exit := { (s.elapse s.firstTime).exit with
      purgeCount := s.firstSettled.exit.purgeCount, firstPempty := s.firstSettled.exit.firstPempty } } := by
  unfold State.firstSettled State.firstTray
  dsimp only
  split <;> split
  · rw [State.takePempty_eq, State.takeTray_eq]
  · rw [State.takePempty_eq]
  · rw [State.takeTray_eq]
  · rfl

/-- 04 R74: time does not end a first settling by itself. -/
theorem InputLine.pass_first (n : Nat) (row : Bool → Bool) (l : InputLine) : (l.pass n row).first = l.first := by
  unfold InputLine.pass
  repeat' split
  all_goals rfl

/-- 07 R112: the tray state follows TEMPTY at its first settling. -/
theorem State.firstSettled_tray (s : State) :
    s.firstSettled.feed.tray =
      if (s.inputs.tempty.first && !s.firstSettled.inputs.tempty.first) = true ∧ (s.followsTray && !closedPath s.path) = true
      then trayOf (s.firstSettled.reads .tempty) else s.feed.tray := by
  have first : (s.elapse s.firstTime).inputs.tempty.first = s.inputs.tempty.first := InputLine.pass_first _ _ _
  have reads : s.firstSettled.reads .tempty = ((s.elapse s.firstTime).inputs.takeFirst).tempty.settled := by
    simp [State.reads, State.firstSettled_inputs, Inputs.line]
  have follows (i : Inputs) : ({ s.elapse s.firstTime with inputs := i } : State).followsTray = s.followsTray := by
    simp [State.followsTray, State.hasRole, State.prof]
  have path (i : Inputs) : ({ s.elapse s.firstTime with inputs := i } : State).path = s.path := by simp [State.path]
  rw [reads, State.firstSettled_inputs, ← first]
  have tray : s.firstSettled.feed.tray = s.firstTray.feed.tray := by
    unfold State.firstSettled
    dsimp only
    split <;> simp
  rw [tray, State.firstTray]
  dsimp only
  by_cases took : ((s.elapse s.firstTime).inputs.tempty.first && !(s.elapse s.firstTime).inputs.takeFirst.tempty.first) = true
  · simp only [took, if_true, true_and, State.takeTray, follows, path]
    split
    · rfl
    · simp
  · simp [took]

/-- 10 R174: the purge count follows PEMPTY at its first settling. -/
theorem State.firstSettled_exit (s : State) :
    s.firstSettled.exit.firstPempty =
      (if (s.inputs.pempty.first && !s.firstSettled.inputs.pempty.first) = true ∧ closedPath s.path = false
        then some (s.firstSettled.reads .pempty) else s.exit.firstPempty) ∧
    s.firstSettled.exit.purgeCount =
      (if (s.inputs.pempty.first && !s.firstSettled.inputs.pempty.first) = true ∧ closedPath s.path = false ∧ s.hasRole .exit = true
        then (if s.firstSettled.reads .pempty then 0 else s.prof.purgeCapacity) else s.exit.purgeCount) := by
  have first : (s.elapse s.firstTime).inputs.pempty.first = s.inputs.pempty.first := InputLine.pass_first _ _ _
  have reads : s.firstSettled.reads .pempty = ((s.elapse s.firstTime).inputs.takeFirst).pempty.settled := by
    simp [State.reads, State.firstSettled_inputs, Inputs.line]
  obtain ⟨path, profile, exit, inputs⟩ := s.firstTray_frame
  rw [reads, State.firstSettled_inputs, ← first]
  unfold State.firstSettled
  dsimp only
  by_cases settled : ((s.elapse s.firstTime).inputs.pempty.first && !(s.elapse s.firstTime).inputs.takeFirst.pempty.first) = true
  · by_cases closed : closedPath s.path = true
    · simp [settled, State.takePempty, path, closed, exit]
    · simp [settled, State.takePempty, path, closed, State.takePurgeCount_count, State.hasRole, State.prof, profile, exit,
        State.reads, Inputs.line, inputs]
  · rw [if_neg settled, if_neg fun h => settled h.1, if_neg fun h => settled h.1, exit]
    simp

/-- Settles O18. -/
theorem firstSettlingTakesLevels : Obligations.FirstSettlingTakesLevels := by
  unfold Obligations.FirstSettlingTakesLevels
  intro s shape some
  obtain ⟨pempty, count⟩ := s.firstSettled_exit
  have tray := s.firstSettled_tray
  have line (id : InputId) (mem : id ∈ allInputs) (r : Nat) (first : (s.inputs.line id).first = true)
      (settling : (s.inputs.line id).settling = .running r) :
      s.firstSettled.inputs.line id = if r = s.firstTime
        then { raw := (s.inputs.line id).raw, settled := (s.inputs.line id).raw, settling := .stopped, first := false }
        else { s.inputs.line id with settling := .running (r - s.firstTime) } := by
    obtain ⟨row, settled⟩ := s.firstSettled_line id
    exact settled.trans (InputLine.first_settled _ _ r row first settling (s.firstTime_le id r mem first settling))
  refine ⟨s.firstSettled, exec_firstSettling s some, ?_, ?_, ?_, ?_, ?_, ?_, ?_, ?_, ?_, s.firstSettled_eq⟩
  · intro id mem r first settling
    exact ⟨s.firstTime_le id r mem first settling, line id mem r first settling⟩
  · intro bound
    obtain ⟨id, mem, first, settling⟩ := s.firstTime_attained some bound
    exact ⟨id, mem, first, by rw [line id mem _ first settling]; simp⟩
  · intro feed open_ first settled
    rw [tray, if_pos ⟨by simp [first, settled], by simp [State.followsTray, feed, open_]⟩]
    rfl
  · intro kept
    rw [tray, if_neg]
    rintro ⟨taken, follows⟩
    rcases kept with same | closed
    · simp [← same] at taken
    · simp [closed] at follows
  · intro open_ first settled
    refine ⟨by rw [pempty, if_pos ⟨by simp [first, settled], open_⟩], fun exit => ?_⟩
    rw [count, if_pos ⟨by simp [first, settled], open_, exit⟩]
  · intro kept
    have none : ¬ ((s.inputs.pempty.first && !s.firstSettled.inputs.pempty.first) = true ∧ closedPath s.path = false) := by
      rintro ⟨taken, open_⟩
      rcases kept with same | closed
      · simp [← same] at taken
      · exact absurd (closed.symm.trans open_) nofun
    exact ⟨by rw [pempty, if_neg none], by rw [count, if_neg fun h => none ⟨h.1, h.2.1⟩]⟩
  · rw [State.firstSettled_eq]; simp
  · rw [State.firstSettled_eq]; simp
  · rw [State.firstSettled_eq]; simp

end Sys2Proof.Machine
end

section
/-! PROOFS. Operations that only add to LINK and to the expected arrivals: the frames and the claim that wait stay. -/

namespace Sys2Proof.Machine

/-! ### What only grows -/

/-- The frames that wait stay where they are, and so does a claim in the reserved slot (02 R33, R34). -/
structure State.Adds (s t : State) : Prop where
  queue : s.link.queue <+: t.link.queue
  slot : ∀ f, s.link.slot = some f → t.link.slot = some f

theorem State.Adds.of {s t : State} (link : t.link = s.link) : s.Adds t :=
  ⟨link ▸ List.prefix_rfl, fun _ h => link ▸ h⟩

theorem State.Adds.refl (s : State) : s.Adds s := .of rfl

theorem State.Adds.trans {s t u : State} (h : s.Adds t) (k : t.Adds u) : s.Adds u :=
  ⟨h.queue.trans k.queue, fun f hf => k.slot f (h.slot f hf)⟩

/-- A change outside LINK before, after or around a part. -/
theorem State.Adds.from {s s' t : State} (h : s.Adds t) (link : s'.link = s.link) : s'.Adds t := (State.Adds.of link.symm).trans h
theorem State.Adds.to {s t t' : State} (h : s.Adds t) (link : t'.link = t.link) : s.Adds t' := h.trans (.of link)

theorem State.Adds.queued {s t : State} (h : s.Adds t) {e : Epoch} {p : Payload} (q : s.queued e p) : t.queued e p := by
  obtain ⟨f, hf, same⟩ := q
  exact ⟨f, h.queue.subset hf, same⟩

theorem State.Adds.jamQueued {s t : State} (h : s.Adds t) {k : JamKind} {zone : Nat} {x : Option Serial}
    (q : s.jamQueued k zone x) : t.jamQueued k zone x := by
  obtain ⟨f, same, slot | waits⟩ := q
  · exact ⟨f, same, .inl (h.slot f slot)⟩
  · exact ⟨f, same, .inr (h.queue.subset waits)⟩

theorem State.Adds.length_le {s t : State} (h : s.Adds t) : s.link.queue.length ≤ t.link.queue.length := h.queue.length_le

/-- A JAM that finds a place stays in it. -/
theorem State.Adds.detected {s t : State} {k : JamKind} {zone : Nat} {x : Option Serial} (h : (s.detect k zone x).Adds t)
    (room : s.canClaim) : t.jamQueued k zone x :=
  h.jamQueued (s.detect_jamQueued k zone x room)

theorem State.queueFrame_queued (s : State) (p : Payload) (room : s.txRoom = true) :
    (s.queueFrame p).queued s.recovery.epoch p := by
  rw [s.queueFrame_room p room]
  exact ⟨_, List.mem_append_right _ (List.mem_singleton_self _), rfl, rfl⟩

/-- A frame that finds a place stays in it. -/
theorem State.Adds.sent {s t : State} {p : Payload} (h : (s.queueFrame p).Adds t) (room : s.txRoom = true) :
    t.queued s.recovery.epoch p :=
  h.queued (s.queueFrame_queued p room)

/-! ### LINK -/

theorem State.Adds.pushTx (s : State) (f : TxFrame) : s.Adds (s.pushTx f) :=
  ⟨List.prefix_append _ _, fun _ => id⟩

theorem State.Adds.detect (s : State) (k : JamKind) (zone : Nat) (x : Option Serial) : s.Adds (s.detect k zone x) := by
  unfold State.detect State.queueJam
  dsimp only
  split
  · rename_i free
    exact ⟨List.prefix_rfl, fun f hf => by simp [hf] at free⟩
  · split
    · exact State.Adds.pushTx s _
    · exact ⟨List.prefix_rfl, fun _ => id⟩

theorem State.Adds.lose (s : State) : s.Adds s.lose := by
  unfold State.lose
  dsimp only
  have marked : s.Adds { s with link.lostSinceHolding := true, link.outOfStep := true } := ⟨List.prefix_rfl, fun _ => id⟩
  split
  · split
    · exact marked
    · exact marked.trans (State.Adds.detect _ _ _ _)
  · split
    · exact marked
    · exact .refl s

theorem State.Adds.queueTagged (s : State) (tag : TxTag) (p : Payload) : s.Adds (s.queueTagged tag p) := by
  unfold State.queueTagged
  split
  · exact State.Adds.pushTx s _
  · exact State.Adds.lose s

theorem State.Adds.queueFrame (s : State) (p : Payload) : s.Adds (s.queueFrame p) := State.Adds.queueTagged s _ p

theorem State.Adds.detectDrive (s : State) : s.Adds s.detectDrive := (State.Adds.detect s _ _ _).to rfl

/-- The transmit queue with one frame more at most. -/
theorem State.queueFrame_length (s : State) (p : Payload) : (s.queueFrame p).link.queue.length ≤ s.link.queue.length + 1 := by
  unfold State.queueFrame State.queueTagged State.lose State.queueJam
  dsimp only
  (repeat' split) <;> simp [State.pushTx]

theorem State.queueFrame_slot (s : State) (p : Payload) (room : s.txRoom = true) :
    (s.queueFrame p).link.slot = s.link.slot := by
  rw [s.queueFrame_room p room]; rfl

theorem State.txRoom_iff (s : State) : s.txRoom = true ↔ s.link.queue.length < 8 := decide_eq_true_iff

/-- Room for one frame more is left, when two places are free. -/
theorem State.txRoom_queueFrame (s : State) (p : Payload) (room : s.link.queue.length < 7) :
    (s.queueFrame p).txRoom = true := by
  have := s.queueFrame_length p
  rw [State.txRoom_iff]
  omega

/-- A fold of additions. -/
theorem State.Adds.foldl {α : Type} (f : State → α → State) (step : ∀ (s : State) a, s.Adds (f s a)) :
    ∀ (xs : List α) (s : State), s.Adds (xs.foldl f s)
  | [], s => .refl s
  | a :: as, s => (step s a).trans (State.Adds.foldl f step as _)

/-! ### EXIT -/

theorem State.Adds.openNewSet (s : State) (n : Nat) (r : SheetRecord) : s.Adds (s.openNewSet n r) := .of (by simp)

theorem State.Adds.listSheet (s : State) (n : Nat) (r : SheetRecord) : s.Adds (s.listSheet n r) := by
  unfold State.listSheet
  dsimp only
  split
  · exact .of (by (repeat' split) <;> simp)
  · split
    · exact .of (by simp)
    · split
      · split
        · exact (State.Adds.queueFrame s _).to rfl
        · split
          · exact .of (by simp)
          · exact .of (by simp)
      · exact (State.Adds.queueFrame s _).trans (.openNewSet _ _ _)
  all_goals exact .refl s

theorem State.divertForSheet_link (s : State) : s.divertForSheet.link = s.link := by simp

theorem State.Adds.deliver (s : State) (x : Serial) : s.Adds (s.deliver x) := by
  unfold State.deliver
  dsimp only
  refine State.Adds.to ?_ (State.divertForSheet_link _)
  have sent := State.Adds.queueFrame s (.delivered x s.diverterBin)
  split
  · exact sent.to (by simp)
  · split
    · split
      · split
        · exact sent
        · exact sent.trans (.listSheet _ _ _)
      · exact sent
    · exact sent

theorem State.Adds.closeSet (s : State) (n : Nat) (outcome : SetOutcome) : s.Adds (s.closeSet n outcome) := by
  unfold State.closeSet
  split
  · exact .refl s
  · exact (State.Adds.queueFrame s _).to rfl

theorem State.Adds.ejected (s : State) (n : Nat) : s.Adds (s.ejected n) :=
  (State.Adds.closeSet _ n .forfeited).from (by simp)

theorem State.Adds.ejectTest (s : State) : s.Adds s.ejectTest := by
  unfold State.ejectTest
  dsimp only
  split
  · exact .refl s
  · split
    · exact .of (by simp)
    · exact (State.Adds.ejected _ _).from (by simp)

theorem State.Adds.trayTaken (s : State) (n : Nat) : s.Adds (s.trayTaken n) := by
  unfold State.trayTaken
  dsimp only
  split
  · exact .of (by simp)
  · exact .of (by simp)
  · split
    · exact .of (by simp)
    · exact (State.Adds.closeSet _ _ _).from (by simp)
  · split
    · exact .of (by simp)
    · exact (State.Adds.closeSet _ _ _).from (by simp)
  · exact .of (by simp)

/-! ### HANDOFF -/

theorem State.Adds.makeOffer (s : State) (o : OfferRecord) (xs : List Serial) : s.Adds (s.makeOffer o xs) := by
  unfold State.makeOffer
  dsimp only
  have sent := State.Adds.queueFrame s (.offer o.dest xs (s.zone s.lastSensor).lead (s.zone s.lastSensor).trail)
  split
  · exact sent
  · split
    · exact sent.to (by simp)
    · exact sent.to (by simp)

theorem State.Adds.offerTest (s : State) : s.Adds s.offerTest := by
  unfold State.offerTest
  dsimp only
  split
  · exact .refl s
  · split
    · exact .refl s
    · split
      · exact .refl s
      · split
        · exact .refl s
        · split
          · exact State.Adds.detect s _ _ _
          · split
            · exact State.Adds.detect s _ _ _
            · split
              · exact .refl s
              · split
                · exact State.Adds.makeOffer s _ _
                · exact .refl s

theorem State.Adds.acceptOffer (s : State) (d : DeferredOffer) : s.Adds (s.acceptOffer d) := by
  unfold State.acceptOffer
  dsimp only
  have sent := State.Adds.queueFrame s (.accept d.upstream d.serials (s.freeCount - d.serials.length))
  split
  · exact sent
  · split
    · exact sent.to (by simp)
    · exact sent.to rfl

theorem State.Adds.retest (s : State) (d : DeferredOffer) : s.Adds (s.retest d).1 := by
  unfold State.retest
  split
  · exact .refl s
  · split
    · exact .refl s
    · exact State.Adds.acceptOffer s d

theorem State.Adds.retestAll : ∀ (ds : List DeferredOffer) (s : State), s.Adds (s.retestAll ds).1
  | [], s => .refl s
  | d :: ds, s => (State.Adds.retest s d).trans (State.Adds.retestAll ds _)

theorem State.Adds.reevaluate (s : State) : s.Adds s.reevaluate := by
  unfold State.reevaluate
  dsimp only
  split
  · exact (State.Adds.retestAll _ s).to rfl
  · exact .refl s

theorem State.Adds.ejectStart (s : State) : s.Adds s.ejectStart := by
  unfold State.ejectStart
  split
  · exact (State.Adds.ejectTest s).trans (.reevaluate _)
  · exact .refl s

/-! ### FEED and IMAGING -/

theorem State.Adds.pickTest (s : State) : s.Adds s.pickTest := .of (by simp)

theorem State.Adds.demandAtEntry (s : State) : s.Adds s.demandAtEntry := by
  unfold State.demandAtEntry
  dsimp only
  split
  · exact (State.Adds.queueFrame s _).to rfl
  · exact .refl s

theorem State.Adds.demandCrossing (s : State) : s.Adds s.demandCrossing := by
  unfold State.demandCrossing
  dsimp only
  split
  · split
    · exact .of rfl
    · split
      · exact (State.Adds.queueFrame s _).to rfl
      · exact .refl s
  · exact .refl s

theorem State.Adds.reportPicked (s : State) : s.Adds s.reportPicked := State.Adds.foldl _ (fun _ _ => .queueFrame _ _) _ s

theorem State.Adds.markPass (s : State) (x : Serial) : s.Adds (s.markPass x) := by
  unfold State.markPass
  dsimp only
  split
  · exact .refl s
  · split
    · exact .refl s
    · split
      · exact .refl s
      · split
        · exact State.Adds.queueFrame s _
        · exact (State.Adds.queueFrame s _).to rfl

theorem State.Adds.imageCover (s : State) (k : Nat) (x : Serial) : s.Adds (s.imageCover k x) := by
  unfold State.imageCover
  split
  · exact State.Adds.markPass s x
  · exact .refl s

/-! ### TRACK -/

theorem State.Adds.strayCover (s : State) (k : Nat) : s.Adds (s.strayCover k) := by
  unfold State.strayCover
  dsimp only
  split
  · exact (State.Adds.detect _ _ _ _).from (by simp)
  · exact .of (by simp)

theorem State.Adds.strayTest (s : State) : s.Adds s.strayTest :=
  State.Adds.foldl _ (fun t k => (State.Adds.detect (t.setStray k) _ _ _).from (by simp)) _ s

/-! ### The survey -/

theorem State.Adds.sendReport : ∀ (ps : List Payload) (s : State), s.Adds (s.sendReport ps)
  | [], s => .of rfl
  | p :: ps, s => by
    unfold State.sendReport
    dsimp only
    split
    · exact (State.Adds.queueTagged s _ _).to rfl
    · exact (State.Adds.lose s).trans (State.Adds.sendReport ps _)

theorem State.Adds.openSurvey (s : State) : s.Adds s.openSurvey :=
  (State.Adds.sendReport _ _).from rfl

theorem State.Adds.surveyTest (s : State) : s.Adds s.surveyTest := by
  unfold State.surveyTest
  split
  · exact State.Adds.openSurvey s
  · exact .refl s

/-! ### DRIVE and what follows -/

theorem State.Adds.driveOff (s : State) : s.Adds s.driveOff :=
  ((State.Adds.reevaluate _).trans (.surveyTest _)).from rfl

theorem State.Adds.spinTest (s : State) : s.Adds s.spinTest := by
  unfold State.spinTest
  dsimp only
  split
  · exact (State.Adds.reevaluate _).from rfl
  · exact .refl s

theorem State.Adds.driveHalt (s : State) : s.Adds s.driveHalt := by
  unfold State.driveHalt
  dsimp only
  split
  · exact (State.Adds.reevaluate _).from (by simp)
  · exact (((State.Adds.reevaluate _).trans (.driveOff _)).trans (.spinTest _)).from (by simp)

theorem State.Adds.driveSync (s : State) : s.Adds s.driveSync := by
  unfold State.driveSync
  split
  · exact State.Adds.spinTest s
  · split
    · exact .refl s
    · exact State.Adds.driveHalt s
  · split
    · exact .refl s
    · exact State.Adds.driveHalt s
  · exact .refl s

theorem State.Adds.driveForcedOff (s : State) : s.Adds s.driveForcedOff := by
  unfold State.driveForcedOff
  split
  · exact State.Adds.driveHalt s
  · exact State.Adds.driveHalt s
  · exact .refl s
  · exact .refl s

theorem State.Adds.needTest (s : State) : s.Adds s.needTest := by
  unfold State.needTest
  dsimp only
  split
  · exact (State.Adds.driveSync _).from rfl
  · exact .refl s

theorem State.Adds.occupancyChanged (b s : State) : s.Adds (State.occupancyChanged b s) := by
  unfold State.occupancyChanged
  exact (((State.Adds.needTest _).trans (.reevaluate _)).trans (.ejectStart _) |>.trans (.pickTest _)).from (by simp)

theorem State.Adds.dropEntries (s : State) : s.Adds s.dropEntries := by
  unfold State.dropEntries
  dsimp only
  split
  · split
    · exact .refl s
    · exact ((State.Adds.foldl _ (fun _ _ => .strayCover _ _) _ _).trans (.occupancyChanged _ _)).from rfl
  · exact .refl s

theorem State.Adds.rosterChanged (s : State) : s.Adds s.rosterChanged := by
  unfold State.rosterChanged
  split
  · exact ((((State.Adds.dropEntries _).trans (.reevaluate _)).trans (.demandCrossing _)).trans (.pickTest _)).from (by simp)
  · exact State.Adds.reevaluate s

/-! ### The events of the sensors -/

theorem State.Adds.arrivalReport (s : State) (e : Entry) : s.Adds (s.arrivalReport e) := by
  unfold State.arrivalReport
  split
  · exact State.Adds.queueFrame s _
  · exact .refl s

theorem State.Adds.offerCover (s : State) (k : Nat) : s.Adds (s.offerCover k) := by
  unfold State.offerCover
  split
  · exact State.Adds.offerTest s
  · exact .refl s

theorem State.Adds.departure (s : State) (x : Serial) : s.Adds (s.departure x) := by
  unfold State.departure
  split
  · split
    · exact State.Adds.deliver s x
    · split
      · exact .refl s
      · exact State.Adds.offerTest s
  · exact .refl s

end Sys2Proof.Machine
end

section
/-! PROOFS. The covers of the zone sensors (O19 to O21). -/

namespace Sys2Proof.Machine

/-! ### The state at a settled edge -/

theorem State.atEdge_reads (s : State) (id : InputId) (level : Bool) (r : Nat) (shape : s.shapeLaw) (wf : id.wf = true) :
    (s.atEdge id level r).reads id = level := by
  have shape' : (s.elapse r).shapeLaw := by
    simpa [State.shapeLaw, State.elapse, State.passTrack, State.passExit, State.passTable, Inputs.pass] using shape
  unfold State.reads State.atEdge
  rw [Inputs.setLine_same (s.elapse r) id _ shape' wf]

/-! ### Entries without the marks of HANDOFF, and the places of entries -/

/-- Where an entry stands, whatever its timers and marks. -/
def Entry.place (e : Entry) : Serial × Source × Nat × Nat := (e.serial, e.source, e.leadZone, e.trailSensor)

theorem Entry.place_motion (e : Entry) : e.motion.place = e.place := rfl

theorem State.makeOffer_motion (s : State) (o : OfferRecord) (xs : List Serial) :
    (s.makeOffer o xs).track.queue.map Entry.motion = s.track.queue.map Entry.motion := by
  have marked : ((s.queueFrame (.offer o.dest xs (s.zone s.lastSensor).lead (s.zone s.lastSensor).trail)).mapQueue fun e =>
      if xs.contains e.serial then { e with offer := .offered } else e).track.queue.map Entry.motion =
      s.track.queue.map Entry.motion := by
    simp only [State.mapQueue, State.queueFrame_frame, List.map_map]
    apply List.map_congr_left
    intro e _
    simp only [Function.comp]
    split <;> rfl
  unfold State.makeOffer
  dsimp only
  split
  · simp
  · split
    · exact marked
    · exact marked

theorem State.offerTest_motion (s : State) : s.offerTest.track.queue.map Entry.motion = s.track.queue.map Entry.motion := by
  unfold State.offerTest
  dsimp only
  (repeat' split) <;> simp [State.makeOffer_motion]

theorem State.offerCover_motion (s : State) (k : Nat) :
    (s.offerCover k).track.queue.map Entry.motion = s.track.queue.map Entry.motion := by
  unfold State.offerCover
  split
  · exact s.offerTest_motion
  · rfl

theorem State.departure_motion (s : State) (x : Serial) :
    (s.departure x).track.queue.map Entry.motion = s.track.queue.map Entry.motion := by
  unfold State.departure
  (repeat' split) <;> simp [State.offerTest_motion]

/-- Entries that differ in their offer state alone have the same places. -/
theorem places_of_motion {es fs : List Entry} (h : es.map Entry.motion = fs.map Entry.motion) :
    es.map Entry.place = fs.map Entry.place := by
  simpa [Function.comp_def, Entry.place_motion] using congrArg (List.map Entry.place) h

/-! ### What follows a change of the occupancy queue -/

/-- 05 R84: the end of a hold loads entries again, and nothing more. -/
theorem State.endHold_queue (before s : State) : ∃ g : Entry → Entry,
    (State.endHold before s).track.queue = s.track.queue.map g ∧ ∀ e, g e = e ∨ g e = s.reloadEntry e := by
  have same : ∃ g : Entry → Entry, s.track.queue = s.track.queue.map g ∧ ∀ e, g e = e ∨ g e = s.reloadEntry e :=
    ⟨id, by simp, fun _ => .inl rfl⟩
  unfold State.endHold
  split
  · split
    · exact ⟨s.reloadEntry, rfl, fun _ => .inr rfl⟩
    · exact ⟨s.reloadEntry, rfl, fun _ => .inr rfl⟩
    · refine ⟨fun e => if (s.record e.serial).any SheetRecord.runout then s.reloadEntry e else e, rfl, fun e => ?_⟩
      dsimp only
      split
      · exact .inr rfl
      · exact .inl rfl
    · exact same
  · exact same

theorem State.reloadEntry_place (s : State) (e : Entry) : (s.reloadEntry e).place = e.place := rfl

theorem State.endHold_places (before s : State) :
    (State.endHold before s).track.queue.map Entry.place = s.track.queue.map Entry.place := by
  obtain ⟨g, queue, loads⟩ := State.endHold_queue before s
  rw [queue, List.map_map]
  apply List.map_congr_left
  intro e _
  rcases loads e with h | h <;> simp [h, State.reloadEntry_place]

/-- Where the survey does not wait to open, a halted drive leaves TRACK as it is but for the pick's timer. -/
theorem State.surveyTest_away {s : State} (h : s.path ≠ .stopping) : s.surveyTest = s := by simp [State.surveyTest, h]

theorem State.driveHalt_away {s : State} (h : s.path ≠ .stopping) :
    s.driveHalt.track.queue = s.track.queue ∧ s.driveHalt.track.pickCandidate = s.track.pickCandidate ∧
      s.driveHalt.recovery.path = s.recovery.path := by
  unfold State.driveHalt State.driveOff
  dsimp only
  split
  · simp
  · rw [State.surveyTest_away (by simpa [State.path] using h)]
    simp

theorem State.driveSync_away {s : State} (h : s.path ≠ .stopping) :
    s.driveSync.track.queue = s.track.queue ∧ s.driveSync.track.pickCandidate = s.track.pickCandidate ∧
      s.driveSync.recovery.path = s.recovery.path := by
  unfold State.driveSync
  (repeat' split) <;> simp [State.driveHalt_away h]

theorem State.needTest_away (s : State) :
    s.needTest.track.queue = s.track.queue ∧ s.needTest.track.pickCandidate = s.track.pickCandidate ∧
      s.needTest.recovery.path = s.recovery.path := by
  unfold State.needTest
  dsimp only
  split
  · rename_i runout
    have away : ({ s with recovery.driveNeed := s.driveNeeded } : State).path ≠ .stopping := by
      simp_all [State.path]
    simpa using State.driveSync_away away
  · simp

/-- 05 R84: of the queue's changes only the end of a hold touches entries. -/
theorem State.occupancyChanged_queue (b s : State) :
    (State.occupancyChanged b s).track.queue = (State.endHold b s.gateFollow).track.queue := by
  simp [State.occupancyChanged, State.needTest_away]

theorem State.occupancyChanged_places (b s : State) :
    (State.occupancyChanged b s).track.queue.map Entry.place = s.track.queue.map Entry.place := by
  rw [State.occupancyChanged_queue, State.endHold_places]
  simp

/-! ### The expected arrivals: acceptances append to them -/

theorem State.acceptOffer_expected (s : State) (d : DeferredOffer) : s.track.expected <+: (s.acceptOffer d).track.expected := by
  unfold State.acceptOffer
  dsimp only
  split
  · simp
  · split <;> simp

theorem State.retest_expected (s : State) (d : DeferredOffer) : s.track.expected <+: (s.retest d).1.track.expected := by
  unfold State.retest
  split
  · simp
  · split
    · simp
    · exact s.acceptOffer_expected d

theorem State.retestAll_expected : ∀ (ds : List DeferredOffer) (s : State),
    s.track.expected <+: (s.retestAll ds).1.track.expected
  | [], _ => List.prefix_rfl
  | d :: ds, s => (s.retest_expected d).trans (State.retestAll_expected ds _)

theorem State.reevaluate_expected (s : State) : s.track.expected <+: s.reevaluate.track.expected := by
  unfold State.reevaluate
  dsimp only
  split
  · exact State.retestAll_expected _ s
  · exact List.prefix_rfl

theorem State.spinTest_expected (s : State) : s.track.expected <+: s.spinTest.track.expected := by
  unfold State.spinTest
  dsimp only
  split
  · exact State.reevaluate_expected { s with
      drive.state := .spinning, drive.spin := .running Config.spinMs, drive.fresh := s.reads .drdy }
  · exact List.prefix_rfl

theorem State.driveOff_expected {s : State} (h : s.path ≠ .stopping) : s.track.expected <+: s.driveOff.track.expected := by
  unfold State.driveOff
  dsimp only
  rw [State.surveyTest_away (by simpa [State.path] using h)]
  exact State.reevaluate_expected { s with drive.state := .off, drive.halt := .stopped }

theorem State.driveHalt_expected {s : State} (h : s.path ≠ .stopping) :
    s.track.expected <+: s.driveHalt.track.expected := by
  unfold State.driveHalt
  dsimp only
  have first := State.reevaluate_expected { s.endPick with
    drive.state := .halting, drive.spin := .stopped, drive.fresh := false, drive.halt := .running Config.haltMs }
  split
  · exact first
  · exact (first.trans (State.driveOff_expected (by simpa [State.path] using h))).trans (State.spinTest_expected _)

theorem State.driveSync_expected {s : State} (h : s.path ≠ .stopping) :
    s.track.expected <+: s.driveSync.track.expected := by
  unfold State.driveSync
  split
  · exact s.spinTest_expected
  · split
    · exact List.prefix_rfl
    · exact State.driveHalt_expected h
  · split
    · exact List.prefix_rfl
    · exact State.driveHalt_expected h
  · exact List.prefix_rfl

theorem State.needTest_expected (s : State) : s.track.expected <+: s.needTest.track.expected := by
  unfold State.needTest
  dsimp only
  split
  · exact State.driveSync_expected (s := { s with recovery.driveNeed := s.driveNeeded }) (by simp_all [State.path])
  · exact List.prefix_rfl

theorem State.ejectStart_expected (s : State) : s.track.expected <+: s.ejectStart.track.expected := by
  unfold State.ejectStart
  split
  · simpa using s.ejectTest.reevaluate_expected
  · exact List.prefix_rfl

theorem State.occupancyChanged_expected (b s : State) :
    s.track.expected <+: (State.occupancyChanged b s).track.expected := by
  unfold State.occupancyChanged
  have first := (State.endHold b s.gateFollow).needTest_expected
  simpa using first.trans ((State.reevaluate_expected _).trans (State.ejectStart_expected _))

/-! ### STOPPING: a queue change moves nothing else -/

theorem State.pickTest_away {s : State} (h : s.path ≠ .run) : s.pickTest = s := by
  have none : s.pickTarget = none := by
    unfold State.pickTarget
    split
    · rfl
    · simp [h]
  simp [State.pickTest, none]

theorem State.ejectStart_away {s : State} (h : s.path ≠ .runout) : s.ejectStart = s := by
  have none : s.ejectable = none := by simp [State.ejectable, h]
  simp [State.ejectStart, none]

theorem State.needTest_unneeded {s : State} (h : s.path ≠ .runout) : s.needTest = s := by simp [State.needTest, h]

theorem State.occupancyChanged_stopping {b s : State} (h : s.path = .stopping) :
    State.occupancyChanged b s = s.gateFollow := by
  have path : s.gateFollow.path = .stopping := by simpa [State.path] using h
  have still : State.endHold b s.gateFollow = s.gateFollow := by simp [State.endHold, path]
  unfold State.occupancyChanged
  rw [still, State.needTest_unneeded (by simp [path])]
  dsimp only
  rw [State.reevaluate_still (by simp [path, movingPath]), State.ejectStart_away (by simp [path]),
    State.pickTest_away (by simp [path])]

/-! ### No pick is issued while sensor 1 reads covered -/

/-- No pick is in progress, and no sheet is its candidate. -/
structure State.NoPick (s : State) : Prop where
  candidate : s.track.pickCandidate = none
  pick : s.feed.pick = .idle
  out : s.feed.pickOut = false
  timer : s.track.pickTimer = .stopped

theorem State.pickTest_covered {s : State} (h : s.covered 1 = true) : s.pickTest = s := by
  have none : s.pickTarget = none := by
    unfold State.pickTarget
    split
    · rfl
    · simp [h]
  simp [State.pickTest, none]

theorem State.NoPick.congr {s t : State} (h : s.NoPick) (candidate : t.track.pickCandidate = s.track.pickCandidate)
    (timer : t.track.pickTimer = s.track.pickTimer) (feed : t.feed = s.feed) : t.NoPick :=
  ⟨candidate.trans h.candidate, by rw [feed, h.pick], by rw [feed, h.out], timer.trans h.timer⟩

theorem State.driveHalt_idle (s : State) :
    s.driveHalt.feed.pick = .idle ∧ s.driveHalt.feed.pickOut = false ∧ s.driveHalt.track.pickTimer = .stopped := by
  unfold State.driveHalt
  dsimp only
  split <;> simp [State.endPick]

theorem State.NoPick.needTest {s : State} (h : s.NoPick) : s.needTest.NoPick := by
  unfold State.needTest
  dsimp only
  split
  · rename_i runout
    have away : ({ s with recovery.driveNeed := s.driveNeeded } : State).path ≠ .stopping := by simp_all [State.path]
    have halted : ({ s with recovery.driveNeed := s.driveNeeded } : State).driveHalt.NoPick :=
      ⟨by simpa [State.driveHalt_away away] using h.candidate, (State.driveHalt_idle _).1, (State.driveHalt_idle _).2.1,
        (State.driveHalt_idle _).2.2⟩
    have kept : ({ s with recovery.driveNeed := s.driveNeeded } : State).NoPick := h.congr rfl rfl rfl
    unfold State.driveSync
    split
    · exact kept.congr (by simp) (by simp) (by simp)
    · split
      · exact kept
      · exact halted
    · split
      · exact kept
      · exact halted
    · exact kept
  · exact h

theorem State.NoPick.occupancyChanged {b s : State} (h : s.NoPick) (covered : s.covered 1 = true) :
    (State.occupancyChanged b s).NoPick := by
  unfold State.occupancyChanged
  have loaded : (State.endHold b s.gateFollow).NoPick := h.congr (by simp) (by simp) (by simp)
  dsimp only
  rw [State.pickTest_covered (by simpa [State.covered, State.reads] using covered)]
  exact loaded.needTest.congr (by simp) (by simp) (by simp)

/-! ### The imaging marker -/

/-- 07 R123: the marker's decision. -/
theorem State.markPass_decides (s : State) (x : Serial) (room : s.txRoom = true) : s.passDecided (s.markPass x) x := by
  constructor
  · intro missing
    simp [State.markPass, missing]
  · intro r found
    have serial : r.serial = x := by
      have := List.find?_some found
      simpa using this
    dsimp only
    have sides : s.effectiveSides r = r.sides + (s.imaging.passes.filter fun p => p.1 == x).length := by
      simp [State.effectiveSides, serial]
    rw [← sides]
    have pass : r.pendingAt (s.effectiveSides r) = (if r.purgeRouted then none else if s.effectiveSides r = 0 then some r.frontPass
        else if s.effectiveSides r = 1 ∧ r.duplex = true then r.backPass else none) := by
      simp [SheetRecord.pendingAt]
    rw [← pass]
    refine ⟨fun none => by simp [State.markPass, found, none], fun p hp few new => ?_⟩
    have marked : s.markPass x = { s.queueFrame (.pass x (s.effectiveSides r + 1) p) with
        imaging := { passes := s.imaging.passes ++ [(x, s.effectiveSides r + 1)], isync := .running 1 } } := by
      simp only [State.markPass, found, hp, room]
      rw [if_neg (by simpa [Config.passListMax] using few)]
      simp [new, Config.isyncMs]
    rw [marked]
    exact ⟨(State.Adds.of rfl).queued (s.queueFrame_queued _ room), rfl⟩

/-- The marker's decision made in `v` stands in `t`, seen from `u`. -/
theorem State.passDecided_of {u v t : State} {x : Serial} (room : v.txRoom = true) (roster : v.roster = u.roster)
    (imaging : v.imaging = u.imaging) (epoch : v.recovery.epoch = u.recovery.epoch) (adds : (v.markPass x).Adds t)
    (kept : t.imaging = (v.markPass x).imaging) : u.passDecided t x := by
  have decided := v.markPass_decides x room
  unfold State.passDecided State.record at decided ⊢
  rw [← roster, ← imaging, ← epoch, kept]
  refine ⟨decided.1, fun r found => ?_⟩
  obtain ⟨none, some⟩ := decided.2 r found
  exact ⟨none, fun p hp few new => (some p hp few new).imp_left adds.queued⟩

theorem State.imageCover_image {s : State} {k : Nat} (h : s.imagesAt k) (x : Serial) : s.imageCover k x = s.markPass x := by
  obtain ⟨role, zone, path⟩ := h
  simp [State.imageCover, role, zone, path]

theorem State.imageCover_other {s : State} {k : Nat} (h : ¬ s.imagesAt k) (x : Serial) : s.imageCover k x = s := by
  unfold State.imageCover
  rw [if_neg]
  simpa [State.imagesAt, and_assoc] using h

theorem State.imagesAt_congr {s t : State} (profile : t.profile = s.profile) (path : t.recovery.path = s.recovery.path) (k : Nat) :
    t.imagesAt k ↔ s.imagesAt k := by
  simp [State.imagesAt, State.hasRole, State.prof, State.path, profile, path]

end Sys2Proof.Machine
end

section
/-! PROOFS. The covers of the zone sensors, settled (O19 to O21). -/

namespace Sys2Proof.Machine

/-! ### Sensor 1 (05 R78) -/

/-- 05 R78: the station once the candidate `x` has joined its queue. -/
def State.joined (s : State) (x : Serial) : State :=
  let t := { s with track.queue := s.track.queue ++ [s.appended x] }
  if s.hasRole .feed then { t.endPick with track.pickCandidate := none }
  else { t with track.expected := dropHead t.track.expected }

theorem State.coverFirst_eq {s : State} {x : Serial} (candidate : s.candidate = some x)
    (new : ∀ e ∈ s.track.queue, e.serial ≠ x) (room : s.track.queue.length < s.prof.capacity) :
    s.coverFirst = some (s.joined x, s.appended x) := by
  unfold State.coverFirst State.joined
  rw [candidate]
  dsimp only
  rw [if_neg (by simpa [room] using new)]
  split <;> rfl

theorem State.coverFirst_none {s : State} (h : s.noCandidate 1) : s.coverFirst = none := by
  unfold State.coverFirst
  split
  · rfl
  · rename_i x candidate
    have taken := h x candidate
    rw [if_pos (by simpa using taken)]

theorem State.joined_queue (s : State) (x : Serial) : (s.joined x).track.queue = s.track.queue ++ [s.appended x] := by
  unfold State.joined
  dsimp only
  split <;> rfl

theorem State.joined_link (s : State) (x : Serial) : (s.joined x).link = s.link := by
  unfold State.joined
  dsimp only
  split <;> rfl

theorem State.joined_frame (s : State) (x : Serial) : let t := s.joined x
    OuterKept s t ∧ t.roster = s.roster ∧ t.handoff = s.handoff ∧ t.imaging = s.imaging ∧ t.recovery = s.recovery := by
  unfold State.joined
  dsimp only
  split <;> simp

theorem State.joined_feed {s : State} (feed : s.hasRole .feed = true) (x : Serial) : (s.joined x).NoPick := by
  unfold State.joined
  dsimp only
  rw [if_pos feed]
  exact ⟨rfl, rfl, rfl, rfl⟩

theorem State.joined_expected {s : State} (feed : s.hasRole .feed = false) (x : Serial) :
    (s.joined x).track.expected = dropHead s.track.expected := by
  simp [State.joined, feed]

/-- 05 R78, R81: the station once the candidate has joined and the blocks it concerns have been told. -/
def State.coverTold (s : State) (x : Serial) : State :=
  (((s.joined x).arrivalReport (s.appended x)).imageCover 1 x).offerCover 1

theorem State.coverSensor1_joined {s : State} {x : Serial} (attributes : s.attributes = true)
    (candidate : s.candidate = some x) (new : ∀ e ∈ s.track.queue, e.serial ≠ x)
    (room : s.track.queue.length < s.prof.capacity) :
    s.coverSensor1 = State.occupancyChanged s (s.coverTold x) := by
  unfold State.coverSensor1
  rw [if_pos attributes, State.coverFirst_eq candidate new room]
  rfl

theorem State.coverTold_motion (s : State) (x : Serial) :
    (s.coverTold x).track.queue.map Entry.motion = (s.track.queue ++ [s.appended x]).map Entry.motion := by
  rw [State.coverTold, State.offerCover_motion]
  simp [State.joined_queue]

/-- 05 R78: the queue with the new entry at its tail. -/
theorem State.coverJoined_places (s b : State) (x : Serial) :
    (State.occupancyChanged b (s.coverTold x)).track.queue.map Entry.place =
      s.track.queue.map Entry.place ++ [(x, if s.hasRole .feed then .pick else .arrival, 1, 1)] := by
  rw [State.occupancyChanged_places, places_of_motion (s.coverTold_motion x)]
  simp [Entry.place, State.appended]

/-- 05 R82, R83, R84: the new entry's timers are loaded, and a hold's end loads them to the same values. -/
theorem State.coverJoined_timers (s b : State) (x : Serial) :
    ∃ e ∈ (State.occupancyChanged b (s.coverTold x)).track.queue, e.serial = x ∧ e.trail = .running (s.zone 1).trail ∧
      e.lead = s.leadLoad 1 := by
  have mem : (s.appended x).motion ∈ (s.coverTold x).track.queue.map Entry.motion := by
    rw [s.coverTold_motion x]
    simp
  obtain ⟨e, he, same⟩ := List.mem_map.mp mem
  have serial : e.serial = x := congrArg Entry.serial same
  have leadZone : e.leadZone = 1 := congrArg Entry.leadZone same
  have trailSensor : e.trailSensor = 1 := congrArg Entry.trailSensor same
  have lead : e.lead = s.leadLoad 1 := congrArg Entry.lead same
  have trail : e.trail = .running (s.zone 1).trail := congrArg Entry.trail same
  obtain ⟨g, queue, loads⟩ := State.endHold_queue b (s.coverTold x).gateFollow
  rw [State.occupancyChanged_queue, queue]
  refine ⟨g e, List.mem_map_of_mem (by simpa using he), ?_⟩
  have zone : (s.coverTold x).gateFollow.zone 1 = s.zone 1 := by
    simp [State.zone, State.prof, State.coverTold, State.joined_frame]
  rcases loads e with same | reload
  · rw [same]
    exact ⟨serial, trail, lead⟩
  · rw [reload]
    refine ⟨serial, by simp [State.reloadEntry, trail, trailSensor, zone], ?_⟩
    unfold State.reloadEntry State.leadLoad
    rw [lead, leadZone, zone]
    unfold State.leadLoad
    by_cases h : 1 < s.lastSensor <;> simp [h]

theorem State.coverTold_adds (s : State) (x : Serial) : ((s.joined x).arrivalReport (s.appended x)).Adds (s.coverTold x) :=
  (State.Adds.imageCover _ 1 x).trans (.offerCover _ 1)

theorem State.coverTold_stopping {s : State} (path : s.path = .stopping) (x : Serial) : (s.coverTold x).link = s.link := by
  have path' : (s.joined x).path = .stopping := by simpa [State.path, State.joined_frame] using path
  simp [State.coverTold, State.offerCover, State.imageCover, State.arrivalReport, path', movingPath, State.joined_link]

theorem State.attributes_iff (s : State) : s.attributes = true ↔
    s.track.attributing = true ∧ s.path ∈ [PathState.run, .stopping, .runout, .resuming] := by
  unfold State.attributes
  generalize s.path = p
  cases p <;> simp

theorem State.stopping_of_attributes {s : State} (attributes : s.attributes = true) (still : movingPath s.path = false) :
    s.path = .stopping := by
  have paths := (s.attributes_iff.mp attributes).2
  simp only [List.mem_cons, List.not_mem_nil, or_false] at paths
  rcases paths with h | h | h | h <;> simp_all [movingPath]

/-- 07 R123: the marker decides at the cover of sensor 1. -/
theorem State.coverTold_decides {s t : State} {x : Serial} (images : s.imagesAt 1) (room : s.link.queue.length < 7)
    (adds : (s.coverTold x).Adds t) (kept : t.imaging = (s.coverTold x).imaging) : s.passDecided t x := by
  have moving : movingPath (s.joined x).path = true := by
    obtain ⟨-, -, run | resuming⟩ := images
    · simp_all [State.path, State.joined_frame, movingPath]
    · simp_all [State.path, State.joined_frame, movingPath]
  have told : (s.joined x).arrivalReport (s.appended x) =
      (s.joined x).queueFrame (.arrived x ((s.appended x).source == .pick)) := by
    rw [State.arrivalReport, if_pos moving]; rfl
  have images' : ((s.joined x).arrivalReport (s.appended x)).imagesAt 1 :=
    (State.imagesAt_congr (by simp [State.joined_frame]) (by simp [State.joined_frame]) 1).mpr images
  have marked : (((s.joined x).arrivalReport (s.appended x)).markPass x).Adds (s.coverTold x) := by
    rw [State.coverTold, State.imageCover_image images']
    exact State.Adds.offerCover _ 1
  refine State.passDecided_of (v := (s.joined x).arrivalReport (s.appended x)) ?_ ?_ ?_ ?_ (marked.trans adds) ?_
  · rw [told]
    exact State.txRoom_queueFrame _ _ (by simpa [State.joined_link] using room)
  · simp [State.joined_frame]
  · simp [State.joined_frame]
  · simp [State.joined_frame]
  · rw [kept, State.coverTold, State.imageCover_image images']
    simp

/-- Settles O19. -/
theorem sensor1CoverAppendsEntry : Obligations.Sensor1CoverAppendsEntry := by
  unfold Obligations.Sensor1CoverAppendsEntry
  intro s r x shape due u attributes candidate new room
  have runs : exec .sensor1Cover s = .next u.coverSensor1 := congrArg Host.Outcome.next (s.settle_edge _ _ _ _ due)
  have cover : u.coverSensor1 = State.occupancyChanged u (u.coverTold x) :=
    State.coverSensor1_joined attributes candidate new room
  have covered : u.covered 1 = true := s.atEdge_reads _ _ _ shape rfl
  have places := State.coverJoined_places u u x
  have field {α : Type} (f : Serial × Source × Nat × Nat → α) :
      (State.occupancyChanged u (u.coverTold x)).track.queue.map (fun e => f e.place) =
        u.track.queue.map (fun e => f e.place) ++ [f (x, if u.hasRole .feed then .pick else .arrival, 1, 1)] := by
    simpa [Function.comp_def] using congrArg (List.map f) places
  have told : ((u.joined x).arrivalReport (u.appended x)).Adds u.coverSensor1 := by
    rw [cover]
    exact (u.coverTold_adds x).trans (.occupancyChanged u _)
  have still : movingPath u.path = false → u.coverSensor1.link = u.link := by
    intro h
    have path := State.stopping_of_attributes attributes h
    rw [cover, State.occupancyChanged_stopping (by simpa [State.path, State.coverTold, State.joined_frame] using path)]
    simpa using State.coverTold_stopping path x
  have noPick : u.hasRole .feed = true → u.coverSensor1.NoPick := by
    intro feed
    rw [cover]
    refine State.NoPick.occupancyChanged ((State.joined_feed feed x).congr ?_ ?_ ?_) ?_
    · simp [State.coverTold]
    · simp [State.coverTold]
    · simp [State.coverTold]
    · simpa [State.covered, State.reads, State.coverTold, State.joined_frame] using covered
  have expected : u.hasRole .feed = false → dropHead u.track.expected <+: u.coverSensor1.track.expected := by
    intro feed
    rw [cover, ← State.joined_expected feed x]
    simpa [State.coverTold] using State.occupancyChanged_expected u (u.coverTold x)
  obtain ⟨more, expected⟩ : ∃ more, u.hasRole .feed = false → u.coverSensor1.track.expected = dropHead u.track.expected ++ more := by
    cases feed : u.hasRole .feed with
    | true => exact ⟨[], by simp⟩
    | false =>
      obtain ⟨more, h⟩ := expected feed
      exact ⟨more, fun _ => h.symm⟩
  refine ⟨u.coverSensor1, more, runs, ?_, ?_, ?_, ?_, ?_, ?_, ?_, expected, ?_, still, ?_, ?_, ?_⟩
  · simpa [State.covered, State.reads] using covered
  · rw [cover]; exact field (·.1)
  · rw [cover]; exact field (·.2.2.1)
  · rw [cover]; exact field (·.2.2.2)
  · rw [cover]; exact field (·.2.1)
  · rw [cover]; exact u.coverJoined_timers u x
  · intro feed
    exact ⟨(noPick feed).candidate, (noPick feed).pick, (noPick feed).out, (noPick feed).timer⟩
  · intro moving txRoom
    have sent : ((u.joined x).arrivalReport (u.appended x)) = (u.joined x).queueFrame (.arrived x (u.hasRole .feed)) := by
      have moving' : movingPath (u.joined x).path = true := by simpa [State.path, State.joined_frame] using moving
      rw [State.arrivalReport, if_pos moving']
      cases feed : u.hasRole .feed with
      | true => simp [State.appended, feed]
      | false =>
        have arrival : (Source.arrival == Source.pick) = false := rfl
        simp [State.appended, feed, arrival]
    have queued := (sent ▸ told).sent (by simpa [State.txRoom, State.joined_link] using txRoom)
    simpa [State.joined_frame] using queued
  · intro images txRoom
    rw [cover]
    exact State.coverTold_decides images txRoom (.occupancyChanged u _) (by simp)
  · intro images
    have other : ¬ ((u.joined x).arrivalReport (u.appended x)).imagesAt 1 := fun h =>
      images ((State.imagesAt_congr (by simp [State.joined_frame]) (by simp [State.joined_frame]) 1).mp h)
    rw [cover]
    simp [State.coverTold, State.imageCover_other other, State.joined_frame]
  · simp [State.sameReception, State.sameSetup]

/-! ### A cover without a candidate (05 R87, R92, R93) -/

theorem State.coverSensor1_unattributed {s : State} (h : s.attributes = false) : s.coverSensor1 = s := by
  simp [State.coverSensor1, h]

theorem State.coverSensorK_unattributed {s : State} (h : s.attributes = false) (k : Nat) : s.coverSensorK k = s := by
  simp [State.coverSensorK, h]

theorem State.coverSensor1_stray {s : State} (h : s.attributes = true) (no : s.noCandidate 1) :
    s.coverSensor1 = s.strayCover 1 := by
  simp [State.coverSensor1, h, State.coverFirst_none no]

theorem State.coverSensorK_stray {s : State} {k : Nat} (h : s.attributes = true) (other : k ≠ 1) (no : s.noCandidate k) :
    s.coverSensorK k = s.strayCover k := by
  have none : s.coverEntry k = none := by
    rw [State.noCandidate, if_neg other] at no
    simpa [State.coverEntry] using no
  simp [State.coverSensorK, h, none]

theorem exec_cover (s : State) (k r : Nat) (one : 1 ≤ k) (due : s.edgeDue (.sensor k) true r) :
    exec (if k = 1 then .sensor1Cover else .sensorKCover k) s = .next
      (if k = 1 then (s.atEdge (.sensor k) true r).coverSensor1 else (s.atEdge (.sensor k) true r).coverSensorK k) := by
  split
  · rename_i h
    subst h
    exact congrArg Host.Outcome.next (s.settle_edge _ _ _ _ due)
  · have two : 2 ≤ k := by omega
    refine congrArg Host.Outcome.next ?_
    rw [if_pos two]
    exact s.settle_edge _ _ _ _ due

theorem State.strayCover_flags (s : State) (k : Nat) : (s.strayCover k).track.strays = (s.setStray k).track.strays := by
  unfold State.strayCover
  dsimp only
  split <;> simp

theorem State.setStray_flag (s : State) {k : Nat} (one : 1 ≤ k) (four : k ≤ s.track.strays.length) :
    (s.setStray k).strayFlag k = true := by
  have hk : k - 1 < s.track.strays.length := by omega
  simp [State.setStray, State.strayFlag, show k ≠ 0 by omega, hk]

theorem State.setStray_other (s : State) {j k : Nat} (h : j ≠ k) (hj : 1 ≤ j) : (s.setStray k).strayFlag j = s.strayFlag j := by
  unfold State.setStray State.strayFlag
  dsimp only
  split
  · rfl
  · rw [List.getElem?_modify_ne]
    omega

theorem State.strayCover_eq (s : State) (k : Nat) :
    s.strayCover k = { s with link := (s.strayCover k).link, track.strays := (s.strayCover k).track.strays } := by
  unfold State.strayCover
  dsimp only
  split
  · rw [State.detect_link]
    rfl
  · rfl

/-- Settles O20. -/
theorem strayCoverSetsFlag : Obligations.StrayCoverSetsFlag := by
  unfold Obligations.StrayCoverSetsFlag
  intro s k r shape one four due u c
  have runs := exec_cover s k r one due
  refine ⟨u.attributes_iff, fun unattributed => ?_, fun attributes no => ⟨u.strayCover k, ?_, ?_, ?_, ?_, ?_, ?_, ?_⟩⟩
  · rw [runs, State.coverSensor1_unattributed unattributed, State.coverSensorK_unattributed unattributed, ite_self]
  · rw [runs]
    by_cases h : k = 1
    · subst h
      rw [if_pos rfl, State.coverSensor1_stray attributes no]
    · rw [if_neg h, State.coverSensorK_stray attributes h no]
  · have zones : k ≤ u.track.strays.length := by
      obtain ⟨-, -, -, strays, -⟩ := shape
      simpa [u, State.atEdge, State.elapse, State.passTrack, strays] using four
    simpa [State.strayFlag, State.strayCover_flags] using u.setStray_flag one zones
  · intro j hj other
    simpa [State.strayFlag, State.strayCover_flags] using u.setStray_other other hj
  · intro path claim
    have stray : u.strayCover k = (u.setStray k).detect .stray k none := by
      rw [State.strayCover, if_pos (by simpa using path)]
    rw [stray]
    exact State.detect_jamQueued _ _ _ _ (by simpa [State.canClaim] using claim)
  · intro path
    rw [State.strayCover, if_neg (by rcases path with h | h <;> simp [h])]
    simp
  · simp [State.sameReception]
  · exact u.strayCover_eq k

end Sys2Proof.Machine
end

section
/-! PROOFS. The covers of the later sensors and the offers that follow (O21). -/

namespace Sys2Proof.Machine

/-! ### The entry that a cover goes to -/

theorem changeFirst_split (p : Entry → Bool) (f : Entry → Entry) (e : Entry) (post : List Entry) (he : p e = true) :
    ∀ pre : List Entry, (∀ x ∈ pre, p x = false) → changeFirst p f (pre ++ e :: post) = pre ++ f e :: post
  | [], _ => by simp [changeFirst, he]
  | x :: pre, h => by
    simp [changeFirst, h x, changeFirst_split p f e post he pre fun y hy => h y (List.mem_cons_of_mem x hy)]

theorem find?_split {α : Type} (p : α → Bool) (a : α) (pre post : List α) (ha : p a = true) (h : ∀ x ∈ pre, p x = false) :
    (pre ++ a :: post).find? p = some a := by
  rw [List.find?_append, List.find?_eq_none.mpr (by simpa using h)]
  simp [ha]

/-- 05 R79, R82: the station once the entry's lead has covered sensor k. -/
def State.leadMoved (s : State) (k : Nat) : State :=
  { s with track.queue := changeFirst (fun f => f.leadZone + 1 == k) (s.leadTo k) s.track.queue }

theorem State.leadMoved_queue {s : State} {k : Nat} {e : Entry} {pre post : List Entry}
    (queue : s.track.queue = pre ++ e :: post) (lead : e.leadZone + 1 = k) (others : ∀ f ∈ pre, f.leadZone + 1 ≠ k) :
    (s.leadMoved k).track.queue = pre ++ s.leadTo k e :: post := by
  rw [State.leadMoved, queue]
  exact changeFirst_split _ _ e post (by simpa using lead) pre (by simpa using others)

theorem State.coverSensorK_moves {s : State} {k : Nat} {e : Entry} {pre post : List Entry} (attributes : s.attributes = true)
    (queue : s.track.queue = pre ++ e :: post) (lead : e.leadZone + 1 = k) (others : ∀ f ∈ pre, f.leadZone + 1 ≠ k) :
    s.coverSensorK k = ((s.leadMoved k).imageCover k e.serial).offerCover k := by
  have found : s.coverEntry k = some e := by
    rw [State.coverEntry, queue]
    exact find?_split _ e pre post (by simpa using lead) (by simpa using others)
  simp only [State.coverSensorK, attributes, found, if_true]
  rfl

/-! ### OFFER (06 R96, R97) -/

theorem State.offerTo_setOffer (s : State) (dest : Pos) (f : OfferRecord → OfferRecord) (kept : ∀ o, (f o).dest = o.dest) :
    (s.setOffer dest f).offerTo dest = (s.offerTo dest).map f := by
  simp only [State.offerTo, State.setOffer]
  induction s.handoff.offers with
  | nil => rfl
  | cons o os ih =>
    by_cases h : o.dest = dest
    · simp [h, kept]
    · rw [List.map_cons, List.find?_cons_of_neg (by simp [h]), List.find?_cons_of_neg (by simp [h])]
      exact ih

theorem State.offerTo_dest {s : State} {dest : Pos} {o : OfferRecord} (h : s.offerTo dest = some o) : o.dest = dest := by
  simpa using List.find?_some h

/-- What a queued OFFER leaves: the frame, the record AWAITING, the entries OFFERED, the diverter toward the destination. -/
theorem State.makeOffer_made (s : State) (o : OfferRecord) (xs : List Serial) (room : s.txRoom = true)
    (record : s.offerTo o.dest = some o) :
    let t := s.makeOffer o xs
    t.queued s.recovery.epoch (.offer o.dest xs (s.zone s.lastSensor).lead (s.zone s.lastSensor).trail) ∧
      t.offerTo o.dest = some
        { o with state := .awaiting, offered := xs, answer := .stopped, reoffer := .stopped, retryMet := false } ∧
      (∀ g ∈ t.track.queue, g.serial ∈ xs → g.offer = .offered) ∧
      ∀ d, s.prof.downstream.find? (fun d => d.1 == o.dest) = some d → (t.drive.div1, t.drive.div2) = divOutputs d.2 := by
  let sent := s.queueFrame (.offer o.dest xs (s.zone s.lastSensor).lead (s.zone s.lastSensor).trail)
  let marked := sent.mapQueue fun e => if xs.contains e.serial then { e with offer := .offered } else e
  let waiting := marked.setOffer o.dest fun o =>
    { o with state := .awaiting, offered := xs, answer := .stopped, reoffer := .stopped, retryMet := false }
  have frame : waiting.queued s.recovery.epoch (.offer o.dest xs (s.zone s.lastSensor).lead (s.zone s.lastSensor).trail) :=
    (State.Adds.of (s := sent) rfl).queued (s.queueFrame_queued _ room)
  have awaits : waiting.offerTo o.dest = some
      { o with state := .awaiting, offered := xs, answer := .stopped, reoffer := .stopped, retryMet := false } := by
    have same : marked.offerTo o.dest = some o := by
      rw [← record]
      simp [State.offerTo, marked, sent]
    have changed := State.offerTo_setOffer marked o.dest (fun o =>
      { o with state := .awaiting, offered := xs, answer := .stopped, reoffer := .stopped, retryMet := false }) fun _ => rfl
    rw [same] at changed
    exact changed
  have entries : ∀ g ∈ waiting.track.queue, g.serial ∈ xs → g.offer = .offered := by
    intro g hg mem
    obtain ⟨e, -, rfl⟩ := List.mem_map.mp hg
    by_cases h : e.serial ∈ xs
    · simp [h]
    · simp [h] at mem
  dsimp only
  unfold State.makeOffer
  dsimp only
  rw [if_neg (by simp [room])]
  cases found : s.prof.downstream.find? (fun d => d.1 == o.dest) with
  | none => exact ⟨frame, awaits, entries, by simp⟩
  | some d => exact ⟨frame, awaits, entries, fun d' same => by cases same; rfl⟩

theorem State.inRun_run {s : State} (run : s.path = .run) (dest : Pos) (e : Entry) :
    s.inRun dest e = (e.offer == .unoffered &&
      (s.record e.serial).any fun x => x.stage == .fed && x.holder == some s.own && s.nextStation x == some dest) := by
  unfold State.inRun State.offerPath State.heldRecord
  cases s.record e.serial with
  | none => simp
  | some r => by_cases fed : r.stage = .fed <;> by_cases holder : r.holder = some s.own <;> simp [run, fed, holder]

/-- 06 R96: the candidate in RUN, whose record stands free, is offered to its next station. -/
theorem State.offerTest_idle {s : State} {e : Entry} {pre post : List Entry} {q : SheetRecord} {dest : Pos} {o : OfferRecord}
    (exit : s.hasRole .exit = false) (queue : s.track.queue = pre ++ e :: post) (free : e.offer = .unoffered)
    (ahead : ∀ f ∈ pre, f.offer ≠ .unoffered) (run : s.path = .run) (lead : e.leadZone = s.lastSensor)
    (record : s.record e.serial = some q) (fed : q.stage = .fed) (holder : q.holder = some s.own)
    (next : s.nextStation q = some dest) (present : s.isAbsent dest = false) (offer : s.offerTo dest = some o)
    (ready : o.state = .idle ∨ o.state = .retry ∧ o.retryMet = true) :
    s.offerTest = s.makeOffer o (s.offerSerials o (e :: post)) := by
  have rest : s.track.queue.dropWhile (fun e => e.offer != .unoffered) = e :: post := by
    rw [queue, List.dropWhile_append_of_pos (by simpa using ahead)]
    simp [free]
  have path : s.offerPath e.serial = true := by simp [State.offerPath, run]
  have held : s.heldRecord e.serial = some q := by simp [State.heldRecord, record, fed, holder]
  have ready' : (o.state == .idle || o.state == .retry && o.retryMet) = true := by simpa using ready
  unfold State.offerTest
  dsimp only
  rw [if_neg (by simp [exit]), rest]
  dsimp only
  rw [if_neg (by simp [path, lead]), held]
  dsimp only
  rw [next]
  dsimp only
  rw [if_neg (by simp [present]), offer]
  dsimp only
  rw [if_pos ready']

/-- 06 R97: the candidate and, where the free count takes two and more, the train behind it. -/
theorem State.offerSerials_run {s : State} {e : Entry} {post : List Entry} {o : OfferRecord}
    (idle : o.state = .idle) (first : s.inRun o.dest e = true) :
    s.offerSerials o (e :: post) =
      let run := (((e :: post).takeWhile (s.inRun o.dest)).take 6).map (·.serial)
      let n := min run.length (o.free.getD 0)
      if 2 ≤ n then run.take n else [e.serial] := by
  unfold State.offerSerials
  simp [idle, first, Config.trainMax]

theorem State.imageCover_length (s : State) (k : Nat) (x : Serial) :
    (s.imageCover k x).link.queue.length ≤ s.link.queue.length + 1 := by
  unfold State.imageCover State.markPass
  dsimp only
  have sent (p : Payload) := s.queueFrame_length p
  (repeat' split) <;> simp [sent]

/-! ### Settled -/

theorem Tracker.eq_of {a b : Tracker} (expected : a.expected = b.expected) (strays : a.strays = b.strays)
    (candidate : a.pickCandidate = b.pickCandidate) (timer : a.pickTimer = b.pickTimer)
    (attributing : a.attributing = b.attributing) : a = { b with queue := a.queue } := by
  cases a; cases b; simp_all

/-- 06 R96: the cover of the last sensor in RUN offers its sheet. -/
theorem State.coverOffers {s : State} {k : Nat} {e : Entry} {pre post : List Entry} {q : SheetRecord} {dest : Pos}
    {o : OfferRecord} (queue : s.track.queue = pre ++ e :: post) (lead : e.leadZone + 1 = k)
    (others : ∀ f ∈ pre, f.leadZone + 1 ≠ k) (last : k = s.lastSensor) (run : s.path = .run) (exit : s.hasRole .exit = false)
    (free : e.offer = .unoffered) (ahead : ∀ f ∈ pre, f.offer ≠ .unoffered) (record : s.record e.serial = some q)
    (fed : q.stage = .fed) (holder : q.holder = some s.own) (next : s.nextStation q = some dest)
    (present : s.isAbsent dest = false) (offer : s.offerTo dest = some o) (idle : o.state = .idle)
    (room : s.link.queue.length < 7) :
    let joins : Entry → Bool := fun f => f.offer == .unoffered &&
      (s.record f.serial).any fun x => x.stage == .fed && x.holder == some s.own && s.nextStation x == some dest
    let train := (((e :: post).takeWhile joins).take 6).map (·.serial)
    let n := min train.length (o.free.getD 0)
    let xs := if 2 ≤ n then train.take n else [e.serial]
    let t := ((s.leadMoved k).imageCover k e.serial).offerCover k
    t.queued s.recovery.epoch (.offer dest xs (s.zone k).lead (s.zone k).trail) ∧
      t.offerTo dest = some
        { o with state := .awaiting, offered := xs, answer := .stopped, reoffer := .stopped, retryMet := false } ∧
      (∀ g ∈ t.track.queue, g.serial ∈ xs → g.offer = .offered) ∧
      ∀ d, s.prof.downstream.find? (fun d => d.1 == dest) = some d → (t.drive.div1, t.drive.div2) = divOutputs d.2 := by
  intro joins train n xs t
  let v := (s.leadMoved k).imageCover k e.serial
  have moved : (s.leadMoved k).link = s.link := rfl
  have vRoom : v.txRoom = true := by
    have := State.Adds.length_le (State.Adds.imageCover (s.leadMoved k) k e.serial)
    have grown : v.link.queue.length ≤ s.link.queue.length + 1 := State.imageCover_length (s.leadMoved k) k e.serial
    exact v.txRoom_iff.mpr (by omega)
  have vQueue : v.track.queue = pre ++ s.leadTo k e :: post := by
    simpa [v] using State.leadMoved_queue queue lead others
  have vProfile : v.profile = s.profile := by simp [v, State.leadMoved]
  have vPath : v.path = .run := by simpa [v, State.path, State.leadMoved] using run
  have vOwn : v.own = s.own := by simp [State.own, State.prof, vProfile]
  have vRecord (x : Serial) : v.record x = s.record x := by simp [v, State.record, State.leadMoved]
  have vNext (r : SheetRecord) : v.nextStation r = s.nextStation r := by
    simp [v, State.nextStation, State.purgeAfter, State.mapOf, State.leadMoved]
  have vOffer : v.offerTo dest = some o := by
    rw [← offer]
    simp [v, State.offerTo, State.leadMoved]
  have joinsRun : v.inRun dest = joins := by
    funext f
    simp [State.inRun_run vPath, joins, vRecord, vOwn, vNext]
  have dest' : o.dest = dest := State.offerTo_dest offer
  have first : v.inRun o.dest (s.leadTo k e) = true := by
    have base : joins e = true := by simp [joins, free, record, fed, holder, next]
    rw [dest', joinsRun]
    exact base
  have serials : v.offerSerials o (s.leadTo k e :: post) = xs := by
    have firstJoins : joins (s.leadTo k e) = true := by rw [← joinsRun, ← dest']; exact first
    have baseJoins : joins e = true := firstJoins
    rw [State.offerSerials_run idle first, dest', joinsRun]
    simp only [xs, n, train, List.takeWhile_cons, firstJoins, baseJoins, if_true]
    rfl
  have offered : t = v.makeOffer o xs := by
    have cover : t = v.offerTest := by
      have last' : k = v.lastSensor := by simpa [State.lastSensor, State.prof, vProfile] using last
      have reached : (decide (k = v.lastSensor) && (v.path == .run || v.path == .runout)) = true := by simp [← last', vPath]
      exact if_pos reached
    rw [cover, ← serials]
    refine State.offerTest_idle (q := q) (dest := dest) ?_ vQueue free ahead vPath ?_ ?_ fed ?_ ?_ ?_ vOffer (.inl idle)
    · simpa [State.hasRole, State.prof, vProfile] using exit
    · simpa [State.leadTo, State.lastSensor, State.prof, vProfile] using last
    · rw [vRecord]; exact record
    · rw [vOwn]; exact holder
    · rw [vNext]; exact next
    · simpa [v, State.isAbsent, State.entry, State.leadMoved] using present
  have made := v.makeOffer_made o xs vRoom (by rw [dest']; exact vOffer)
  rw [offered]
  have zone : v.zone v.lastSensor = s.zone k := by
    rw [last]
    simp [State.zone, State.lastSensor, State.prof, vProfile]
  have epoch : v.recovery.epoch = s.recovery.epoch := by simp [v, State.leadMoved]
  have prof : v.prof = s.prof := by simp [State.prof, vProfile]
  simpa [dest', zone, epoch, prof] using made

/-- Settles O21. -/
theorem sensorKCoverMovesLead : Obligations.SensorKCoverMovesLead := by
  unfold Obligations.SensorKCoverMovesLead
  intro s k r e pre post two due u load attributes queue lead others
  have runs : exec (.sensorKCover k) s = .next (u.coverSensorK k) := by
    have := exec_cover s k r (by omega) due
    simpa [show k ≠ 1 by omega] using this
  have cover : u.coverSensorK k = ((u.leadMoved k).imageCover k e.serial).offerCover k :=
    State.coverSensorK_moves attributes queue lead others
  have images : (u.leadMoved k).imagesAt k ↔ u.imagesAt k := State.imagesAt_congr rfl rfl k
  refine ⟨u.coverSensorK k, runs, ?_, ?_, ?_, ?_, ?_, ?_, by simp, by simp, by simp, by simp, by simp, by simp [State.sameReception],
    by simp [State.sameSetup]⟩
  · rw [cover, State.offerCover_motion]
    simp only [State.imageCover_frame]
    rw [State.leadMoved_queue queue lead others]
    simp [State.leadTo, State.leadLoad, load]
  · intro h room
    rw [cover, State.imageCover_image (images.mpr h)]
    refine State.passDecided_of (v := u.leadMoved k) ?_ rfl rfl rfl (.offerCover _ _) (by simp)
    exact (State.txRoom_iff _).mpr (by change u.link.queue.length < 8; omega)
  · intro h
    rw [cover, State.imageCover_other fun i => h (images.mp i)]
    simp [State.leadMoved]
  · intro path
    have unseen : ¬ (u.leadMoved k).imagesAt k := by
      rintro ⟨-, -, run | resuming⟩
      · exact absurd (path.symm.trans run) (by simp)
      · exact absurd (path.symm.trans resuming) (by simp)
    have path' : (u.leadMoved k).path = .stopping := path
    rw [cover, State.imageCover_other unseen, State.offerCover, if_neg (by simp [path'])]
    exact ⟨rfl, rfl⟩
  · intro q dest o last run exit free ahead record fed holder next present offer idle room
    rw [cover]
    exact State.coverOffers queue lead others last run exit free ahead record fed holder next present offer idle room
  · rw [cover]
    exact Tracker.eq_of (by simp [State.leadMoved]) (by simp [State.leadMoved]) (by simp [State.leadMoved])
      (by simp [State.leadMoved]) (by simp [State.leadMoved])

end Sys2Proof.Machine
end

section
/-! PROOFS. The uncovers of the zone sensors (O22, O23). -/

namespace Sys2Proof.Machine

/-! ### States, block by block -/

/-- Two states with the same blocks. -/
theorem State.eq_of_blocks {a b : State}
    (h : a.pending = b.pending ∧ a.profile = b.profile ∧ a.profileCrc = b.profileCrc ∧ a.profileTimer = b.profileTimer ∧
      a.inputs = b.inputs ∧ a.link = b.link ∧ a.table = b.table ∧ a.roster = b.roster ∧ a.track = b.track ∧
      a.handoff = b.handoff ∧ a.feed = b.feed ∧ a.imaging = b.imaging ∧ a.exit = b.exit ∧ a.drive = b.drive ∧
      a.recovery = b.recovery) : a = b := by
  cases a
  cases b
  simpa using h

/-! ### The bins -/

theorem State.bin_setBin (s : State) {n : Nat} (f : Bin → Bin) (one : 1 ≤ n) (room : n ≤ s.exit.bins.length) :
    (s.setBin n f).bin n = f (s.bin n) := by
  have : n - 1 < s.exit.bins.length := by omega
  simp [State.setBin, State.bin, show n ≠ 0 by omega, this]

theorem State.bin_setBin_ne (s : State) {m n : Nat} (f : Bin → Bin) (h : m ≠ n) : (s.setBin n f).bin m = s.bin m := by
  unfold State.setBin State.bin
  dsimp only
  split
  · rfl
  · split
    · rfl
    · rw [List.getElem?_modify_ne]
      omega

theorem State.bin_congr {s t : State} (bins : t.exit.bins = s.exit.bins) (n : Nat) : t.bin n = s.bin n := by
  simp [State.bin, bins]

theorem State.setBin_bins_length (s : State) (n : Nat) (f : Bin → Bin) :
    (s.setBin n f).exit.bins.length = s.exit.bins.length := by
  unfold State.setBin
  dsimp only
  split <;> simp

theorem State.openNewSet_bin_ne (s : State) {m n : Nat} (r : SheetRecord) (h : m ≠ n) : (s.openNewSet n r).bin m = s.bin m := by
  unfold State.openNewSet State.startFinishing
  dsimp only
  split <;> simp [State.bin_setBin_ne, h]

theorem State.listSheet_bin_ne (s : State) {m n : Nat} (r : SheetRecord) (h : m ≠ n) : (s.listSheet n r).bin m = s.bin m := by
  have sent (p : Payload) : (s.queueFrame p).bin m = s.bin m := State.bin_congr (by simp) m
  unfold State.listSheet State.startFinishing
  dsimp only
  (repeat' split) <;> simp [State.bin_setBin_ne, State.openNewSet_bin_ne, h, sent]

/-- 10 R167: the last sheet of a set starts finishing. -/
def SheetRecord.listed (q : SheetRecord) (allowance : Nat) (b : Bin) : Bin :=
  if q.last then { b with state := .finishing, fin := true, finish := .running allowance } else b

theorem State.listed_bin (s : State) {n : Nat} (q : SheetRecord) (one : 1 ≤ n) (room : n ≤ s.exit.bins.length) :
    (if q.last then s.startFinishing n else s).bin n = q.listed s.prof.finishAllowance (s.bin n) := by
  unfold SheetRecord.listed
  split
  · exact s.bin_setBin _ one room
  · rfl

theorem State.openNewSet_bin (s : State) {n : Nat} (q : SheetRecord) (one : 1 ≤ n) (room : n ≤ s.exit.bins.length) :
    (s.openNewSet n q).bin n = q.listed s.prof.finishAllowance { s.bin n with
      state := .open, oversize := none, openSet := some { job := q.job, set := q.set, sheets := [q.setSheet] } } := by
  unfold State.openNewSet
  dsimp only
  rw [State.listed_bin _ q one (by rw [State.setBin_bins_length]; exact room), s.bin_setBin _ one room]
  simp [State.prof]

/-- 10 R165, R166, R167: what a delivery makes of the bin's set. -/
theorem State.listSheet_listedIn (s : State) {n : Nat} (q : SheetRecord) (one : 1 ≤ n) (room : n ≤ s.exit.bins.length) :
    q.listedIn s.prof.finishAllowance (s.bin n) ((s.listSheet n q).bin n) := by
  unfold SheetRecord.listedIn
  dsimp only
  refine ⟨fun empty mark => ?_, fun empty mark => ?_, fun o opened set => ⟨?_, ?_, ?_⟩, fun busy => ?_⟩
  · simp only [State.listSheet, empty, mark, beq_self_eq_true, if_true]
    split
    · rw [s.bin_setBin _ one room, empty]
    · rfl
  · simp only [State.listSheet, empty]
    rw [if_neg (by simpa using mark), s.openNewSet_bin q one room]
    rfl
  · intro job set' few
    have same : (o.job == q.job && o.set == q.set) = true := by simp [job, set']
    simp only [State.listSheet, opened, set, same, if_true]
    rw [if_neg (by simpa [Config.setListMax] using few),
      State.listed_bin _ q one (by rw [State.setBin_bins_length]; exact room), s.bin_setBin _ one room, opened]
    simp [State.prof, SheetRecord.listed, SheetRecord.setSheet]
  · intro job set' full
    have same : (o.job == q.job && o.set == q.set) = true := by simp [job, set']
    simp only [State.listSheet, opened, set, same, if_true]
    rw [if_pos (by simpa [Config.setListMax] using full), State.bin_setBin _ _ one (by simpa using room),
      State.bin_congr (s := s) (by simp)]
  · intro other
    have differs : (o.job == q.job && o.set == q.set) = false := by
      rcases other with h | h <;> simp [h]
    simp only [State.listSheet, opened, set, differs]
    rw [if_neg (by simp), State.openNewSet_bin _ q one (by simpa using room), State.bin_congr (s := s) (by simp)]
    simp [State.prof, SheetRecord.listed, SheetRecord.setSheet]
  · simp only [List.mem_cons, List.not_mem_nil, or_false] at busy
    rcases busy with h | h | h <;> simp [State.listSheet, h]

/-- 10 R166: the SET DONE of a set that a delivery closes. -/
theorem State.listSheet_setDone (s : State) (n : Nat) (q : SheetRecord) (o : OpenSet) (state : (s.bin n).state = .open)
    (set : (s.bin n).openSet = some o) (room : s.txRoom = true) :
    (o.job = q.job → o.set = q.set → 40 ≤ o.sheets.length →
      (s.listSheet n q).queued s.recovery.epoch (.setDone n o.job o.set .oversize)) ∧
    (o.job ≠ q.job ∨ o.set ≠ q.set → (s.listSheet n q).queued s.recovery.epoch (.setDone n o.job o.set .broken)) := by
  constructor
  · intro job set' full
    have same : (o.job == q.job && o.set == q.set) = true := by simp [job, set']
    simp only [State.listSheet, state, set, same, if_true]
    rw [if_pos (by simpa [Config.setListMax] using full)]
    exact (State.Adds.of rfl).sent room
  · intro other
    have differs : (o.job == q.job && o.set == q.set) = false := by
      rcases other with h | h <;> simp [h]
    simp only [State.listSheet, state, set, differs]
    rw [if_neg (by simp)]
    exact (State.Adds.openNewSet _ n q).sent room

/-! ### A delivery (10 R163, R165, R173) -/

theorem SheetRecord.purging_iff (r : SheetRecord) : r.purging = true ↔ r.purgeRouted = true ∨ r.fate = some .purge := by
  simp [SheetRecord.purging]

/-- 10 R163: the bin's part of a delivery into bin `n`. -/
def State.delivered (s : State) (x : Serial) (n : Nat) : State :=
  if n = 0 then s.addPurged 1
  else if s.isFinishing n then
    match s.record x with
    | some r => if r.purging then s else s.listSheet n r
    | none => s
  else s

theorem State.deliver_eq (s : State) (x : Serial) :
    s.deliver x = ((s.queueFrame (.delivered x s.diverterBin)).delivered x s.diverterBin).divertForSheet := by
  have finishing (p : Payload) (n : Nat) : (s.queueFrame p).isFinishing n = s.isFinishing n := by
    simp [State.isFinishing, State.prof]
  have record (p : Payload) : (s.queueFrame p).record x = s.record x := by simp [State.record]
  unfold State.deliver State.delivered
  simp only [finishing, record] <;> rfl

theorem State.delivered_adds (s : State) (x : Serial) (n : Nat) : s.Adds (s.delivered x n) := by
  unfold State.delivered
  split
  · exact .of (by simp)
  · split
    · split
      · split
        · exact .refl s
        · exact State.Adds.listSheet s n _
      · exact .refl s
    · exact .refl s

theorem State.deliver_sent (s : State) (x : Serial) : (s.queueFrame (.delivered x s.diverterBin)).Adds (s.deliver x) := by
  rw [State.deliver_eq]
  exact (State.delivered_adds _ x s.diverterBin).to (by simp)

theorem State.delivered_purgeCount (s : State) (x : Serial) (n : Nat) : (s.delivered x n).exit.purgeCount =
    if n = 0 then min (s.exit.purgeCount + 1) s.prof.purgeCapacity else s.exit.purgeCount := by
  unfold State.delivered
  split
  · rfl
  · (repeat' split) <;> simp

theorem State.delivered_bin_ne (s : State) (x : Serial) {m n : Nat} (h : m ≠ n) : (s.delivered x n).bin m = s.bin m := by
  unfold State.delivered
  split
  · rfl
  · (repeat' split) <;> simp [State.listSheet_bin_ne, h]

theorem State.addPurged_bin (s : State) (k n : Nat) : (s.addPurged k).bin n = s.bin n := rfl

theorem State.delivered_unfinished {s : State} {n : Nat} (h : s.isFinishing n = false) (x : Serial) :
    (s.delivered x n).bin n = s.bin n := by
  unfold State.delivered
  split
  · rfl
  · rw [if_neg (by simp [h])]

theorem State.delivered_purged {s : State} {x : Serial} (h : ∀ q, s.record x = some q → q.purging = true) (n : Nat) :
    (s.delivered x n).bin n = s.bin n := by
  unfold State.delivered
  split
  · rfl
  · split
    · split
      · rename_i q found
        rw [if_pos (h q found)]
      · rfl
    · rfl

theorem State.isFinishing_one {s : State} {n : Nat} (h : s.isFinishing n = true) : 1 ≤ n := by
  have : n ≠ 0 := by
    rintro rfl
    simp [State.isFinishing] at h
  omega

theorem State.delivered_listed {s : State} {x : Serial} {n : Nat} {q : SheetRecord} (finishing : s.isFinishing n = true)
    (record : s.record x = some q) (kept : q.purging = false) : s.delivered x n = s.listSheet n q := by
  have one := State.isFinishing_one finishing
  unfold State.delivered
  rw [if_neg (by omega), if_pos finishing, record]
  simp [kept]

theorem State.diverterBin_le (s : State) : s.diverterBin ≤ 3 := by
  unfold State.diverterBin
  split <;> split <;> omega

end Sys2Proof.Machine
end

section
/-! PROOFS. The uncovers of the zone sensors, settled (O22, O23). -/

namespace Sys2Proof.Machine

/-! ### An attributed uncover (05 R80, R83) -/

theorem State.isShort_iff (s : State) (k : Nat) (e : Entry) : s.isShort k e = true ↔ s.comesShort k e := by
  unfold State.isShort State.comesShort SheetRecord.runout
  by_cases runout : s.path = .runout
  · cases record : s.record e.serial with
    | none => simp [runout]
    | some r => simp [runout, and_comm, or_assoc]
  · simp [runout]

/-- 05 R83: the SHORT of an uncover that comes too early. -/
def State.shortTest (s : State) (k : Nat) (e : Entry) : State := if s.isShort k e then s.detect .short k (some e.serial) else s

theorem State.shortTest_adds (s : State) (k : Nat) (e : Entry) : s.Adds (s.shortTest k e) := by
  unfold State.shortTest
  split
  · exact State.Adds.detect s _ _ _
  · exact .refl s

@[simp] theorem State.shortTest_frame (s : State) (k : Nat) (e : Entry) : let t := s.shortTest k e
    OuterKept s t ∧ LinkInKept s t ∧ t.table = s.table ∧ t.roster = s.roster ∧ t.track = s.track ∧ t.handoff = s.handoff ∧
      t.feed = s.feed ∧ t.imaging = s.imaging ∧ t.exit = s.exit ∧ t.drive = s.drive ∧ t.recovery = s.recovery := by
  unfold State.shortTest
  split <;> simp

theorem State.shortTest_jam {s : State} {k : Nat} {e : Entry} (short : s.comesShort k e) (claim : s.canClaim) :
    (s.shortTest k e).jamQueued .short k (some e.serial) := by
  rw [State.shortTest, if_pos ((s.isShort_iff k e).mpr short)]
  exact s.detect_jamQueued _ _ _ claim

theorem State.shortTest_timely {s : State} {k : Nat} {e : Entry} (h : ¬ s.comesShort k e) : s.shortTest k e = s := by
  rw [State.shortTest, if_neg (mt (s.isShort_iff k e).mp h)]

/-- A free slot takes the JAM, and the transmit queue keeps its room. -/
theorem State.shortTest_queue {s : State} (slot : s.link.slot = none) (k : Nat) (e : Entry) :
    (s.shortTest k e).link.queue = s.link.queue := by
  unfold State.shortTest State.detect State.queueJam
  dsimp only
  split
  · simp [slot]
  · rfl

theorem State.uncoverSensor_uncovers {s : State} {k : Nat} {e : Entry} (attributes : s.attributes = true)
    (found : s.uncoverEntry k = some e) :
    s.uncoverSensor k = if k = s.lastSensor then
      State.occupancyChanged s (((s.shortTest k e).uncoverTrack k e).departure e.serial)
      else (s.shortTest k e).uncoverTrack k e := by
  simp only [State.uncoverSensor, attributes, found, if_true]
  rfl

theorem exec_uncover (s : State) (k r : Nat) (due : s.edgeDue (.sensor k) false r) :
    exec (.sensorUncover k) s = .next (((s.atEdge (.sensor k) false r).uncoverSensor k).throatCleared k) :=
  congrArg Host.Outcome.next (s.settle_edge _ _ _ _ due)

theorem State.throatCleared_link (s : State) (k : Nat) : (s.throatCleared k).link = s.link := by simp

/-- Settles O22. -/
theorem uncoverMovesTrail : Obligations.UncoverMovesTrail := by
  unfold Obligations.UncoverMovesTrail
  intro s k r e pre post due u z attributes notLast queue trail lead others
  have found : u.uncoverEntry k = some e := by
    rw [State.uncoverEntry, queue]
    refine find?_split _ e pre post (by simp [trail, lead]) fun f hf => ?_
    rcases others f hf with h | h
    · simp [h]
    · simp [h]
  have moved : u.uncoverSensor k = (u.shortTest k e).uncoverTrack k e := by
    rw [State.uncoverSensor_uncovers attributes found, if_neg notLast]
  have last : ¬ k = (u.shortTest k e).lastSensor := by
    simpa [State.lastSensor, State.prof] using notLast
  have tracked : ((u.shortTest k e).uncoverTrack k e).track.queue = changeFirst
      (fun f => f.trailSensor == k && k ≤ f.leadZone) (u.trailTo (k + 1)) u.track.queue := by
    have same : (u.shortTest k e).trailTo (k + 1) = u.trailTo (k + 1) := by
      funext f
      simp [State.trailTo, State.zone, State.prof, State.path]
    simp only [State.uncoverTrack, if_neg last, same, State.shortTest_frame]
  have split : changeFirst (fun f => f.trailSensor == k && k ≤ f.leadZone) (u.trailTo (k + 1)) u.track.queue =
      pre ++ u.trailTo (k + 1) e :: post := by
    rw [queue]
    refine changeFirst_split _ _ e post (by simp [trail, lead]) pre fun f hf => ?_
    rcases others f hf with h | h
    · simp [h]
    · simp [h]
  refine ⟨(u.uncoverSensor k).throatCleared k, exec_uncover s k r due, ?_, ?_, ?_, by simp [State.sameReception],
    by simp [State.sameSetup], ?_, ?_, by simp⟩
  · rw [moved]
    simp only [State.throatCleared_frame, tracked, split]
    simp [State.trailTo, z]
  · intro short claim
    rw [moved]
    refine State.Adds.jamQueued (.of ?_) (State.shortTest_jam short claim)
    simp
  · intro timely
    rw [moved, State.shortTest_timely timely]
    simp
  · rw [moved]
    exact State.eq_of_blocks (by simp)
  · rw [moved]
    simp

/-! ### The last sensor: the departure -/

/-- 10 R170: no ejection starts where no set is to be ejected. -/
theorem State.ejectStart_none {s : State} (h : s.path = .runout → ∀ f ∈ s.recovery.fates.forfeited, f.eject = false) :
    s.ejectStart = s := by
  by_cases runout : s.path = .runout
  · have unforfeited (n : Nat) : ((s.forfeitedSet n).any fun f => f.eject && !f.complete) = false := by
      unfold State.forfeitedSet
      split
      · rfl
      · rename_i o _
        cases found : s.recovery.fates.forfeited.find? fun f =>
            f.exit == s.own && f.bin == n && f.job == o.job && f.set == o.set && !f.ejected with
        | none => rfl
        | some f => simp [h runout f (List.mem_of_find?_eq_some found)]
    have none : s.ejectable = none := by
      unfold State.ejectable
      split
      · rw [List.find?_eq_none]
        simp [unforfeited]
      · rfl
    simp [State.ejectStart, none]
  · exact State.ejectStart_away runout

/-- A queue change leaves EXIT as it is where no ejection starts. -/
theorem State.occupancyChanged_exit {b s : State}
    (h : s.path = .runout → ∀ f ∈ s.recovery.fates.forfeited, f.eject = false) :
    (State.occupancyChanged b s).exit = s.exit := by
  unfold State.occupancyChanged
  dsimp only
  rw [State.ejectStart_none]
  · simp
  · intro path f hf
    refine h ?_ f (by simpa using hf)
    simpa [State.path, State.needTest_away] using path

/-- 05 R80: the station once the departing entry has left the queue and the blocks it concerns have been told. -/
def State.departed (s : State) (k : Nat) (e : Entry) : State :=
  ((s.shortTest k e).uncoverTrack k e).departure e.serial

theorem State.departed_places (s : State) {k : Nat} (e : Entry) (last : k = s.lastSensor) :
    (s.departed k e).track.queue.map (·.serial) = (s.track.queue.map (·.serial)).filter (· != e.serial) := by
  have last' : k = (s.shortTest k e).lastSensor := by
    simpa [State.lastSensor, State.prof] using last
  have places := places_of_motion (((s.shortTest k e).uncoverTrack k e).departure_motion e.serial)
  have serials := congrArg (List.map (·.1)) places
  simp only [List.map_map, Function.comp_def, Entry.place] at serials
  rw [State.departed, serials, State.uncoverTrack, if_pos last', List.filter_map]
  simp [State.shortTest_frame, Function.comp_def]

theorem State.occupancyChanged_serials (b s : State) :
    (State.occupancyChanged b s).track.queue.map (·.serial) = s.track.queue.map (·.serial) := by
  have serials := congrArg (List.map (·.1)) (State.occupancyChanged_places b s)
  simpa only [List.map_map, Function.comp_def, Entry.place] using serials

theorem State.departed_delivers {s : State} (exit : s.hasRole .exit = true) (moving : movingPath s.path = true) (k : Nat)
    (e : Entry) : s.departed k e = ((s.shortTest k e).uncoverTrack k e).deliver e.serial := by
  have moving' : movingPath ((s.shortTest k e).uncoverTrack k e).path = true := by
    simpa [State.path] using moving
  have exit' : ((s.shortTest k e).uncoverTrack k e).hasRole .exit = true := by
    simpa [State.hasRole, State.prof] using exit
  rw [State.departed, State.departure, if_pos moving', if_pos exit']

theorem State.departed_stopping {s : State} (path : s.path = .stopping) (k : Nat) (e : Entry) :
    s.departed k e = (s.shortTest k e).uncoverTrack k e := by
  have still : ¬ movingPath ((s.shortTest k e).uncoverTrack k e).path = true := by
    have : ((s.shortTest k e).uncoverTrack k e).path = .stopping := by
      simpa [State.path] using path
    simp [this, movingPath]
  rw [State.departed, State.departure, if_neg still]

/-- 10 R163: the state that the delivery's effect on the bins starts from. -/
def State.deliverySent (s : State) (k : Nat) (e : Entry) : State :=
  ((s.shortTest k e).uncoverTrack k e).queueFrame (.delivered e.serial s.diverterBin)

@[simp] theorem State.deliverySent_frame (s : State) (k : Nat) (e : Entry) : let t := s.deliverySent k e
    OuterKept s t ∧ LinkInKept s t ∧ t.table = s.table ∧ t.roster = s.roster ∧ t.exit = s.exit ∧ t.drive = s.drive ∧
      t.recovery = s.recovery := by
  simp [State.deliverySent]

theorem State.departed_eq {s : State} (exit : s.hasRole .exit = true) (moving : movingPath s.path = true) (k : Nat) (e : Entry) :
    s.departed k e = ((s.deliverySent k e).delivered e.serial s.diverterBin).divertForSheet := by
  have bin : ((s.shortTest k e).uncoverTrack k e).diverterBin = s.diverterBin := by
    simp [State.diverterBin]
  rw [State.departed_delivers exit moving, State.deliver_eq, bin]
  rfl

/-- 10 R163, R165, R166, R173: EXIT after the delivery, where no ejection starts. -/
theorem State.departed_exit {s b : State} (exit : s.hasRole .exit = true) (moving : movingPath s.path = true)
    (noEjection : s.path = .runout → ∀ f ∈ s.recovery.fates.forfeited, f.eject = false) (k : Nat) (e : Entry) :
    (State.occupancyChanged b (s.departed k e)).exit = ((s.deliverySent k e).delivered e.serial s.diverterBin).exit := by
  have frame : (s.departed k e).recovery = s.recovery := by simp [State.departed]
  rw [State.occupancyChanged_exit]
  · rw [State.departed_eq exit moving]
    simp
  · simpa [State.path, frame] using noEjection

/-- 10 R165, R166, R167: the delivery of a listed sheet into a finishing bin. -/
theorem State.deliverySent_lists {s : State} {k : Nat} {e : Entry} {q : SheetRecord} {n : Nat}
    (finishing : s.isFinishing n = true) (record : s.record e.serial = some q) (routed : q.purgeRouted = false)
    (fate : q.fate ≠ some .purge) : (s.deliverySent k e).delivered e.serial n = (s.deliverySent k e).listSheet n q := by
  refine State.delivered_listed ?_ ?_ ?_
  · simpa [State.isFinishing, State.prof] using finishing
  · simpa [State.record] using record
  · simpa [routed, fate] using (Bool.eq_false_iff.mpr fun h => (q.purging_iff.mp h).elim (by simp [routed]) fate : q.purging = false)

/-- 10 R163: DELIVERED waits in the transmit queue. -/
theorem State.departed_sent {s : State} (exit : s.hasRole .exit = true) (moving : movingPath s.path = true)
    (slot : s.link.slot = none) (room : s.txRoom = true) (k : Nat) (e : Entry) :
    (s.departed k e).queued s.recovery.epoch (.delivered e.serial s.diverterBin) := by
  rw [State.departed_eq exit moving]
  have adds : (s.deliverySent k e).Adds ((s.deliverySent k e).delivered e.serial s.diverterBin).divertForSheet :=
    (State.delivered_adds _ e.serial s.diverterBin).to (by simp)
  have room' : ((s.shortTest k e).uncoverTrack k e).txRoom = true := by
    simpa [State.txRoom, State.shortTest_queue slot] using room
  simpa using adds.sent room'

/-- 10 R166: the SET DONE of the set that the delivery closes. -/
theorem State.departed_setDone {s : State} {q : SheetRecord} {o : OpenSet} (exit : s.hasRole .exit = true)
    (moving : movingPath s.path = true) (finishing : s.isFinishing s.diverterBin = true) (k : Nat) (e : Entry)
    (record : s.record e.serial = some q) (routed : q.purgeRouted = false) (fate : q.fate ≠ some .purge)
    (state : (s.bin s.diverterBin).state = .open) (set : (s.bin s.diverterBin).openSet = some o)
    (room : s.link.queue.length < 7) (slot : s.link.slot = none) :
    (o.job = q.job → o.set = q.set → 40 ≤ o.sheets.length →
      (s.departed k e).queued s.recovery.epoch (.setDone s.diverterBin o.job o.set .oversize)) ∧
    (o.job ≠ q.job ∨ o.set ≠ q.set → (s.departed k e).queued s.recovery.epoch (.setDone s.diverterBin o.job o.set .broken)) := by
  have txRoom : (s.deliverySent k e).txRoom = true := by
    refine State.txRoom_queueFrame _ _ ?_
    rw [show ((s.shortTest k e).uncoverTrack k e).link = (s.shortTest k e).link by simp, State.shortTest_queue slot]
    exact room
  have same : (s.deliverySent k e).bin s.diverterBin = s.bin s.diverterBin :=
    State.bin_congr (by simp) _
  have closed := (s.deliverySent k e).listSheet_setDone s.diverterBin q o (by rw [same]; exact state) (by rw [same]; exact set) txRoom
  have adds : ((s.deliverySent k e).listSheet s.diverterBin q).Adds (s.departed k e) := by
    rw [State.departed_eq exit moving, State.deliverySent_lists finishing record routed fate]
    exact .of (by simp)
  have epoch : (s.deliverySent k e).recovery.epoch = s.recovery.epoch := by simp
  rw [epoch] at closed
  exact ⟨fun job set full => adds.queued (closed.1 job set full), fun other => adds.queued (closed.2 other)⟩

/-- Settles O23. -/
theorem lastUncoverIsDeparture : Obligations.LastUncoverIsDeparture := by
  unfold Obligations.LastUncoverIsDeparture
  intro s k r e due u n delivers noEjection attributes last found
  have left : u.uncoverSensor k = State.occupancyChanged u (u.departed k e) := by
    rw [State.uncoverSensor_uncovers attributes found, if_pos last]
    rfl
  have told : (u.departed k e).Adds ((u.uncoverSensor k).throatCleared k) := by
    rw [left]
    exact (State.Adds.occupancyChanged u _).to (by simp)
  have short : (u.shortTest k e).Adds (u.departed k e) := (State.Adds.departure _ e.serial).from (by simp)
  have exitOf (d : delivers) (no : noEjection) :
      ((u.uncoverSensor k).throatCleared k).exit = ((u.deliverySent k e).delivered e.serial n).exit := by
    rw [left]
    simpa [n] using State.departed_exit d.1 d.2 no k e
  have binOf (d : delivers) (no : noEjection) (m : Nat) :
      ((u.uncoverSensor k).throatCleared k).bin m = ((u.deliverySent k e).delivered e.serial n).bin m :=
    State.bin_congr (by rw [exitOf d no]) m
  have same (m : Nat) : (u.deliverySent k e).bin m = u.bin m := State.bin_congr (by simp) m
  refine ⟨(u.uncoverSensor k).throatCleared k, exec_uncover s k r due, ?_, ?_, ?_, ?_, ?_, ?_, by simp, by simp, by simp,
    by simp [State.sameReception], by simp [State.sameSetup]⟩
  · rw [left]
    simp only [State.throatCleared_frame, State.occupancyChanged_serials, State.departed_places u e last]
  · intro comes claim
    exact told.jamQueued (short.jamQueued (State.shortTest_jam comes claim))
  · intro d room slot
    exact told.queued (State.departed_sent d.1 d.2 slot room k e)
  · intro d no
    rw [exitOf d no, State.delivered_purgeCount]
    simp [State.deliverySent_frame, State.prof]
  · intro d no
    refine ⟨fun m hm => ?_, fun unfinished => ?_, fun purged => ?_, fun q finishing record routed fate => ⟨fun shape => ?_, ?_⟩⟩
    · rw [binOf d no, State.delivered_bin_ne _ _ hm, same]
    · rw [binOf d no, State.delivered_unfinished _ _, same]
      simpa [State.isFinishing, State.prof] using unfinished
    · rw [binOf d no, State.delivered_purged _ n, same]
      intro q record
      exact q.purging_iff.mpr (purged q (by simpa [State.record] using record))
    · have bins : n ≤ (u.deliverySent k e).exit.bins.length := by
        obtain ⟨-, -, -, -, threeBins, -⟩ := shape
        have three : u.exit.bins.length = 3 := by simpa [u, State.atEdge, State.elapse, State.passExit] using threeBins
        simpa [three] using u.diverterBin_le
      have listed := (u.deliverySent k e).listSheet_listedIn q (State.isFinishing_one finishing) bins
      rw [binOf d no, State.deliverySent_lists finishing record routed fate, ← same n]
      simpa [State.prof] using listed
    · intro o state set room slot
      obtain ⟨oversize, broken⟩ :=
        State.departed_setDone d.1 d.2 finishing k e record routed fate state set room slot
      exact ⟨fun job set' full => told.queued (oversize job set' full), fun other => told.queued (broken other)⟩
  · intro path
    have stopped : State.occupancyChanged u (u.departed k e) = (u.departed k e).gateFollow :=
      State.occupancyChanged_stopping (by rw [State.departed_stopping path]; simpa [State.path] using path)
    rw [left, stopped, State.departed_stopping path]
    refine ⟨by simp, fun timely => ?_⟩
    rw [State.shortTest_timely timely]
    simp

end Sys2Proof.Machine
end

section
/-! PROOFS. DRDY and the door (O24, O25). -/

namespace Sys2Proof.Machine

/-! ### A claim holds the line low (02 R37) -/

theorem State.pulling_of_jamQueued {s : State} {k : JamKind} {zone : Nat} {x : Option Serial} (h : s.jamQueued k zone x) :
    s.pulling = true := by
  obtain ⟨f, payload, slot | waits⟩ := h
  · simp [State.pulling, slot]
  · have jam : f.payload.isJam = true := by rw [payload]; rfl
    simp only [State.pulling, Bool.or_eq_true, List.any_eq_true]
    exact .inr ⟨f, waits, jam⟩

theorem State.low_of_jamQueued {s : State} {k : JamKind} {zone : Nat} {x : Option Serial} (h : s.jamQueued k zone x) :
    s.lineIsLow = true := by
  simp [State.lineIsLow, State.pulling_of_jamQueued h]

theorem State.surveyTest_low {s : State} (h : s.lineIsLow = true) : s.surveyTest = s := by simp [State.surveyTest, h]

theorem State.spinTest_low {s : State} (h : s.lineIsLow = true) : s.spinTest = s := by simp [State.spinTest, h]

theorem State.spinTest_open {s : State} (h : s.reads .door = true) : s.spinTest = s := by simp [State.spinTest, h]

/-! ### The drive (04 R61..R65) -/

theorem State.driveOff_drive (s : State) : s.driveOff.drive.state = .off ∧ s.driveOff.drive.halt = .stopped := by
  unfold State.driveOff
  simp

theorem State.spinTest_drive (s : State) (off : s.drive.state = .off) :
    s.spinTest.drive.state = .off ∧ s.spinTest = s ∨
      s.spinTest.drive.state = .spinning ∧ s.spinTest.drive.spin = .running 300 ∧ s.spinTest.drive.fresh = s.reads .drdy := by
  unfold State.spinTest
  dsimp only
  split
  · exact .inr (by simp [Config.spinMs])
  · exact .inl ⟨off, rfl⟩

/-- 04 R61: the conditions of a spin hold. -/
theorem State.spinTest_spins {s : State} (off : s.drive.state = .off) (request : s.driveRequest = true)
    (released : s.lineIsLow = false) (door : s.reads .door = false) :
    s.spinTest.drive.state = .spinning ∧ s.spinTest.drive.spin = .running 300 ∧ s.spinTest.drive.fresh = s.reads .drdy := by
  unfold State.spinTest
  dsimp only
  rw [if_pos (by simp [off, request, released, door])]
  simp [Config.spinMs]

theorem State.driveSync_off {s : State} (off : s.drive.state = .off) : s.driveSync = s.spinTest := by
  simp [State.driveSync, off]

theorem State.driveHalt_drdy {s : State} (h : s.reads .drdy = true) :
    s.driveHalt.drive.state = .halting ∧ s.driveHalt.drive.spin = .stopped ∧ s.driveHalt.drive.halt = .running 150 := by
  unfold State.driveHalt
  dsimp only
  rw [if_pos h]
  simp [Config.haltMs]

/-- 04 R64: a halt that is over at once, with the line held low by a claim. -/
theorem State.driveHalt_low {s : State} (drdy : s.reads .drdy = false) (h : s.pulling = true) :
    s.driveHalt.drive.state = .off ∧ s.driveHalt.drive.spin = .stopped ∧ s.driveHalt.drive.halt = .stopped := by
  have low {t : State} (adds : s.Adds t) : t.lineIsLow = true := by
    simp only [State.pulling, Bool.or_eq_true, List.any_eq_true] at h
    simp only [State.lineIsLow, State.pulling, Bool.or_eq_true, List.any_eq_true]
    rcases h with slot | ⟨f, mem, jam⟩
    · obtain ⟨f, hf⟩ := Option.isSome_iff_exists.mp slot
      exact .inr (.inl (by simp [adds.slot f hf]))
    · exact .inr (.inr ⟨f, adds.queue.subset mem, jam⟩)
  let u : State := { s.endPick with
    drive.state := .halting, drive.spin := .stopped, drive.fresh := false, drive.halt := .running Config.haltMs }
  have halt : s.driveHalt = u.reevaluate.driveOff.spinTest := by
    unfold State.driveHalt
    dsimp only
    rw [if_neg (by simp [drdy])]
  have adds : s.Adds u.reevaluate.driveOff := ((State.Adds.reevaluate u).trans (.driveOff _)).from rfl
  rw [halt, State.spinTest_low (low adds)]
  exact ⟨(State.driveOff_drive _).1, by simp [u], (State.driveOff_drive _).2⟩

theorem State.den_off {s : State} (spinning : s.drive.state ≠ .spinning) (running : s.drive.state ≠ .running) :
    s.den = false := by
  simp [State.den, spinning, running]

/-- 03 R55, 05 R93, 11 R189, R190: the entry to RUN from RESUMING. -/
theorem State.runFromResuming_run (s : State) :
    s.runFromResuming.recovery.path = .run ∧ s.runFromResuming.track.attributing = true ∧
      s.runFromResuming.table = { s.table with presence := .running 200 } := by
  unfold State.runFromResuming
  dsimp only
  simp [Config.presenceMs]

/-- 04 R62: the drive runs; in RESUMING the station enters RUN. -/
theorem State.driveRunning_runs (s : State) :
    s.driveRunning.drive.state = .running ∧ s.driveRunning.drive.spin = .stopped ∧
      s.driveRunning.recovery.path = (if s.path = .resuming then .run else s.path) ∧
      s.driveRunning.track.attributing = (s.path == .resuming || s.track.attributing) ∧
      s.driveRunning.table = if s.path = .resuming then { s.table with presence := .running 200 } else s.table := by
  let t : State := { s with drive.state := .running, drive.spin := .stopped }
  by_cases resuming : s.path = .resuming
  · have runs : s.driveRunning = t.runFromResuming := if_pos (beq_iff_eq.mpr resuming)
    obtain ⟨path, attributing, table⟩ := t.runFromResuming_run
    rw [runs, path, attributing, table]
    simp [resuming, t]
  · have runs : s.driveRunning = t.reevaluate.pickTest := if_neg (mt beq_iff_eq.mp resuming)
    have resuming' : s.recovery.path ≠ .resuming := resuming
    rw [runs]
    simp [resuming', t, State.path]

theorem State.drdyRisen_acknowledges {s : State} (spinning : s.drive.state = .spinning) (fresh : s.drive.fresh = false) :
    s.drdyRisen = s.driveRunning := by
  simp [State.drdyRisen, spinning, fresh]

theorem State.drdyRisen_other {s : State} (h : s.drive.state ≠ .spinning ∨ s.drive.fresh = true) : s.drdyRisen = s := by
  unfold State.drdyRisen
  rw [if_neg]
  rcases h with h | h <;> simp [h]

theorem exec_drdyRise (s : State) (r : Nat) (due : s.edgeDue .drdy true r) :
    exec .drdyRise s = .next (s.atEdge .drdy true r).drdyRisen := congrArg Host.Outcome.next (s.settle_edge _ _ _ _ due)

theorem exec_drdyFall (s : State) (r : Nat) (due : s.edgeDue .drdy false r) :
    exec .drdyFall s = .next (s.atEdge .drdy false r).drdyFallen := congrArg Host.Outcome.next (s.settle_edge _ _ _ _ due)

/-- Settles O24. -/
theorem drdyEdgesByDriveState : Obligations.DrdyEdgesByDriveState := by
  unfold Obligations.DrdyEdgesByDriveState
  refine ⟨fun s r due => ?_, fun s r due => ?_⟩
  · intro u
    refine ⟨fun spinning fresh => ?_, fun other => ?_⟩
    · obtain ⟨state, spin, path, attributing, table⟩ := u.driveRunning_runs
      refine ⟨u.driveRunning, ?_, state, spin, by simp, path, attributing, table, by simp, by simp [State.sameReception],
        by simp [State.sameSetup]⟩
      rw [exec_drdyRise s r due, State.drdyRisen_acknowledges spinning fresh]
    · rw [exec_drdyRise s r due, State.drdyRisen_other other]
  · intro u
    have fall := exec_drdyFall s r due
    have low : u.reads .drdy = false := by simp [u, State.reads, State.atEdge, Inputs.line, Inputs.setLine]
    refine ⟨fun off => ?_, fun spinning => ?_, fun running claim => ?_, fun halting => ?_⟩
    · rw [fall]
      simp [State.drdyFallen, u, show (s.atEdge .drdy false r).drive.state = .off from off]
    · rw [fall]
      simp [State.drdyFallen, u, show (s.atEdge .drdy false r).drive.state = .spinning from spinning]
    · have fallen : u.drdyFallen = u.detectDrive.driveHalt := by simp [State.drdyFallen, running]
      have jam : u.detectDrive.jamQueued .drive 0 none := (State.Adds.of rfl).detected claim
      have drdy : u.detectDrive.reads .drdy = false := by simpa [State.reads] using low
      obtain ⟨off, spin, halt⟩ := State.driveHalt_low drdy (State.pulling_of_jamQueued jam)
      refine ⟨u.drdyFallen, fall, ?_⟩
      rw [fallen]
      exact ⟨off, spin, halt, State.den_off (by simp [off]) (by simp [off]), (State.Adds.driveHalt _).jamQueued jam,
        (State.driveHalt_idle _).2.1, by simp, by simp, by simp [State.sameReception]⟩
    · have fallen : u.drdyFallen = u.driveOff.spinTest := by simp [State.drdyFallen, halting]
      refine ⟨u.drdyFallen, fall, ?_⟩
      rw [fallen]
      refine ⟨by simpa using u.driveOff_drive.2, ?_, by simp, by simp, by simp, by simp, by simp [State.sameReception]⟩
      rcases u.driveOff.spinTest_drive u.driveOff_drive.1 with ⟨off, -⟩ | ⟨spinning, spin, -⟩
      · exact .inl off
      · exact .inr ⟨spinning, spin⟩

/-! ### The door opens (04 R65, R70) -/

/-- 04 R65: with the door open no spin follows the halt. -/
theorem State.driveHalt_open {s : State} (door : s.reads .door = true) :
    s.driveHalt.drive.state = .halting ∨ s.driveHalt.drive.state = .off := by
  unfold State.driveHalt
  dsimp only
  split
  · simp
  · refine .inr ?_
    rw [State.spinTest_open (by simpa [State.reads] using door)]
    exact (State.driveOff_drive _).1

theorem State.driveForcedOff_turning {s : State} (door : s.reads .door = true)
    (turning : s.drive.state = .spinning ∨ s.drive.state = .running) :
    s.driveForcedOff.drive.state = .halting ∨ s.driveForcedOff.drive.state = .off := by
  have halts : s.driveForcedOff = s.driveHalt := by
    rcases turning with h | h <;> simp [State.driveForcedOff, h]
  rw [halts]
  exact State.driveHalt_open door

theorem State.driveForcedOff_still {s : State} (h : s.drive.state = .off ∨ s.drive.state = .halting) :
    s.driveForcedOff = s := by
  rcases h with h | h <;> simp [State.driveForcedOff, h]

/-- 04 R70: the part of a door open before the drive's. -/
def State.doorOpenTold (s : State) : State :=
  match s.path with
  | .run | .runout | .plan | .resuming => s.detect .door 0 none
  | .clearance => ({ s with recovery.clearFlag := false } : State).queueReady
  | _ => s

theorem State.doorOpened_eq (s : State) : s.doorOpened = s.doorOpenTold.driveForcedOff := by
  unfold State.doorOpened State.doorOpenTold
  generalize s.path = p
  cases p <;> rfl

theorem State.doorOpenTold_frame (s : State) : s.doorOpenTold.drive = s.drive ∧ s.doorOpenTold.inputs = s.inputs := by
  unfold State.doorOpenTold
  split <;> simp

theorem exec_doorOpen (s : State) (r : Nat) (due : s.edgeDue .door true r) :
    exec .doorOpen s = .next (s.atEdge .door true r).doorOpened := congrArg Host.Outcome.next (s.settle_edge _ _ _ _ due)

theorem exec_doorClose (s : State) (r : Nat) (due : s.edgeDue .door false r) :
    exec .doorClose s = .next (s.atEdge .door false r).doorClosed := congrArg Host.Outcome.next (s.settle_edge _ _ _ _ due)

/-- O25, the door open. -/
theorem doorOpenByPathState (s : State) (r : Nat) (due : s.edgeDue .door true r) :
    let u := s.atEdge .door true r
    ∃ t, exec .doorOpen s = .next t ∧
      (u.path ∈ [PathState.run, .runout, .plan, .resuming] → u.canClaim → t.jamQueued .door 0 none) ∧
      (u.path = .clearance → t.recovery.clearFlag = false) ∧
      (u.drive.state = .spinning ∨ u.drive.state = .running → t.drive.state = .halting ∨ t.drive.state = .off) ∧
      (u.drive.state = .off ∨ u.drive.state = .halting → t.drive = u.drive) ∧
      t.drive.gate = u.drive.gate ∧ t.drive.gateHeld = u.drive.gateHeld ∧
      t.roster = u.roster ∧ t.table = u.table ∧ t.imaging = u.imaging ∧ t.exit = u.exit ∧ State.sameReception u t ∧
      State.sameSetup u t := by
  intro u
  have door : u.reads .door = true := by simp [u, State.reads, State.atEdge, Inputs.line, Inputs.setLine]
  have door' : u.doorOpenTold.reads .door = true := by simpa [State.reads, State.doorOpenTold_frame] using door
  refine ⟨u.doorOpened, exec_doorOpen s r due, ?_, ?_, ?_, ?_, by simp, by simp, by simp, by simp, by simp, by simp,
    by simp [State.sameReception], by simp [State.sameSetup]⟩
  · intro path claim
    have told : u.doorOpenTold = u.detect .door 0 none := by
      simp only [List.mem_cons, List.not_mem_nil, or_false] at path
      rcases path with h | h | h | h <;> simp [State.doorOpenTold, h]
    rw [State.doorOpened_eq, told]
    exact (State.Adds.driveForcedOff _).detected claim
  · intro path
    rw [State.doorOpened_eq]
    simp [State.doorOpenTold, path]
  · intro turning
    rw [State.doorOpened_eq]
    exact State.driveForcedOff_turning door' (by rw [u.doorOpenTold_frame.1]; exact turning)
  · intro still
    rw [State.doorOpened_eq, State.driveForcedOff_still (by rw [u.doorOpenTold_frame.1]; exact still)]
    exact u.doorOpenTold_frame.1

/-! ### The clear flag and READY (11 R177, R181) -/

theorem State.evaluateReady_clearFlag (s : State) : s.evaluateReady.recovery.clearFlag = s.evaluateClear := by
  simp [State.evaluateReady]

theorem State.evaluateClear_congr {s t : State} (profile : t.profile = s.profile) (inputs : t.inputs = s.inputs)
    (roster : t.roster = s.roster) (queue : t.track.queue = s.track.queue) (strays : t.track.strays = s.track.strays)
    (exit : t.exit = s.exit) (fates : t.recovery.fates = s.recovery.fates)
    (revisions : t.recovery.revisions = s.recovery.revisions) (line : t.lineIsLow = s.lineIsLow) :
    t.evaluateClear = s.evaluateClear := by
  have awaiting : t.awaitingRemoval = s.awaitingRemoval := by
    funext n
    simp [State.awaitingRemoval, State.isFinishing, State.reads, State.bin, State.own, State.prof, profile, inputs, exit, fates]
  have covered : t.covered = s.covered := by funext k; simp [State.covered, State.reads, inputs]
  have flag : t.strayFlag = s.strayFlag := by funext k; simp [State.strayFlag, strays]
  have unknown : t.ownUnknown = s.ownUnknown := by
    simp [State.ownUnknown, State.revisedZones, State.own, State.prof, profile, fates, revisions]
  have record : t.record = s.record := by funext x; simp [State.record, roster]
  have zones : t.zones = s.zones := by simp [State.zones, State.lastSensor, State.prof, profile]
  have bins : t.binNumbers = s.binNumbers := by simp [State.binNumbers, State.prof, profile]
  unfold State.evaluateClear
  simp [awaiting, covered, flag, unknown, record, zones, bins, State.reads, inputs, queue, line]

/-- A frame that finds room and is no JAM leaves the level of the line. -/
theorem State.lineIsLow_queueFrame (s : State) (p : Payload) (room : s.txRoom = true) (kind : p.isJam = false) :
    (s.queueFrame p).lineIsLow = s.lineIsLow := by
  rw [s.queueFrame_room p room]
  simp [State.lineIsLow, State.pulling, State.pushTx, kind]

theorem State.sendReady_line (s : State) (room : s.txRoom = true) : s.sendReady.lineIsLow = s.lineIsLow := by
  unfold State.sendReady
  split
  · have jams : ∀ fs : List TxFrame, (fs.map fun f => if f.payload.isReady && !f.sending then s.newFrame .plain s.readyFrame else f).any
        (fun f => f.payload.isJam) = fs.any fun f => f.payload.isJam := by
      intro fs
      induction fs with
      | nil => rfl
      | cons f fs ih =>
        rw [List.map_cons, List.any_cons, List.any_cons, ih]
        split
        · rename_i ready
          have other : f.payload.isJam = false := by
            cases h : f.payload <;> simp_all [Payload.isReady, Payload.isJam]
          rw [other]
          rfl
        · rfl
    simp only [State.lineIsLow, State.pulling, jams]
  · split
    · rfl
    · exact s.lineIsLow_queueFrame _ room rfl

theorem State.queueReady_line (s : State) (room : s.txRoom = true) : s.queueReady.lineIsLow = s.lineIsLow := by
  unfold State.queueReady
  split
  · exact s.sendReady_line room
  · rfl

/-- 11 R177: the clear flag stands after the READY has been queued. -/
theorem State.evaluateReady_stands (s : State) (room : s.txRoom = true) :
    s.evaluateReady.recovery.clearFlag = s.evaluateReady.evaluateClear := by
  rw [State.evaluateReady_clearFlag]
  refine (State.evaluateClear_congr ?_ ?_ ?_ ?_ ?_ ?_ ?_ ?_ ?_).symm
  all_goals try simp
  exact State.queueReady_line { s with recovery.clearFlag := s.evaluateClear } room

/-- 11 R181: READY is queued where none waits. -/
theorem State.evaluateReady_sent {s : State} (path : s.path = .clearance) (revs : s.recovery.pendingRevs = [])
    (none : ∀ f ∈ s.link.queue, f.payload.isReady = false) (room : s.txRoom = true) :
    s.evaluateReady = ({ s with recovery.clearFlag := s.evaluateClear } : State).queueFrame (.ready s.evaluateClear s.ownDigest) := by
  have waiting : (s.link.queue.any fun f => f.payload.isReady && !f.sending) = false := by
    simp only [List.any_eq_false]
    intro f hf
    simp [none f hf]
  have sending : (s.link.queue.any fun f => f.payload.isReady) = false := by
    simp only [List.any_eq_false]
    intro f hf
    simp [none f hf]
  let t : State := { s with recovery.clearFlag := s.evaluateClear }
  have ready : (t.path == .clearance && t.recovery.pendingRevs.isEmpty) = true := by
    simp [show t.path = .clearance from path, show t.recovery.pendingRevs = [] from revs]
  have sends : t.sendReady = t.queueFrame t.readyFrame := by
    unfold State.sendReady
    rw [if_neg (Bool.eq_false_iff.mp waiting), if_neg (Bool.eq_false_iff.mp sending)]
  calc s.evaluateReady = t.queueReady := rfl
    _ = t.sendReady := if_pos ready
    _ = _ := sends

/-! ### The door closes (04 R71, 11 R177, R178) -/

theorem State.revised_eq (s : State) : s.revised = s.inRevisionList := by
  funext v
  cases v <;> rfl

theorem State.ownUnknown_contains (s : State) (k : Nat) : s.ownUnknown.contains k =
    (s.recovery.fates.clearing.contains (s.own, .unknown k) || s.recovery.revisions.contains (.unknown s.own k)) := by
  have clearing : k ∈ (s.recovery.fates.clearing.filterMap fun c =>
      if c.1 == s.own then (match c.2 with | .unknown z => some z | _ => none) else none) ↔
      (s.own, ClearItem.unknown k) ∈ s.recovery.fates.clearing := by
    rw [List.mem_filterMap]
    constructor
    · rintro ⟨⟨p, item⟩, mem, found⟩
      by_cases own : p = s.own
      · cases item <;> simp_all
      · simp [own] at found
    · intro mem
      exact ⟨_, mem, by simp⟩
  have revised : k ∈ s.revisedZones s.own ↔ Revision.unknown s.own k ∈ s.recovery.revisions := by
    rw [State.revisedZones, List.mem_filterMap]
    constructor
    · rintro ⟨v, mem, found⟩
      cases v with
      | removed x => simp at found
      | unknown q z =>
        by_cases own : q = s.own
        · simp_all
        · simp [own] at found
    · intro mem
      exact ⟨_, mem, by simp⟩
  rw [Bool.eq_iff_iff]
  have parts : k ∈ s.ownUnknown ↔ (k ∈ s.recovery.fates.clearing.filterMap fun c =>
      if c.1 == s.own then (match c.2 with | .unknown z => some z | _ => none) else none) ∨ k ∈ s.revisedZones s.own :=
    List.mem_append
  simp only [List.contains_iff_mem, parts, Bool.or_eq_true, clearing, revised]

theorem State.findings_eq (s : State) : s.findings = s.revisionFindings := by
  have atRest : SheetRecord.atRest = fun q : SheetRecord =>
      q.fate == some .keep || q.fate == some .park || q.fate == some .release || q.fate == some .purge := rfl
  simp only [State.findings, State.revisionFindings, State.unaccounted, State.accounted, State.ownUnknown_contains, atRest]

/-- 11 R177, R178: the door-close evaluation before the frames it queues. -/
def State.doorCloseFound (s : State) : State :=
  { s with
    track.strays := s.track.strays.mapIdx fun i b => b && s.covered (i + 1)
    recovery.pendingRevs := s.recovery.pendingRevs ++
      s.revisionFindings.filter fun v => !s.recovery.pendingRevs.contains v && !s.inRevisionList v }

theorem State.doorCloseEvaluation_eq (s : State) : s.doorCloseEvaluation = s.doorCloseFound.queueRevision.evaluateReady := by
  have findings : ({ s with track.strays := s.track.strays.mapIdx fun i b => b && s.covered (i + 1) } : State).findings =
      s.revisionFindings := by
    rw [← State.findings_eq]
    rfl
  have revised : ({ s with track.strays := s.track.strays.mapIdx fun i b => b && s.covered (i + 1) } : State).revised =
      s.inRevisionList := by
    rw [← State.revised_eq]
    funext v
    cases v <;> rfl
  unfold State.doorCloseEvaluation
  simp only [findings, revised]
  rfl

theorem State.queueRevision_none {s : State} (h : s.recovery.pendingRevs = []) : s.queueRevision = s := by
  simp [State.queueRevision, h]

theorem State.queueRevision_head {s : State} {v : RevisionContent} (head : s.recovery.pendingRevs.head? = some v)
    (path : s.path = .clearance) (none : ∀ f ∈ s.link.queue, f.payload.isRevision = false) :
    s.queueRevision = s.queueFrame (.revision v) := by
  have waiting : (s.link.queue.any fun f => f.payload.isRevision) = false := by
    simp only [List.any_eq_false]
    intro f hf
    simp [none f hf]
  unfold State.queueRevision
  split
  · rename_i empty
    simp [empty] at head
  · rename_i w more revs
    obtain rfl : w = v := by simpa [revs] using head
    rw [if_pos (by simp [path, waiting])]

theorem State.queueRevision_room {s : State} (room : s.link.queue.length < 7) : s.queueRevision.txRoom = true := by
  unfold State.queueRevision
  split
  · exact s.txRoom_iff.mpr (by omega)
  · split
    · exact s.txRoom_queueFrame _ room
    · exact s.txRoom_iff.mpr (by omega)

theorem State.evaluateReady_pending {s : State} (h : s.recovery.pendingRevs ≠ []) :
    s.evaluateReady = { s with recovery.clearFlag := s.evaluateClear } := by
  have revs : ({ s with recovery.clearFlag := s.evaluateClear } : State).recovery.pendingRevs.isEmpty = false := by
    simpa using h
  simp [State.evaluateReady, State.queueReady, h]

/-- 04 R60: in CLEARANCE the drive is not asked for, and only it changes. -/
theorem State.driveSync_clearance {s : State} (path : s.path = .clearance) :
    s.driveSync.link = s.link ∧ s.driveSync.recovery = s.recovery ∧ s.driveSync.track.queue = s.track.queue := by
  have path' : s.recovery.path = .clearance := path
  have unasked : s.driveRequest = false := by simp [State.driveRequest, path]
  have halt : s.driveHalt.link = s.link ∧ s.driveHalt.recovery = s.recovery ∧ s.driveHalt.track.queue = s.track.queue := by
    unfold State.driveHalt State.driveOff
    dsimp only
    rw [State.reevaluate_still (by simp [State.path, path', movingPath])]
    split
    · simp
    · rw [State.reevaluate_still (by simp [State.path, path', movingPath]),
        State.surveyTest_away (by simp [State.path, path']),
        State.spinTest_unasked (by simp [State.driveRequest, State.path, path'])]
      simp
  unfold State.driveSync
  split
  · rw [State.spinTest_unasked unasked]
    simp
  · rw [if_neg (by simp [unasked])]
    exact halt
  · rw [if_neg (by simp [unasked])]
    exact halt
  · simp

/-- 11 R177, R178, R181: the door-close evaluation. -/
theorem State.doorCloseEvaluation_evaluates (u : State) (path : u.path = .clearance) :
    let t := u.doorCloseEvaluation
    let found := u.revisionFindings.filter fun v => !u.recovery.pendingRevs.contains v && !(u.inRevisionList v)
    t.recovery.pendingRevs = u.recovery.pendingRevs ++ found ∧
    (∀ v, t.recovery.pendingRevs.head? = some v → (∀ f ∈ u.link.queue, f.payload.isRevision = false) → u.txRoom = true →
      t.queued u.recovery.epoch (.revision v)) ∧
    (u.link.queue.length < 7 → t.recovery.clearFlag = t.evaluateClear) ∧
    (t.recovery.pendingRevs = [] → (∀ f ∈ u.link.queue, f.payload.isReady = false) → u.txRoom = true →
      t.queued u.recovery.epoch (.ready t.recovery.clearFlag t.ownDigest)) := by
  intro t found
  have eq : t = u.doorCloseFound.queueRevision.evaluateReady := u.doorCloseEvaluation_eq
  have revs : t.recovery.pendingRevs = u.doorCloseFound.recovery.pendingRevs := by rw [eq]; simp
  have path' : u.doorCloseFound.path = .clearance := path
  refine ⟨revs, fun v head none room => ?_, fun room => ?_, fun empty none room => ?_⟩
  · have pending : u.doorCloseFound.queueRevision.recovery.pendingRevs ≠ [] := by
      simp only [State.queueRevision_frame, ← revs]
      rintro h
      simp [h] at head
    rw [eq, State.evaluateReady_pending pending, State.queueRevision_head (revs ▸ head) path' none]
    exact (State.Adds.of rfl).sent room
  · rw [eq]
    exact State.evaluateReady_stands _ (State.queueRevision_room room)
  · rw [revs] at empty
    rw [eq, State.queueRevision_none empty]
    have flag := u.doorCloseFound.evaluateReady_clearFlag
    have digest : u.doorCloseFound.evaluateReady.ownDigest = u.doorCloseFound.ownDigest := by simp [State.ownDigest]
    rw [flag, digest, State.evaluateReady_sent path' empty none room]
    exact State.queueFrame_queued _ _ room

theorem State.doorClosed_clearance {s : State} (path : s.path = .clearance) :
    s.doorClosed = s.doorCloseEvaluation.driveSync := by
  simp [State.doorClosed, path]

/-- 11 R177: in CLEARANCE the drive's part of a door close leaves what the evaluation made. -/
theorem State.doorClosed_evaluated {s : State} (path : s.path = .clearance) :
    s.doorClosed.link = s.doorCloseEvaluation.link ∧ s.doorClosed.recovery = s.doorCloseEvaluation.recovery ∧
      s.doorClosed.track.strays = s.doorCloseEvaluation.track.strays ∧
      s.doorClosed.evaluateClear = s.doorCloseEvaluation.evaluateClear := by
  have path' : s.doorCloseEvaluation.path = .clearance := by simpa [State.path] using path
  obtain ⟨link, recovery, queue⟩ := State.driveSync_clearance path'
  rw [State.doorClosed_clearance path]
  refine ⟨link, recovery, by simp, ?_⟩
  refine State.evaluateClear_congr (by simp) (by simp) (by simp) queue (by simp) (by simp) (by rw [recovery]) (by rw [recovery]) ?_
  simp [State.lineIsLow, State.pulling, link]

/-- 04 R71: outside CLEARANCE a door close sets the mark, detects, and lets the drive follow. -/
def State.doorCloseTold (s : State) : State :=
  match s.path with
  | .stopping | .survey | .runout => { s with recovery.doorMark := true }
  | .plan | .resuming => ({ s with recovery.doorMark := true } : State).detect .door 0 none
  | _ => s

theorem State.doorClosed_eq {s : State} (path : s.path ≠ .clearance) : s.doorClosed = s.doorCloseTold.driveSync := by
  unfold State.doorClosed State.doorCloseTold
  split <;> simp_all

theorem State.doorCloseTold_frame (s : State) : let t := s.doorCloseTold
    t.drive = s.drive ∧ t.inputs = s.inputs ∧ t.track = s.track ∧ t.recovery.path = s.recovery.path ∧
      t.recovery.driveNeed = s.recovery.driveNeed ∧
      t.recovery.doorMark =
        (decide (s.path ∈ [PathState.stopping, .survey, .runout, .plan, .resuming]) || s.recovery.doorMark) := by
  unfold State.doorCloseTold
  split <;> simp_all

theorem State.doorClosed_mark (s : State) : s.doorClosed.recovery.doorMark =
    (decide (s.path ∈ [PathState.stopping, .survey, .runout, .plan, .resuming]) || s.recovery.doorMark) := by
  by_cases path : s.path = .clearance
  · rw [(State.doorClosed_evaluated path).2.1]
    simp [path]
  · rw [State.doorClosed_eq path]
    simp [s.doorCloseTold_frame]

/-- 04 R61: the drive's part where it is OFF and no spin starts. -/
theorem State.doorClosed_still {s : State} (off : s.drive.state = .off) (path : s.path ∉ [PathState.run, .runout, .resuming]) :
    s.doorClosed.drive = s.drive := by
  simp only [List.mem_cons, List.not_mem_nil, or_false, not_or] at path
  obtain ⟨run, runout, resuming⟩ := path
  have unasked {t : State} (same : t.recovery.path = s.recovery.path) : t.driveRequest = false := by
    have : t.path = s.path := same
    unfold State.driveRequest
    split <;> simp_all
  by_cases clearance : s.path = .clearance
  · rw [State.doorClosed_clearance clearance, State.driveSync_off (by simpa using off),
      State.spinTest_unasked (unasked (by simp))]
    simp
  · rw [State.doorClosed_eq clearance, State.driveSync_off (by simpa [s.doorCloseTold_frame] using off),
      State.spinTest_unasked (unasked (by simp [s.doorCloseTold_frame]))]
    simp [s.doorCloseTold_frame]

theorem State.driveSync_run {s : State} (run : s.path = .run) : s.driveSync.recovery = s.recovery := by
  have asked : s.driveRequest = true := by simp [State.driveRequest, run]
  unfold State.driveSync
  split
  · simp
  · simp [asked]
  · simp [asked]
  · rfl

/-- O25, the door close. -/
theorem doorCloseByPathState (s : State) (r : Nat) (due : s.edgeDue .door false r) :
    let u := s.atEdge .door false r
    ∃ t, exec .doorClose s = .next t ∧
      t.recovery.doorMark =
        (decide (u.path ∈ [PathState.stopping, .survey, .runout, .plan, .resuming]) || u.recovery.doorMark) ∧
      (u.path ∈ [PathState.plan, .resuming] → u.canClaim → t.jamQueued .door 0 none) ∧
      (u.drive.state = .off → u.path = .run ∨ u.path = .runout ∧ u.recovery.driveNeed = true →
        (u.lineIsLow = false →
          t.drive.state = .spinning ∧ t.drive.spin = .running 300 ∧ t.drive.fresh = u.reads .drdy) ∧
        (u.lineIsLow = true → t.drive = u.drive)) ∧
      (u.drive.state = .off → u.path ∉ [PathState.run, .runout, .resuming] → t.drive = u.drive) ∧
      (u.path = .clearance →
        let found := u.revisionFindings.filter fun v => !u.recovery.pendingRevs.contains v && !(u.inRevisionList v)
        t.recovery.pendingRevs = u.recovery.pendingRevs ++ found ∧
        (∀ v, t.recovery.pendingRevs.head? = some v → (∀ f ∈ u.link.queue, f.payload.isRevision = false) → u.txRoom = true →
          t.queued u.recovery.epoch (.revision v)) ∧
        (u.link.queue.length < 7 → t.recovery.clearFlag = t.evaluateClear) ∧
        (t.recovery.pendingRevs = [] → (∀ f ∈ u.link.queue, f.payload.isReady = false) → u.txRoom = true →
          t.queued u.recovery.epoch (.ready t.recovery.clearFlag t.ownDigest))) ∧
      (u.path = .clearance → t.track.strays = u.track.strays.mapIdx fun i b => b && u.covered (i + 1)) ∧
      (u.path ≠ .clearance → t.track.strays = u.track.strays) ∧
      (u.path = .run → t.recovery = u.recovery) ∧
      t.drive.gate = u.drive.gate ∧ t.drive.gateHeld = u.drive.gateHeld ∧
      t.roster = u.roster ∧ t.table = u.table ∧ t.imaging = u.imaging ∧ t.exit = u.exit ∧ State.sameReception u t ∧
      State.sameSetup u t := by
  intro u
  have door : u.reads .door = false := by simp [u, State.reads, State.atEdge, Inputs.line, Inputs.setLine]
  refine ⟨u.doorClosed, exec_doorClose s r due, u.doorClosed_mark, ?_, ?_, State.doorClosed_still, ?_, ?_, ?_, ?_, by simp,
    by simp, by simp, by simp, by simp, by simp, by simp [State.sameReception], by simp [State.sameSetup]⟩
  · intro path claim
    simp only [List.mem_cons, List.not_mem_nil, or_false] at path
    have told : u.doorCloseTold = ({ u with recovery.doorMark := true } : State).detect .door 0 none := by
      rcases path with h | h <;> simp [State.doorCloseTold, h]
    rw [State.doorClosed_eq (by rcases path with h | h <;> simp [h]), told]
    exact (State.Adds.driveSync _).detected claim
  · intro off asked
    have told : u.doorCloseTold = u ∨ u.doorCloseTold = { u with recovery.doorMark := true } := by
      rcases asked with h | ⟨h, -⟩ <;> simp [State.doorCloseTold, h]
    have spin : u.doorClosed = u.doorCloseTold.spinTest := by
      rw [State.doorClosed_eq (by rcases asked with h | ⟨h, -⟩ <;> simp [h]),
        State.driveSync_off (by simpa [u.doorCloseTold_frame] using off)]
    have line : u.doorCloseTold.lineIsLow = u.lineIsLow := by rcases told with h | h <;> rw [h] <;> rfl
    have request : u.doorCloseTold.driveRequest = true := by
      have path : u.doorCloseTold.path = u.path := by simp [State.path, u.doorCloseTold_frame]
      rcases asked with h | ⟨h, need⟩
      · simp [State.driveRequest, path, h]
      · simp [State.driveRequest, path, h, u.doorCloseTold_frame, need]
    have inputs : u.doorCloseTold.reads = u.reads := by funext id; simp [State.reads, u.doorCloseTold_frame]
    refine ⟨fun released => ?_, fun low => ?_⟩
    · rw [spin, ← inputs]
      exact State.spinTest_spins (by simpa [u.doorCloseTold_frame] using off) request (by rw [line]; exact released)
        (by rw [inputs]; exact door)
    · rw [spin, State.spinTest_low (by rw [line]; exact low)]
      simp [u.doorCloseTold_frame]
  · intro path
    obtain ⟨link, recovery, -, clear⟩ := State.doorClosed_evaluated path
    obtain ⟨found, revision, flag, ready⟩ := u.doorCloseEvaluation_evaluates path
    have queued {e : Epoch} {p : Payload} (h : u.doorCloseEvaluation.queued e p) : u.doorClosed.queued e p :=
      (State.Adds.of link).queued h
    have digest : u.doorClosed.ownDigest = u.doorCloseEvaluation.ownDigest := by simp [State.ownDigest]
    rw [recovery, clear, digest]
    exact ⟨found, fun v head none room => queued (revision v head none room), flag,
      fun empty none room => queued (ready empty none room)⟩
  · intro path
    obtain ⟨-, -, strays, -⟩ := State.doorClosed_evaluated path
    rw [strays, State.doorCloseEvaluation_eq]
    simp [State.doorCloseFound]
  · intro path
    rw [State.doorClosed_eq path]
    simp [u.doorCloseTold_frame]
  · intro path
    rw [State.doorClosed_eq (by simp [path])]
    have told : u.doorCloseTold = u := by simp [State.doorCloseTold, path]
    rw [told, State.driveSync_run path]

/-- Settles O25. -/
theorem doorEdgesByPathState : Obligations.DoorEdgesByPathState := by
  unfold Obligations.DoorEdgesByPathState
  exact ⟨doorOpenByPathState, doorCloseByPathState⟩

end Sys2Proof.Machine
end

section
/-! PROOFS. The tray, the purge bin, the finisher and the set trays (O26 to O28). -/

namespace Sys2Proof.Machine

/-! ### A pick is issued (07 R113) -/

/-- 07 R113: the conditions of a pick hold. -/
theorem State.pickTarget_some {s : State} {q : SheetRecord} (role : s.hasRole .feed = true) (run : s.path = .run)
    (running : s.drive.state = .running) (loaded : s.feed.tray = .loaded) (idle : s.feed.pick = .idle)
    (first : (s.intake s.own).head? = some q) (room : s.track.queue.length < s.prof.capacity)
    (entries : ∀ e ∈ s.track.queue, e.serial ≠ q.serial ∧ e.trailSensor ≠ 1) (covered : s.covered 1 = false)
    (order : ∀ x ∈ s.roster.records.takeWhile (fun x => x.serial != q.serial), x.stage = .fed ∧
      ∀ h, x.holder = some h → h = s.own ∨ s.roleIs h .feed = false) : s.pickTarget = some q.serial := by
  have ordered : s.pickOrder q.serial = true := by
    simp only [State.pickOrder, List.all_eq_true]
    intro x hx
    obtain ⟨fed, holder⟩ := order x hx
    cases held : x.holder with
    | none => simp [fed]
    | some h => rcases holder h held with own | role <;> simp [fed, *]
  have serials : (s.track.queue.any fun e => e.serial == q.serial) = false := by
    simpa using fun e he => (entries e he).1
  have trails : (s.track.queue.any fun e => e.trailSensor == 1) = false := by
    simpa using fun e he => (entries e he).2
  unfold State.pickTarget
  rw [first]
  dsimp only
  rw [if_pos]
  simp [role, run, running, loaded, idle, room, serials, trails, covered, ordered]

theorem State.pickTarget_none {s : State}
    (h : s.feed.tray = .empty ∨ s.path ≠ .run ∨ s.drive.state ≠ .running ∨ s.feed.pick ≠ .idle) : s.pickTarget = none := by
  unfold State.pickTarget
  split
  · rfl
  · rw [if_neg]
    rcases h with h | h | h | h <;> simp [h]

theorem State.pickTest_none {s : State}
    (h : s.feed.tray = .empty ∨ s.path ≠ .run ∨ s.drive.state ≠ .running ∨ s.feed.pick ≠ .idle) : s.pickTest = s := by
  simp [State.pickTest, State.pickTarget_none h]

theorem State.pickTest_picks {s : State} {x : Serial} (h : s.pickTarget = some x) : s.pickTest = { s with
    feed.pick := .picking, feed.pickOut := true, feed.retries := s.prof.pickRetries
    track.pickCandidate := some x, track.pickTimer := .running s.prof.pickAllowance } := by
  simp [State.pickTest, h]

theorem State.pickTest_eq (s : State) : s.pickTest = { s with
    feed := s.pickTest.feed, track.pickCandidate := s.pickTest.track.pickCandidate
    track.pickTimer := s.pickTest.track.pickTimer } := by
  unfold State.pickTest
  split <;> rfl

/-! ### TEMPTY (07 R116) -/

theorem exec_temptyChange (s : State) (level : Bool) (r : Nat) (due : s.edgeDue .tempty level r) :
    exec .temptyChange s = .next (s.atEdge .tempty level r).trayChanged := by
  have raw : s.inputs.tempty.raw = level := by
    have edge := due.1
    unfold InputLine.edgeIn at edge
    split at edge
    · split at edge
      · rename_i h
        simp only [Bool.and_eq_true, beq_iff_eq] at h
        exact h.1.2
      · cases edge
    · cases edge
  refine congrArg Host.Outcome.next ?_
  rw [raw]
  exact s.settle_edge _ _ _ _ due

/-- 07 R116: the tray state taken, and TRAY sent from RUN on. -/
def State.trayTold (s : State) (tray : TrayState) : State :=
  let t := { s with feed.tray := tray }
  if livePath s.path then t.queueFrame (.tray tray) else t

theorem State.trayTold_frame (s : State) (tray : TrayState) : let t := s.trayTold tray
    OuterKept s t ∧ LinkInKept s t ∧ t.table = s.table ∧ t.roster = s.roster ∧ t.track = s.track ∧ t.handoff = s.handoff ∧
      t.feed = { s.feed with tray := tray } ∧ t.imaging = s.imaging ∧ t.exit = s.exit ∧ t.drive = s.drive ∧
      t.recovery = s.recovery := by
  unfold State.trayTold
  dsimp only
  split <;> simp

theorem State.trayChanged_feed {s : State} (role : s.hasRole .feed = true) (opened : closedPath s.path = false) :
    s.trayChanged = if trayOf (s.reads .tempty) = .loaded then (s.trayTold (trayOf (s.reads .tempty))).pickTest
      else s.trayTold (trayOf (s.reads .tempty)) := by
  have follows : (s.followsTray && !closedPath s.path) = true := by simp [State.followsTray, role, opened]
  have tray : (s.trayTold (trayOf (s.reads .tempty))).feed.tray = trayOf (s.reads .tempty) := by simp [State.trayTold_frame]
  have told : s.trayChanged = if (s.trayTold (trayOf (s.reads .tempty))).feed.tray == .loaded
      then (s.trayTold (trayOf (s.reads .tempty))).pickTest else s.trayTold (trayOf (s.reads .tempty)) := by
    unfold State.trayChanged
    rw [if_pos follows]
    rfl
  rw [told, tray]
  simp

theorem State.trayTold_pickTarget {s : State} {q : SheetRecord} (role : s.hasRole .feed = true) (run : s.path = .run)
    (running : s.drive.state = .running) (idle : s.feed.pick = .idle) (first : (s.intake s.own).head? = some q)
    (room : s.track.queue.length < s.prof.capacity)
    (entries : ∀ e ∈ s.track.queue, e.serial ≠ q.serial ∧ e.trailSensor ≠ 1) (covered : s.covered 1 = false)
    (order : ∀ x ∈ s.roster.records.takeWhile (fun x => x.serial != q.serial), x.stage = .fed ∧
      ∀ h, x.holder = some h → h = s.own ∨ s.roleIs h .feed = false) :
    (s.trayTold .loaded).pickTarget = some q.serial := by
  obtain ⟨⟨-, profile, -, -, inputs⟩, -, table, roster, track, -, feed, -, -, drive, recovery⟩ := s.trayTold_frame .loaded
  have prof : (s.trayTold .loaded).prof = s.prof := by simp [State.prof, profile]
  have own : (s.trayTold .loaded).own = s.own := by simp [State.own, prof]
  refine State.pickTarget_some ?_ ?_ ?_ ?_ ?_ ?_ ?_ ?_ ?_ ?_
  · simpa [State.hasRole, profile, prof] using role
  · simpa [State.path, recovery] using run
  · rw [drive]; exact running
  · rw [feed]
  · rw [feed]; exact idle
  · rw [← first]
    simp [State.intake, roster, own]
  · rw [track, prof]; exact room
  · rw [track]; exact entries
  · simpa [State.covered, State.reads, inputs] using covered
  · simpa [roster, own, State.roleIs, State.summaryOf, State.entry, table] using order

/-- O26, the change of TEMPTY at a FEED station. -/
theorem temptyTells (s : State) (level : Bool) (r : Nat) (due : s.edgeDue .tempty level r) :
    let u := s.atEdge .tempty level r
    let tray : TrayState := if level then .empty else .loaded
    u.hasRole .feed = true → closedPath u.path = false → ∃ t, exec .temptyChange s = .next t ∧
      t.feed.tray = tray ∧ t.feed.crossing = u.feed.crossing ∧
      (livePath u.path = true → u.txRoom = true → t.queued u.recovery.epoch (.tray tray)) ∧
      (livePath u.path = false → t.link = u.link) ∧
      (tray = .empty ∨ u.path ≠ .run ∨ u.drive.state ≠ .running ∨ u.feed.pick ≠ .idle →
        t.track = u.track ∧ t.feed = { u.feed with tray := tray }) ∧
      (∀ q, tray = .loaded → u.path = .run → u.drive.state = .running → u.feed.pick = .idle →
        (u.intake u.own).head? = some q → u.track.queue.length < u.prof.capacity →
        (∀ e ∈ u.track.queue, e.serial ≠ q.serial ∧ e.trailSensor ≠ 1) → u.covered 1 = false →
        (∀ x ∈ u.roster.records.takeWhile (fun x => x.serial != q.serial), x.stage = .fed ∧
          ∀ h, x.holder = some h → h = u.own ∨ u.roleIs h .feed = false) →
        t.feed.pick = .picking ∧ t.feed.pickOut = true ∧ t.feed.retries = u.prof.pickRetries ∧
        t.track.pickCandidate = some q.serial ∧ t.track.pickTimer = .running u.prof.pickAllowance) ∧
      State.sameReception u t ∧
      t = { u with link := t.link, feed := t.feed, track.pickCandidate := t.track.pickCandidate
                   track.pickTimer := t.track.pickTimer } := by
  intro u tray role opened
  have reads : trayOf (u.reads .tempty) = tray := by
    cases level <;> simp [u, tray, trayOf, State.reads, State.atEdge, Inputs.line, Inputs.setLine]
  have changed := State.trayChanged_feed role opened
  rw [reads] at changed
  have untargeted : (tray = .empty ∨ u.path ≠ .run ∨ u.drive.state ≠ .running ∨ u.feed.pick ≠ .idle) →
      u.trayChanged = u.trayTold tray := by
    intro h
    rw [changed]
    split
    · refine State.pickTest_none ?_
      rcases h with h | h | h | h
      · exact .inl (by simp [u.trayTold_frame, h])
      · exact .inr (.inl (by simpa [State.path, u.trayTold_frame] using h))
      · exact .inr (.inr (.inl (by simpa [u.trayTold_frame] using h)))
      · exact .inr (.inr (.inr (by simpa [u.trayTold_frame] using h)))
    · rfl
  have told : (u.trayTold tray).Adds u.trayChanged := by
    rw [changed]
    split
    · exact .pickTest _
    · exact .refl _
  refine ⟨u.trayChanged, exec_temptyChange s level r due, ?_, by simp, ?_, ?_, ?_, ?_, by simp [State.sameReception], ?_⟩
  · rw [changed]
    split <;> simp [u.trayTold_frame]
  · intro live room
    refine told.queued ?_
    have sent : u.trayTold tray = ({ u with feed.tray := tray } : State).queueFrame (.tray tray) := if_pos live
    rw [sent]
    exact State.queueFrame_queued _ _ room
  · intro silent
    rw [untargeted (.inr (.inl fun run => by simp [run, livePath] at silent))]
    have unsent : u.trayTold tray = { u with feed.tray := tray } := if_neg (by simp [silent])
    rw [unsent]
  · intro h
    rw [untargeted h]
    simp [u.trayTold_frame]
  · intro q loaded run running idle first room entries covered order
    have target := State.trayTold_pickTarget role run running idle first room entries covered order
    rw [changed, if_pos loaded, loaded, State.pickTest_picks target]
    simp [u.trayTold_frame, State.prof]
  · rw [changed]
    split
    · rw [State.pickTest_eq]
      exact State.eq_of_blocks (by simp [u.trayTold_frame])
    · exact State.eq_of_blocks (by simp [u.trayTold_frame])

/-- Settles O26. -/
theorem trayAndPurgeBinInputs : Obligations.TrayAndPurgeBinInputs := by
  unfold Obligations.TrayAndPurgeBinInputs
  refine ⟨temptyTells, fun s r due => ?_⟩
  intro u exit opened
  have runs : exec .pemptyRise s = .next u.purgeEmptied := congrArg Host.Outcome.next (s.settle_edge _ _ _ _ due)
  rw [runs]
  simp [State.purgeEmptied, exit, opened]

/-! ### Closing a set (10 R166, R171) -/

/-- A bin that a SET DONE has emptied. -/
def Bin.closed (b : Bin) : Bin := { b with state := .empty, openSet := none, finish := .stopped, fin := false }

theorem State.closeSet_eq {s : State} {n : Nat} {o : OpenSet} (set : (s.bin n).openSet = some o) (outcome : SetOutcome) :
    s.closeSet n outcome = (s.queueFrame (.setDone n o.job o.set outcome)).setBin n Bin.closed := by
  simp only [State.closeSet, set]
  rfl

theorem State.closeSet_bin {s : State} {n : Nat} {o : OpenSet} (set : (s.bin n).openSet = some o) (outcome : SetOutcome)
    (one : 1 ≤ n) (room : n ≤ s.exit.bins.length) : (s.closeSet n outcome).bin n = (s.bin n).closed := by
  rw [State.closeSet_eq set, State.bin_setBin _ _ one (by simpa using room), State.bin_congr (s := s) (by simp)]

theorem State.closeSet_bin_ne (s : State) {m n : Nat} (outcome : SetOutcome) (h : m ≠ n) :
    (s.closeSet n outcome).bin m = s.bin m := by
  unfold State.closeSet
  split
  · rfl
  · rw [State.bin_setBin_ne _ _ h]
    exact State.bin_congr (by simp) m

theorem State.closeSet_sent {s : State} {n : Nat} {o : OpenSet} (set : (s.bin n).openSet = some o) (outcome : SetOutcome)
    (room : s.txRoom = true) : (s.closeSet n outcome).queued s.recovery.epoch (.setDone n o.job o.set outcome) := by
  rw [State.closeSet_eq set]
  exact (State.Adds.of rfl).sent room

theorem State.closeSet_length (s : State) (n : Nat) (outcome : SetOutcome) :
    (s.closeSet n outcome).link.queue.length ≤ s.link.queue.length + 1 := by
  unfold State.closeSet
  split
  · omega
  · exact s.queueFrame_length _

/-! ### The finisher (10 R167) -/

/-- Settles O27. -/
theorem finisherReportEndsFinishing : Obligations.FinisherReportEndsFinishing := by
  unfold Obligations.FinisherReportEndsFinishing
  intro s n r o shape one three due u
  have runs : exec (.fdoneRise n) s = .next (u.finisherDone n) := congrArg Host.Outcome.next (s.settle_edge _ _ _ _ due)
  refine ⟨fun other => ?_, fun exit live finishing state set => ?_⟩
  · rw [runs]
    simp [State.finisherDone, other]
  · have done : u.finisherDone n = (u.closeSet n .finished).reevaluate := by
      simp [State.finisherDone, exit, live, finishing, state]
    have bins : n ≤ u.exit.bins.length := by
      obtain ⟨-, -, -, -, threeBins, -⟩ := shape
      have : u.exit.bins.length = 3 := by simpa [u, State.atEdge, State.elapse, State.passExit] using threeBins
      omega
    have bin (m : Nat) : (u.finisherDone n).bin m = (u.closeSet n .finished).bin m := State.bin_congr (by simp [done]) m
    refine ⟨u.finisherDone n, runs, ?_, fun m _ other => ?_, by simp, fun room => ?_, by simp, by simp, by simp, by simp,
      by simp, by simp, by simp [State.sameReception], by simp [State.sameSetup]⟩
    · rw [bin, State.closeSet_bin set _ one bins]
      rfl
    · rw [bin, State.closeSet_bin_ne _ _ other]
    · rw [done]
      exact (State.Adds.reevaluate _).queued (State.closeSet_sent set _ room)

/-! ### The set trays (10 R170, R171) -/

/-- A frame other than READY stays when a READY is queued. -/
theorem State.sendReady_queued {s : State} {e : Epoch} {p : Payload} (other : p.isReady = false) (h : s.queued e p) :
    s.sendReady.queued e p := by
  unfold State.sendReady
  split
  · obtain ⟨f, mem, payload, epoch⟩ := h
    exact ⟨f, List.mem_map.mpr ⟨f, mem, by rw [payload]; simp [other]⟩, payload, epoch⟩
  · split
    · exact (State.Adds.of rfl).queued h
    · exact (State.Adds.queueFrame s _).queued h

theorem State.evaluateReady_queued {s : State} {e : Epoch} {p : Payload} (other : p.isReady = false) (h : s.queued e p) :
    s.evaluateReady.queued e p := by
  unfold State.evaluateReady State.queueReady
  dsimp only
  split
  · exact State.sendReady_queued other h
  · exact h

/-- 11 R177, R181: the evaluation sets the clear flag, and marks that a READY follows. -/
theorem State.evaluateReady_recovery (s : State) : s.evaluateReady.recovery =
    { s.recovery with clearFlag := s.evaluateReady.recovery.clearFlag, readyNext := s.evaluateReady.recovery.readyNext } := by
  have sends (t : State) : t.sendReady.recovery = { t.recovery with readyNext := t.sendReady.recovery.readyNext } := by
    unfold State.sendReady
    (repeat' split) <;> simp
  unfold State.evaluateReady State.queueReady
  dsimp only
  split
  · rw [sends]
  · rfl

/-- 10 R170, R171: the set tray's fall at the bin. -/
def State.trayFallBin (s : State) (n : Nat) : State :=
  if (s.bin n).state == .ejecting then (s.setBin n fun b => { b with trayStray := false }).ejected n else s.trayTaken n

theorem State.trayFallBin_frame (s : State) (n : Nat) : let t := s.trayFallBin n
    OuterKept s t ∧ LinkInKept s t ∧ t.table = s.table ∧ t.roster = s.roster ∧ t.track = s.track ∧ t.handoff = s.handoff ∧
      t.feed = s.feed ∧ t.imaging = s.imaging ∧ t.drive = s.drive ∧ t.recovery = s.recovery := by
  unfold State.trayFallBin
  dsimp only
  split <;> simp

theorem State.trayFallen_eq {s : State} {n : Nat} (exit : s.hasRole .exit = true) (live : livePath s.path = true)
    (declared : n ∈ s.binNumbers) : s.trayFallen n = if s.path == .clearance then (s.trayFallBin n).reevaluate.evaluateReady
      else (s.trayFallBin n).reevaluate := by
  have path : (s.trayFallBin n).reevaluate.path = s.path := by simp [State.path, s.trayFallBin_frame]
  unfold State.trayFallen
  rw [if_pos (by simp [exit, live, declared])]
  simp only [← path]
  rfl

theorem State.ejected_eq (s : State) (n : Nat) : s.ejected n =
    (s.addPurged ((((s.bin n).openSet).map (·.sheets.length)).getD 0)).closeSet n .forfeited := rfl

/-- 10 R170: the fall during an ejection. -/
theorem State.trayFallBin_ejecting {s : State} {n : Nat} {o : OpenSet} (state : (s.bin n).state = .ejecting)
    (set : (s.bin n).openSet = some o) (one : 1 ≤ n) (room : n ≤ s.exit.bins.length) :
    (s.trayFallBin n).bin n = { (s.bin n).closed with trayStray := false } ∧
      (s.trayFallBin n).exit.purgeCount = min (s.exit.purgeCount + o.sheets.length) s.prof.purgeCapacity ∧
      (s.txRoom = true → (s.trayFallBin n).queued s.recovery.epoch (.setDone n o.job o.set .forfeited)) := by
  let t := s.setBin n fun b => { b with trayStray := false }
  have bin : t.bin n = { s.bin n with trayStray := false } := s.bin_setBin _ one room
  have openSet : (t.bin n).openSet = some o := by rw [bin]; exact set
  have fall : s.trayFallBin n = t.ejected n := by simp [State.trayFallBin, state, t]
  have purged : t.ejected n = (t.addPurged o.sheets.length).closeSet n .forfeited := by
    rw [State.ejected_eq, openSet]
    rfl
  have room' : n ≤ (t.addPurged o.sheets.length).exit.bins.length := by simpa [t, State.setBin_bins_length] using room
  refine ⟨?_, ?_, fun txRoom => ?_⟩
  · rw [fall, purged, State.closeSet_bin (by exact openSet) _ one room', State.addPurged_bin, bin]
    rfl
  · rw [fall, purged]
    simp [State.addPurged, t, State.prof]
  · rw [fall, purged]
    exact State.closeSet_sent (by exact openSet) _ (by simpa [State.txRoom, t] using txRoom)

/-- 10 R171: the fall outside an ejection at an open set that is not forfeited. -/
theorem State.trayFallBin_broken {s : State} {n : Nat} {o : OpenSet}
    (state : (s.bin n).state = .open ∨ (s.bin n).state = .finishPending) (set : (s.bin n).openSet = some o)
    (unforfeited : s.forfeitedSet n = none) (one : 1 ≤ n) (room : n ≤ s.exit.bins.length) :
    (s.trayFallBin n).bin n = { (s.bin n).closed with trayStray := false } ∧
      (s.trayFallBin n).exit.purgeCount = s.exit.purgeCount ∧
      (s.txRoom = true → (s.trayFallBin n).queued s.recovery.epoch (.setDone n o.job o.set .broken)) := by
  let t := s.setBin n fun b => { b with trayStray := false }
  have bin : t.bin n = { s.bin n with trayStray := false } := s.bin_setBin _ one room
  have openSet : (t.bin n).openSet = some o := by rw [bin]; exact set
  have fall : s.trayFallBin n = t.closeSet n .broken := by
    rcases state with h | h <;> simp [State.trayFallBin, State.trayTaken, h, unforfeited, t]
  refine ⟨?_, ?_, fun txRoom => ?_⟩
  · rw [fall, State.closeSet_bin openSet _ one (by simpa [t, State.setBin_bins_length] using room), bin]
    rfl
  · rw [fall]
    simp [t]
  · rw [fall]
    exact State.closeSet_sent openSet _ (by simpa [State.txRoom, t] using txRoom)

theorem State.trayFallBin_finishing {s : State} {n : Nat} (state : (s.bin n).state = .finishing) (one : 1 ≤ n)
    (room : n ≤ s.exit.bins.length) : (s.trayFallBin n).bin n = { s.bin n with trayStray := false } ∧
      (s.trayFallBin n).exit.purgeCount = s.exit.purgeCount := by
  have fall : s.trayFallBin n = s.setBin n fun b => { b with trayStray := false } := by
    simp [State.trayFallBin, State.trayTaken, state]
  rw [fall]
  exact ⟨s.bin_setBin _ one room, by simp⟩

theorem State.trayTaken_bin_ne (s : State) {m n : Nat} (h : m ≠ n) : (s.trayTaken n).bin m = s.bin m := by
  unfold State.trayTaken
  dsimp only
  (repeat' split) <;> simp [State.closeSet_bin_ne, State.bin_setBin_ne, h]

theorem State.trayFallBin_ne (s : State) {m n : Nat} (h : m ≠ n) : (s.trayFallBin n).bin m = s.bin m := by
  unfold State.trayFallBin
  split
  · rw [State.ejected_eq, State.closeSet_bin_ne _ _ h, State.addPurged_bin, State.bin_setBin_ne _ _ h]
  · exact s.trayTaken_bin_ne h

theorem State.trayFallBin_length (s : State) (n : Nat) : (s.trayFallBin n).link.queue.length ≤ s.link.queue.length + 1 := by
  have closed (t : State) (outcome : SetOutcome) (same : t.link = s.link) :
      (t.closeSet n outcome).link.queue.length ≤ s.link.queue.length + 1 := by
    simpa [same] using t.closeSet_length n outcome
  unfold State.trayFallBin State.trayTaken
  dsimp only
  split
  · exact closed _ _ (by simp)
  · (repeat' split) <;> simp [closed]

/-- Settles O28. -/
theorem trayFallClosesSet : Obligations.TrayFallClosesSet := by
  unfold Obligations.TrayFallClosesSet
  intro s n r o shape one three due u exit live declared set
  have runs : exec (.setTrayFall n) s = .next (u.trayFallen n) := congrArg Host.Outcome.next (s.settle_edge _ _ _ _ due)
  have bins : n ≤ u.exit.bins.length := by
    obtain ⟨-, -, -, -, threeBins, -⟩ := shape
    have : u.exit.bins.length = 3 := by simpa [u, State.atEdge, State.elapse, State.passExit] using threeBins
    omega
  have fallen := State.trayFallen_eq exit live declared
  have exitOf : (u.trayFallen n).exit = (u.trayFallBin n).exit := by
    rw [fallen]
    split <;> simp
  have bin (m : Nat) : (u.trayFallen n).bin m = (u.trayFallBin n).bin m := State.bin_congr (by rw [exitOf]) m
  have queued {e : Epoch} {p : Payload} (other : p.isReady = false) (h : (u.trayFallBin n).queued e p) :
      (u.trayFallen n).queued e p := by
    rw [fallen]
    split
    · exact State.evaluateReady_queued other ((State.Adds.reevaluate _).queued h)
    · exact (State.Adds.reevaluate _).queued h
  refine ⟨u.trayFallen n, runs, fun ejecting => ?_, fun state unforfeited => ?_, fun finishing => ?_, fun m _ other => ?_,
    fun path => ?_, fun path => ⟨fun room => ?_, ?_⟩, by simp, by simp, by simp, by simp, by simp, by simp [State.sameReception],
    by simp [State.sameSetup]⟩
  · obtain ⟨binN, purge, sent⟩ := State.trayFallBin_ejecting ejecting set one bins
    rw [bin, exitOf]
    exact ⟨binN, purge, fun room => queued rfl (sent room)⟩
  · obtain ⟨binN, purge, sent⟩ := State.trayFallBin_broken state set unforfeited one bins
    rw [bin, exitOf]
    exact ⟨binN, purge, fun room => queued rfl (sent room)⟩
  · rw [bin, exitOf]
    exact State.trayFallBin_finishing finishing one bins
  · rw [bin, State.trayFallBin_ne _ other]
  · rw [fallen, if_neg (by simpa using path)]
    simp [u.trayFallBin_frame]
  · rw [fallen, if_pos (by simp [path])]
    have still : (u.trayFallBin n).reevaluate = u.trayFallBin n :=
      State.reevaluate_still (by simp [State.path, u.trayFallBin_frame, show u.recovery.path = .clearance from path, movingPath])
    refine State.evaluateReady_stands _ ?_
    rw [still]
    have := u.trayFallBin_length n
    exact (State.txRoom_iff _).mpr (by omega)
  · rw [fallen, if_pos (by simp [path])]
    simpa [u.trayFallBin_frame] using (u.trayFallBin n).reevaluate.evaluateReady_recovery

end Sys2Proof.Machine
end

section
/-! PROOFS. The stop line (O29, O30). -/

namespace Sys2Proof.Machine

/-! ### The entry to STOPPING (08 R126) -/

/-- The drive's part of the entry to STOPPING. -/
theorem State.enterStopping_cases (s : State) (epoch : Epoch) :
    s.enterStopping epoch = (s.stopped epoch).halted ∨
      s.enterStopping epoch = s.stopped epoch ∧ (s.stopped epoch).drive.state ≠ .spinning ∧
        (s.stopped epoch).drive.state ≠ .running := by
  rw [State.enterStopping_eq, State.driveSync_stopping (by simp [State.stopped]) (by simp [State.stopped, Config.claimMs])]
  split
  · exact .inl rfl
  · rename_i still
    exact .inr ⟨rfl, fun h => still (.inl h), fun h => still (.inr h)⟩

theorem State.halted_frame (s : State) : let t := s.halted
    OuterKept s t ∧ GateKept s t ∧ t.link = s.link ∧ t.table = s.table ∧ t.roster = s.roster ∧ t.track.queue = s.track.queue ∧
      t.track.expected = s.track.expected ∧ t.track.pickCandidate = s.track.pickCandidate ∧ t.handoff = s.handoff ∧
      t.imaging = s.imaging ∧ t.exit = s.exit ∧ t.recovery = s.recovery := by
  simp [State.halted]

/-- 05 R91, 06 R107: an entry at the entry to STOPPING. -/
def Entry.stopped (e : Entry) : Entry :=
  { e with release := false, deferred := false, offer := .unoffered, parked := some e.context }

theorem State.stopped_queue (s : State) (epoch : Epoch) : (s.stopped epoch).track.queue = s.track.queue.map Entry.stopped := by
  simp [State.stopped, State.voidHandoffs, State.parkAll, State.mapQueue, State.endPick, State.stopBins, Entry.stopped]

theorem State.stopped_exit (s : State) (epoch : Epoch) :
    (s.stopped epoch).exit = { s.exit with bins := s.exit.bins.map Bin.stop } := by
  simp [State.stopped, State.stopBins]

theorem State.stopped_handoff (s : State) (epoch : Epoch) : (s.stopped epoch).handoff =
    { offers := s.handoff.offers.map fun o =>
        { o with state := .idle, offered := [], answer := .stopped, reoffer := .stopped, retryMet := false }
      deferred := [] } := by
  simp [State.stopped, State.voidHandoffs]

theorem State.stopped_pick (s : State) (epoch : Epoch) : (s.stopped epoch).feed.pick = .idle ∧
    (s.stopped epoch).feed.pickOut = false ∧ (s.stopped epoch).track.pickTimer = .stopped ∧
    (s.stopped epoch).track.pickCandidate = s.track.pickCandidate := by
  simp [State.stopped, State.endPick]

theorem State.stopped_link (s : State) (epoch : Epoch) :
    (s.stopped epoch).link = (s.withdrawFrames Payload.isRecovery).link := by
  simp [State.stopped, State.withdrawRecovery]

theorem State.stopped_recovery (s : State) (epoch : Epoch) : (s.stopped epoch).recovery = { s.recovery with
    report := [], planOut := [], readyNext := false, path := .stopping, epoch := epoch
    claim := .running 100, lineHeld := .running 2000, survey := .stopped, driveJam := false } := by
  simp [State.stopped, State.withdrawRecovery, Config.claimMs, Config.lineHeldMs]

theorem State.stopped_drive (s : State) (epoch : Epoch) : (s.stopped epoch).drive = { s.drive with gateHeld := true } := by
  simp [State.stopped]

/-- 08 R127: what the withdrawal leaves of the frames that wait. -/
theorem State.withdrawFrames_selected (s : State) (sel : Payload → Bool) :
    ∀ f ∈ (s.withdrawFrames sel).link.queue, sel f.payload = true → f.sending = true ∧ f.withdrawn = true := by
  intro f hf selected
  simp only [State.withdrawFrames, List.mem_map, List.mem_filter] at hf
  obtain ⟨g, ⟨-, stays⟩, rfl⟩ := hf
  by_cases h : sel g.payload = true
  · simp_all
  · simp_all

theorem State.withdrawFrames_others (s : State) (sel : Payload → Bool) :
    ∀ f ∈ s.link.queue, sel f.payload = false → f ∈ (s.withdrawFrames sel).link.queue := by
  intro f hf other
  simp only [State.withdrawFrames, List.mem_map, List.mem_filter]
  exact ⟨f, ⟨hf, by simp [other]⟩, by simp [other]⟩

/-- What the two ends of the entry to STOPPING have in common. -/
theorem State.enterStopping_blocks (s : State) (epoch : Epoch) : let t := s.enterStopping epoch
    let b := s.stopped epoch
    t.link = b.link ∧ t.recovery = b.recovery ∧ t.track.queue = b.track.queue ∧ t.track.expected = b.track.expected ∧
      t.track.pickCandidate = b.track.pickCandidate ∧ t.track.pickTimer = .stopped ∧ t.feed.pick = .idle ∧
      t.feed.pickOut = false ∧ t.handoff = b.handoff ∧ t.exit = b.exit ∧ t.drive.gate = b.drive.gate ∧
      t.drive.gateHeld = b.drive.gateHeld ∧ (t.drive.state = .off ∨ t.drive.state = .halting) := by
  obtain ⟨pick, out, timer, -⟩ := s.stopped_pick epoch
  dsimp only
  rcases s.enterStopping_cases epoch with eq | ⟨eq, spinning, running⟩
  · rw [eq]
    refine ⟨rfl, rfl, rfl, rfl, rfl, rfl, rfl, rfl, rfl, rfl, rfl, rfl, ?_⟩
    by_cases h : (s.stopped epoch).reads .drdy <;> simp [State.halted, h]
  · rw [eq]
    refine ⟨rfl, rfl, rfl, rfl, rfl, timer, pick, out, rfl, rfl, rfl, rfl, ?_⟩
    cases state : (s.stopped epoch).drive.state with
    | off => exact .inl rfl
    | halting => exact .inr rfl
    | spinning => exact absurd state spinning
    | running => exact absurd state running

theorem State.fallen_stops {s : State} (h : s.path ∈ [PathState.run, .survey, .runout, .clearance, .plan, .resuming]) :
    s.fallen = s.enterStopping (s.recovery.epoch + 1) := by
  simp only [List.mem_cons, List.not_mem_nil, or_false] at h
  rcases h with h | h | h | h | h | h <;> simp [State.fallen, h]

theorem exec_stopLineFall {s : State} (h : s.link.lineLow = false) :
    exec .stopLineFall s = .next ({ s with link.lineLow := true } : State).fallen := by
  refine congrArg Host.Outcome.next ?_
  rw [if_neg (by simp [h])]

/-- Settles O29. -/
theorem stopLineFallByPathState : Obligations.StopLineFallByPathState := by
  unfold Obligations.StopLineFallByPathState
  refine ⟨fun s high path => ?_, fun s high => ⟨fun path => ?_, fun path => ?_⟩⟩
  · let u : State := { s with link.lineLow := true }
    let epoch := s.recovery.epoch + 1
    have fallen : u.fallen = u.enterStopping epoch := State.fallen_stops path
    obtain ⟨pathT, epochT, claim, lineHeld, den, pickOut, expected⟩ := u.enterStopping_stands epoch
    obtain ⟨link, recovery, queue, -, candidate, timer, pick, -, handoff, exit, gate, held, state⟩ := u.enterStopping_blocks epoch
    rw [u.stopped_link] at link
    rw [u.stopped_recovery] at recovery
    rw [u.stopped_drive] at gate held
    refine ⟨u.fallen, exec_stopLineFall high, ?_⟩
    rw [fallen]
    refine ⟨by simp [u], den, pathT, epochT, claim, lineHeld, by rw [recovery], by rw [recovery], by rw [recovery], by rw [recovery],
      ?_, expected, ?_, timer, pick, pickOut, ?_, ?_, state, gate, held, ?_, ?_, ?_, by simp [u], by simp [u], by simp [u], ?_,
      by simp [u, State.sameSetup], by simp [u, State.sameReplica]⟩
    · rw [queue, u.stopped_queue]
      rfl
    · obtain ⟨-, -, -, kept⟩ := u.stopped_pick epoch
      rw [candidate, kept]
    · rw [handoff, u.stopped_handoff]
      intro o ho
      obtain ⟨o', -, rfl⟩ := List.mem_map.mp ho
      exact ⟨rfl, rfl, rfl, rfl⟩
    · rw [handoff, u.stopped_handoff]
    · rw [exit, u.stopped_exit]
    · rw [link]
      exact u.withdrawFrames_selected _
    · rw [link]
      exact u.withdrawFrames_others _
    · rw [link]
      rfl
  · have fallen : ({ s with link.lineLow := true } : State).fallen = ({ s with link.lineLow := true } : State).parkAll.reloadSilence := by
      have path' : ({ s with link.lineLow := true } : State).path = .stopping := path
      simp only [State.fallen, path']
    refine ⟨_, exec_stopLineFall high, ?_⟩
    rw [fallen]
    exact ⟨rfl, rfl, rfl, rfl, rfl, rfl, rfl, rfl, ⟨rfl, rfl, rfl, rfl, rfl⟩, rfl⟩
  · rw [exec_stopLineFall high]
    have fallen : ({ s with link.lineLow := true } : State).fallen = { s with link.lineLow := true } := by
      simp only [List.mem_cons, List.not_mem_nil, or_false, State.path] at path
      rcases path with h | h | h | h | h | h <;> simp [State.fallen, State.path, h]
    rw [fallen]

/-! ### The survey opens (08 R129) -/

theorem State.rank_congr {s t : State} (table : t.table = s.table) (profile : t.profile = s.profile) :
    t.rank t.own = s.rank s.own := by
  have entry : t.entry = s.entry := by funext p; simp [State.entry, table]
  have present : t.presentList = s.presentList := by
    unfold State.presentList State.isPresent
    rw [entry]
  have own : t.own = s.own := by simp [State.own, State.prof, profile]
  rw [State.rank, State.rank, present, own]

/-- The survey has opened, with the survey timer of this station's rank in `s`. -/
structure State.surveyOpened (s t : State) : Prop where
  path : t.recovery.path = .survey
  timer : t.recovery.survey = .running (400 + 100 * s.rank s.own)
  expected : t.track.expected = []
  candidate : t.track.pickCandidate = none

/-- 08 R129: what stands at the survey opening. -/
theorem State.openSurvey_opens {s t : State} (table : t.table = s.table) (profile : t.profile = s.profile) :
    s.surveyOpened t.openSurvey := by
  unfold State.openSurvey State.enterSurvey
  dsimp only
  refine ⟨by simp, ?_, by simp, by simp⟩
  rw [State.rank_congr (s := s) (by simpa using table) (by simpa using profile)]
  simp [Config.surveyMs, Config.surveyRankMs]

/-- 08 R129: the three conditions hold. -/
theorem State.surveyTest_opens {s : State} (path : s.path = .stopping) (drive : s.drive.state = .off ∨ s.recovery.driveJam = true)
    (released : s.lineIsLow = false) (claim : s.recovery.claim = .expired) : s.surveyTest = s.openSurvey := by
  unfold State.surveyTest
  rw [if_pos]
  rcases drive with h | h <;> simp [path, h, released, claim]

theorem State.driveSync_claimed {s : State} (path : s.path = .stopping) (claim : s.recovery.claim ≠ .expired) :
    s.driveSync.surveyTest.recovery = s.recovery := by
  have path' : s.recovery.path = .stopping := path
  rw [State.driveSync_stopping path' claim]
  split
  · rw [State.surveyTest_claimed (by simpa [State.halted_frame] using claim)]
    simp [State.halted_frame]
  · rw [State.surveyTest_claimed claim]

/-- 04 R64: a halt in STOPPING. -/
theorem State.driveHalt_halts {s : State} (path : s.path = .stopping) :
    s.driveHalt = if s.reads .drdy then s.halted else s.halted.surveyTest.spinTest := by
  have path' : s.recovery.path = .stopping := path
  unfold State.driveHalt State.driveOff
  dsimp only
  rw [State.reevaluate_still (by simp [State.path, path', movingPath])]
  split
  · simp [State.halted, *]
  · rw [State.reevaluate_still (by simp [State.path, path', movingPath])]
    simp [State.halted, *]

/-- 08 R129: a DRIVE jam's halt in STOPPING, after which the survey opens. -/
theorem State.driveHalt_opens {s : State} (path : s.path = .stopping) (jam : s.recovery.driveJam = true)
    (released : s.lineIsLow = false) (claim : s.recovery.claim = .expired) : s.surveyOpened s.driveHalt.surveyTest := by
  have opens : s.halted.surveyTest = s.halted.openSurvey :=
    State.surveyTest_opens path (.inr jam) (by simpa [State.lineIsLow, State.pulling, State.halted_frame] using released) claim
  have opened : s.surveyOpened s.halted.openSurvey := State.openSurvey_opens rfl rfl
  rw [State.driveHalt_halts path]
  split
  · rw [opens]
    exact opened
  · rw [opens, State.spinTest_unasked (by rw [State.driveRequest, State.path, opened.path]),
      State.surveyTest_away (by rw [State.path, opened.path]; simp)]
    exact opened

/-- 08 R129: a rise in STOPPING once the claim window has run out and the drive has halted. -/
theorem State.risen_opens {s : State} (path : s.path = .stopping) (drive : s.drive.state = .off ∨ s.recovery.driveJam = true)
    (released : s.lineIsLow = false) (claim : s.recovery.claim = .expired) : s.surveyOpened s.driveSync.surveyTest := by
  have unasked : s.driveRequest = false := by simp [State.driveRequest, path]
  have still (same : s.driveSync = s) : s.surveyOpened s.driveSync.surveyTest := by
    rw [same, State.surveyTest_opens path drive released claim]
    exact State.openSurvey_opens rfl rfl
  cases state : s.drive.state with
  | off => exact still (by rw [State.driveSync_off state, State.spinTest_unasked unasked])
  | halting => exact still (by simp [State.driveSync, state])
  | spinning =>
    have jam : s.recovery.driveJam = true := drive.resolve_left (by simp [state])
    have halt : s.driveSync = s.driveHalt := by simp [State.driveSync, state, unasked]
    rw [halt]
    exact State.driveHalt_opens path jam released claim
  | running =>
    have jam : s.recovery.driveJam = true := drive.resolve_left (by simp [state])
    have halt : s.driveSync = s.driveHalt := by simp [State.driveSync, state, unasked]
    rw [halt]
    exact State.driveHalt_opens path jam released claim

theorem State.risen_away {s : State} (path : s.path ≠ .clearance) : s.risen = s.driveSync.surveyTest := by
  simp [State.risen, path]

/-- Settles O30. -/
theorem riseCompletesConditions : Obligations.RiseCompletesConditions := by
  unfold Obligations.RiseCompletesConditions
  intro s low
  refine ⟨fun pulling => ?_, fun free => ?_⟩
  · refine congrArg Host.Outcome.next ?_
    rw [if_pos (by simp [pulling])]
  · let u : State := { s with link.lineLow := false }
    have runs : exec .stopLineRise s = .next u.risen := by
      refine congrArg Host.Outcome.next ?_
      rw [if_neg (by simp [low, free])]
    have released : u.lineIsLow = false := by
      have pulling : u.pulling = s.pulling := rfl
      simp [State.lineIsLow, pulling, free, u]
    refine ⟨u.risen, runs, by simp [u], fun off path door => ?_, fun path drive claim => ?_, fun path claim => ?_, by simp [u],
      by simp [u], by simp [u], by simp [u], by simp [u], by simp [u], by simp [u, State.sameSetup]⟩
    · have request : u.driveRequest = true := by
        rcases path with h | h <;> simp [State.driveRequest, show u.path = _ from h]
      have spins := State.spinTest_spins (s := u) off request released door
      have away : u.path ≠ .clearance := by
        rcases path with h | h <;> simp [show u.path = _ from h]
      rw [State.risen_away away, State.driveSync_off (show u.drive.state = .off from off)]
      simpa [u, State.reads] using spins
    · have away : u.path ≠ .clearance := by simp [show u.path = .stopping from path]
      have opened := State.risen_opens (s := u) path drive released claim
      rw [State.risen_away away]
      exact ⟨opened.path, opened.expected, opened.candidate, opened.timer⟩
    · have away : u.path ≠ .clearance := by simp [show u.path = .stopping from path]
      rw [State.risen_away away]
      exact State.driveSync_claimed (s := u) path claim

end Sys2Proof.Machine
end

section
/-! PROOFS. Attempts and collisions (O31, O32). -/

namespace Sys2Proof.Machine

/-! ### The frame chosen and the frame sent (02 R27) -/

/-- 02 R27: `f` is the frame of the slot, or else the oldest URGENT frame, or else the oldest frame. -/
abbrev State.nextToSend (s : State) (f : TxFrame) : Prop :=
  match s.link.slot with
  | some x => f = x
  | none => ∃ pre post, s.link.queue = pre ++ f :: post ∧
      ((f.payload.urgent = true ∧ ∀ x ∈ pre, x.payload.urgent = false) ∨
        (pre = [] ∧ ∀ x ∈ s.link.queue, x.payload.urgent = false))

theorem State.chosen_eq {s : State} {f : TxFrame} (h : s.nextToSend f) : s.chosen = some f := by
  unfold State.nextToSend at h
  unfold State.chosen
  split at h
  · rename_i x slot
    simp [slot, h]
  · rename_i slot
    obtain ⟨pre, post, queue, ⟨urgent, before⟩ | ⟨rfl, calm⟩⟩ := h
    · rw [slot, queue, find?_split _ f pre post urgent before]
      rfl
    · have none : s.link.queue.find? (fun f => f.payload.urgent) = none := by
        simpa using calm
      rw [slot, none, queue]
      rfl

theorem State.changeFrame_split (p : TxFrame → Bool) (g : TxFrame → TxFrame) (f : TxFrame) (post : List TxFrame)
    (hf : p f = true) : ∀ pre : List TxFrame, (∀ x ∈ pre, p x = false) →
      changeFrame p g (pre ++ f :: post) = pre ++ g f :: post
  | [], _ => by simp [changeFrame, hf]
  | x :: pre, h => by
    simp [changeFrame, h x, State.changeFrame_split p g f post hf pre fun y hy => h y (List.mem_cons_of_mem x hy)]

/-- What an attempt makes of LINK. -/
def State.transmitted (s : State) (g : TxFrame → TxFrame) : Link :=
  let go := fun x => { g x with sending := true }
  match s.link.slot with
  | some x => { s.link with slot := some (go x), backoff := false }
  | none => { s.link with
      queue := changeFrame (fun x => if s.link.queue.any fun x => x.payload.urgent then x.payload.urgent else true) go s.link.queue
      backoff := false }

theorem State.transmit_eq (s : State) (g : TxFrame → TxFrame) : s.transmit g = { s with
    link := s.transmitted g, table.listen := if s.path = .listen then .running 1500 else s.table.listen } := by
  unfold State.transmit State.transmitted
  dsimp only
  rw [State.linkBusy_eq]
  cases slot : s.link.slot with
  | some x => rfl
  | none =>
    dsimp only
    cases urgent : s.link.queue.any fun x => x.payload.urgent with
    | true => rfl
    | false => rfl

theorem State.transmitted_shape (s : State) (g : TxFrame → TxFrame) :
    (s.transmitted g).queue.length = s.link.queue.length ∧ ((s.transmitted g).slot = none ↔ s.link.slot = none) ∧
      s.transmitted g = { s.link with
        slot := (s.transmitted g).slot, queue := (s.transmitted g).queue, backoff := false } := by
  unfold State.transmitted
  cases slot : s.link.slot with
  | some x => simp
  | none => simp [State.Keeps.changeFrame_length, slot]

theorem State.sending_none {s : State} (h : s.sending = none) :
    (∀ x, s.link.slot = some x → x.sending = false) ∧ ∀ x ∈ s.link.queue, x.sending = false := by
  unfold State.sending at h
  split at h
  · rename_i x slot
    split at h
    · cases h
    · rename_i idle
      exact ⟨fun y hy => by simp_all, by simpa using h⟩
  · rename_i slot
    exact ⟨by simp [slot], by simpa using h⟩

/-- 02 R27: the frame put in transmission. -/
theorem State.transmit_sending {s : State} {f : TxFrame} (idle : s.sending = none) (chosen : s.nextToSend f)
    (g : TxFrame → TxFrame) : (s.transmit g).sending = some { g f with sending := true } := by
  rw [State.transmit_eq]
  unfold State.nextToSend at chosen
  unfold State.sending State.transmitted
  dsimp only
  split at chosen
  · rename_i x slot
    subst chosen
    simp [slot]
  · rename_i slot
    obtain ⟨pre, post, queue, which⟩ := chosen
    have quiet : ∀ x ∈ pre, x.sending = false := fun x hx =>
      (State.sending_none idle).2 x (by rw [queue]; exact List.mem_append_left _ hx)
    have moved : changeFrame (fun x => if s.link.queue.any fun x => x.payload.urgent then x.payload.urgent else true)
        (fun x => { g x with sending := true }) s.link.queue = pre ++ { g f with sending := true } :: post := by
      have selects : ∀ p : TxFrame → Bool, p f = true → (∀ x ∈ pre, p x = false) →
          changeFrame p (fun x => { g x with sending := true }) s.link.queue = pre ++ { g f with sending := true } :: post := by
        intro p hf hp
        rw [queue]
        exact State.changeFrame_split p _ f post hf pre hp
      rcases which with ⟨urgent, before⟩ | ⟨rfl, calm⟩
      · have some : (s.link.queue.any fun x => x.payload.urgent) = true := by
          rw [List.any_eq_true]
          exact ⟨f, by simp [queue], urgent⟩
        exact selects _ (by simp [some, urgent]) fun x hx => by simp [some, before x hx]
      · have none : (s.link.queue.any fun x => x.payload.urgent) = false := by simpa using calm
        exact selects _ (by simp [none]) (by simp)
    rw [slot]
    dsimp only
    rw [moved]
    exact find?_split _ _ pre post rfl quiet

theorem exec_attempt {s : State} {f : TxFrame} (idle : s.sending = none) (chosen : s.nextToSend f) (quiet : Nat) :
    exec (.linkAttemptStart quiet) s = .next (if s.path != .profileRead && s.gap f ≤ quiet then s.attempt f else s) := by
  refine congrArg Host.Outcome.next ?_
  rw [idle, State.chosen_eq chosen]

/-- Settles O31. -/
theorem attemptTransmits : Obligations.AttemptTransmits := by
  unfold Obligations.AttemptTransmits
  intro s quiet f path idle chosen wait
  have runs := exec_attempt idle chosen quiet
  have gap : s.gap f = wait := rfl
  have begins (h : wait ≤ quiet) : exec (.linkAttemptStart quiet) s = .next (s.attempt f) := by
    rw [runs, if_pos (by simp [path, gap, h])]
  refine ⟨fun early => ?_, fun late other low => ?_, fun late close => ⟨fun rx => ?_, fun rx some => ?_⟩⟩
  · rw [runs, if_neg (by simp [gap, early])]
  · let g : TxFrame → TxFrame := fun x => if f.payload.isJam then { x with epoch := s.recovery.epoch } else x
    have attempt : s.attempt f = s.transmit g := by
      cases jam : f.payload.isJam with
      | true => simp [State.attempt, jam, low jam, g]
      | false =>
        simp only [State.attempt, jam, other, g]
        rfl
    obtain ⟨length, slot, link⟩ := s.transmitted_shape g
    refine ⟨s.transmit g, by rw [begins late, attempt], ?_, ?_, ?_, ?_⟩
    · rw [State.transmit_sending idle chosen]
      cases jam : f.payload.isJam <;> simp [g, jam]
    · rw [State.transmit_eq]
      exact length
    · rw [State.transmit_eq]
      exact slot
    · rw [State.transmit_eq]
      exact State.eq_of_blocks ⟨rfl, rfl, rfl, rfl, rfl, link, rfl, rfl, rfl, rfl, rfl, rfl, rfl, rfl, rfl⟩
  · have jam : f.payload.isJam = false := by cases h : f.payload <;> simp_all [Payload.isClose, Payload.isJam]
    rw [begins late]
    simp [State.attempt, jam, close, rx]
  · have jam : f.payload.isJam = false := by cases h : f.payload <;> simp_all [Payload.isClose, Payload.isJam]
    refine ⟨s.transmit fun x => { x with payload := .close s.notHeard }, ?_, State.transmit_sending idle chosen _⟩
    rw [begins late]
    simp [State.attempt, jam, close, rx, some]

/-! ### Collisions (02 R28, R29) -/

/-- LINK after a collision that keeps the frame. -/
def Link.collided (l : Link) : Link :=
  let hit := fun g : TxFrame => if g.sending then { g with sending := false, collisions := g.collisions + 1 } else g
  { l with backoff := true, slot := l.slot.map hit, queue := l.queue.map hit }

theorem exec_collision {s : State} {f : TxFrame} (h : s.sending = some f) : exec .collision s = .next (s.collide f) := by
  refine congrArg Host.Outcome.next ?_
  rw [h]

theorem State.collide_kept {s : State} {f : TxFrame} (stays : f.withdrawn = false) (few : f.collisions + 1 < 16) :
    s.collide f = ({ s with link := s.link.collided } : State).linkBusy.nextReady := by
  unfold State.collide
  dsimp only
  rw [if_neg (by simp [stays]), if_neg (show ¬ Config.collisionMax ≤ f.collisions + 1 from Nat.not_le.mpr few)]
  rfl

theorem State.collide_withdrawn {s : State} {f : TxFrame} (withdrawn : f.withdrawn = true) :
    s.collide f = ({ s with link := { s.removeSending.link with backoff := true } } : State).linkBusy.nextReady := by
  unfold State.collide
  dsimp only
  rw [if_pos withdrawn]
  rfl

/-- The state from which a frame is abandoned. -/
def State.removedSending (s : State) : State := { s with link := { s.removeSending.link with backoff := true } }

theorem State.collide_abandoned {s : State} {f : TxFrame} (stays : f.withdrawn = false) (many : 16 ≤ f.collisions + 1) :
    s.collide f = (s.removedSending.abandoned f).linkBusy.nextReady := by
  unfold State.collide
  dsimp only
  rw [if_neg (by simp [stays]), if_pos (show Config.collisionMax ≤ f.collisions + 1 from many)]
  rfl

theorem State.linkBusy_away {s : State} (h : s.path ≠ .listen) : s.linkBusy = s := by simp [State.linkBusy, h]

theorem Link.collided_idle (l : Link) : ∀ g ∈ l.collided.queue, g.sending = false := by
  intro g hg
  obtain ⟨x, -, rfl⟩ := List.mem_map.mp hg
  by_cases h : x.sending
  · simp [h]
  · simp [h]

/-- 11 R181: with no frame in transmission a waiting READY is replaced. -/
theorem State.sendReady_replaces {s : State} (idle : ∀ g ∈ s.link.queue, g.sending = false)
    (waits : ∃ g ∈ s.link.queue, g.payload.isReady = true) : s.sendReady = { s with
      link.queue := s.link.queue.map fun f => if f.payload.isReady && !f.sending then s.newFrame .plain s.readyFrame else f } := by
  unfold State.sendReady
  rw [if_pos]
  obtain ⟨g, mem, ready⟩ := waits
  rw [List.any_eq_true]
  exact ⟨g, mem, by simp [ready, idle g mem]⟩

theorem State.nextReady_sends {s : State} (next : s.recovery.readyNext = true) (path : s.path = .clearance)
    (revs : s.recovery.pendingRevs = []) : s.nextReady = ({ s with recovery.readyNext := false } : State).sendReady := by
  unfold State.nextReady
  rw [if_pos next]
  have path' : ({ s with recovery.readyNext := false } : State).path = .clearance := path
  exact if_pos (by rw [Bool.and_eq_true]; exact ⟨beq_iff_eq.mpr path', by simp [revs]⟩)

/-- O32, a READY that a newer one waits behind. -/
theorem State.collide_ready {s : State} {f : TxFrame} (stays : f.withdrawn = false) (few : f.collisions + 1 < 16)
    (next : s.recovery.readyNext = true) (path : s.path = .clearance) (revs : s.recovery.pendingRevs = [])
    (ready : f.payload.isReady = true) (mem : f ∈ s.link.queue) : let t := s.collide f
    t.queued s.recovery.epoch (.ready s.recovery.clearFlag s.ownDigest) ∧
      (∀ g ∈ t.link.queue, g.payload.isReady = true → g.collisions = 0 ∧ g.sending = false) ∧
      t.link.queue.length = s.link.queue.length ∧
      t = { s with link := { s.link.collided with queue := t.link.queue }, recovery.readyNext := false } := by
  let u : State := { s with link := s.link.collided, recovery.readyNext := false }
  have waits : ∃ g ∈ u.link.queue, g.payload.isReady = true := by
    refine ⟨_, List.mem_map_of_mem mem, ?_⟩
    by_cases h : f.sending
    · simp [h, ready]
    · simp [h, ready]
  have sends : s.collide f = u.sendReady := by
    rw [State.collide_kept stays few, State.linkBusy_away (by simp [show ({ s with link := s.link.collided } : State).path = .clearance from path])]
    exact State.nextReady_sends (s := { s with link := s.link.collided }) next path revs
  dsimp only
  rw [sends, State.sendReady_replaces s.link.collided_idle waits]
  refine ⟨?_, ?_, by simp [u, Link.collided], rfl⟩
  · obtain ⟨g, hg, gReady⟩ := waits
    refine ⟨_, List.mem_map_of_mem hg, ?_⟩
    simp [gReady, s.link.collided_idle g hg, State.newFrame, State.readyFrame, State.ownDigest, u]
  · intro g hg gReady
    obtain ⟨x, hx, rfl⟩ := List.mem_map.mp hg
    by_cases h : x.payload.isReady
    · simp [h, s.link.collided_idle x hx, State.newFrame]
    · simp [h] at gReady

/-! ### The 16th collision (02 R29) -/

/-- A claim stays when a READY is queued. -/
theorem State.sendReady_jamQueued {s : State} {k : JamKind} {zone : Nat} {x : Option Serial} (h : s.jamQueued k zone x) :
    s.sendReady.jamQueued k zone x := by
  unfold State.sendReady
  split
  · obtain ⟨f, payload, slot | mem⟩ := h
    · exact ⟨f, payload, .inl slot⟩
    · exact ⟨f, payload, .inr (List.mem_map.mpr ⟨f, mem, by simp [payload, Payload.isReady]⟩)⟩
  · split
    · exact (State.Adds.of rfl).jamQueued h
    · exact (State.Adds.queueFrame s _).jamQueued h

theorem State.nextReady_jamQueued {s : State} {k : JamKind} {zone : Nat} {x : Option Serial} (h : s.jamQueued k zone x) :
    s.nextReady.jamQueued k zone x := by
  unfold State.nextReady State.queueReady
  dsimp only
  split
  · split
    · exact State.sendReady_jamQueued (s := { s with recovery.readyNext := false }) h
    · exact h
  · exact h

theorem State.sendReady_eq (s : State) : s.sendReady = { s with
    link := s.sendReady.link, recovery.readyNext := s.sendReady.recovery.readyNext } := by
  unfold State.sendReady
  split
  · rfl
  · split
    · rfl
    · exact State.eq_of_blocks (by simp)

theorem State.nextReady_eq (s : State) : s.nextReady = { s with
    link := s.nextReady.link, recovery.readyNext := s.nextReady.recovery.readyNext } := by
  unfold State.nextReady State.queueReady
  dsimp only
  split
  · split
    · rw [State.sendReady_eq]
    · rfl
  · rfl

/-- 07 R122: an abandoned PASS leaves the outstanding pass list. -/
def State.passDropped (s : State) (f : TxFrame) : State :=
  match f.payload with
  | .pass x side _ => { s with imaging.passes := s.imaging.passes.filter fun p => p != (x, side) }
  | _ => s

theorem State.passDropped_eq (s : State) (f : TxFrame) :
    s.passDropped f = { s with imaging.passes := (s.passDropped f).imaging.passes } := by
  unfold State.passDropped
  split <;> rfl

theorem State.passDropped_other {s : State} {f : TxFrame} (h : ∀ x side pass, f.payload ≠ .pass x side pass) :
    s.passDropped f = s := by
  unfold State.passDropped
  split
  · rename_i x side pass payload
    exact absurd payload (h x side pass)
  · rfl

theorem State.passDropped_path (s : State) (f : TxFrame) : (s.passDropped f).path = s.path := by
  rw [State.passDropped_eq]
  rfl

theorem State.abandoned_live {s : State} {f : TxFrame} (live : livePath s.path = true)
    (other : ∀ zone serial, f.payload ≠ .jam .link zone serial) : s.abandoned f = (s.passDropped f).detect .link 0 none := by
  have live' : livePath (s.passDropped f).path = true := by rw [State.passDropped_path]; exact live
  have eq : s.abandoned f = if livePath (s.passDropped f).path then
      (match f.payload with
       | .jam .link _ _ => s.passDropped f
       | _ => (s.passDropped f).detect .link 0 none)
    else if (s.passDropped f).path == .rollcall then
      (match f.payload with
       | .join _ _ => (s.passDropped f).queueFrame (s.passDropped f).joinFrame
       | _ => s.passDropped f)
    else s.passDropped f := rfl
  rw [eq, if_pos live']
  split
  · rename_i zone serial payload
    exact absurd payload (other zone serial)
  · rfl

theorem State.abandoned_jamLink {s : State} {f : TxFrame} {zone : Nat} {serial : Option Serial}
    (live : livePath s.path = true) (jam : f.payload = .jam .link zone serial) : s.abandoned f = s := by
  unfold State.abandoned
  simp [jam, live]

theorem State.abandoned_listen {s : State} {f : TxFrame} (path : s.path = .listen)
    (other : ∀ x side pass, f.payload ≠ .pass x side pass) : s.abandoned f = s := by
  have same : s.abandoned f = s.passDropped f := by
    have path' : (s.passDropped f).path = .listen := by rw [State.passDropped_path]; exact path
    have eq : s.abandoned f = if livePath (s.passDropped f).path then
        (match f.payload with
         | .jam .link _ _ => s.passDropped f
         | _ => (s.passDropped f).detect .link 0 none)
      else if (s.passDropped f).path == .rollcall then
        (match f.payload with
         | .join _ _ => (s.passDropped f).queueFrame (s.passDropped f).joinFrame
         | _ => s.passDropped f)
      else s.passDropped f := rfl
    rw [eq, if_neg (by simp [path', livePath]), if_neg (by simp [path'])]
  rw [same, State.passDropped_other other]

theorem State.abandoned_join {s : State} {f : TxFrame} {m : Summary} {o : Bool} (path : s.path = .rollcall)
    (join : f.payload = .join m o) : s.abandoned f = s.queueFrame s.joinFrame := by
  unfold State.abandoned
  simp [join, path, livePath]

/-- A frame abandoned from RUN on changes LINK and the outstanding passes alone. -/
theorem State.abandoned_eq {s : State} (f : TxFrame) (live : livePath s.path = true) :
    s.abandoned f = { s with link := (s.abandoned f).link, imaging.passes := (s.passDropped f).imaging.passes } := by
  by_cases jam : ∃ zone serial, f.payload = .jam .link zone serial
  · obtain ⟨zone, serial, payload⟩ := jam
    rw [State.abandoned_jamLink live payload, State.passDropped_other (by simp [payload])]
  · have other : ∀ zone serial, f.payload ≠ .jam .link zone serial := fun zone serial h => jam ⟨zone, serial, h⟩
    rw [State.abandoned_live live other, State.detect_link]
    exact congrArg (fun w : State => { w with link := ((s.passDropped f).detect .link 0 none).link }) (s.passDropped_eq f)

/-- O32, the 16th collision from RUN on. -/
theorem State.collide_live {s : State} {f : TxFrame} (stays : f.withdrawn = false) (many : 16 ≤ f.collisions + 1)
    (live : livePath s.path = true) : let t := s.collide f
    ((∀ zone serial, f.payload ≠ .jam .link zone serial) → s.removeSending.canClaim → t.jamQueued .link 0 none) ∧
      ((∃ zone serial, f.payload = .jam .link zone serial) → s.recovery.readyNext = false →
        t = { s with link := { s.removeSending.link with backoff := true } }) ∧
      (∀ x side pass, f.payload = .pass x side pass → (x, side) ∉ t.imaging.passes) ∧
      t.link.rx = s.link.rx ∧
      t = { s with
        link := t.link, imaging.passes := t.imaging.passes
        recovery.readyNext := t.recovery.readyNext } := by
  have live' : livePath s.removedSending.path = true := live
  have collide : s.collide f = (s.removedSending.abandoned f).nextReady := by
    have path : (s.removedSending.abandoned f).path = s.path := by
      rw [State.abandoned_eq f live']
      rfl
    rw [State.collide_abandoned stays many, State.linkBusy_away]
    rw [path]
    rintro h
    simp [h, livePath] at live
  have passes : (s.collide f).imaging.passes = (s.removedSending.passDropped f).imaging.passes := by
    rw [collide, State.nextReady_eq, State.abandoned_eq f live']
  dsimp only
  refine ⟨fun other claim => ?_, fun ⟨zone, serial, jam⟩ next => ?_, fun x side pass payload => ?_, by simp, ?_⟩
  · rw [collide, State.abandoned_live live' other]
    refine State.nextReady_jamQueued (State.detect_jamQueued _ _ _ _ ?_)
    rw [State.passDropped_eq]
    exact claim
  · rw [collide, State.abandoned_jamLink live' jam, State.nextReady_none _ (by exact next)]
    rfl
  · rw [passes]
    simp [State.passDropped, payload]
  · rw [collide, State.nextReady_eq, State.abandoned_eq f live']
    rfl

/-- Settles O32. -/
theorem collisionsBackOffAndAbandon : Obligations.CollisionsBackOffAndAbandon := by
  unfold Obligations.CollisionsBackOffAndAbandon
  intro s f sends listen removed hit kept
  have runs := exec_collision sends
  refine ⟨fun stays few => ⟨fun next => ?_, fun next unqueued => ?_, fun next path revs ready mem => ?_⟩, fun withdrawn next => ?_,
    fun stays many => ⟨fun live => ?_, fun path next other => ?_, fun m o path next join room => ?_⟩⟩
  · rw [runs, State.collide_kept stays few, State.linkBusy_eq, State.nextReady_none _ (by exact next)]
    rfl
  · rw [runs, State.collide_kept stays few, State.linkBusy_eq, State.nextReady_kept _ (by exact next) (by exact unqueued)]
    rfl
  · exact ⟨s.collide f, runs, State.collide_ready stays few next path revs ready mem⟩
  · rw [runs, State.collide_withdrawn withdrawn, State.linkBusy_eq, State.nextReady_none _ (by exact next)]
    rfl
  · exact ⟨s.collide f, runs, State.collide_live stays many live⟩
  · have path' : s.removedSending.path = .listen := path
    rw [runs, State.collide_abandoned stays many, State.abandoned_listen path' other, State.linkBusy_eq,
      State.nextReady_none _ (by exact next)]
    rfl
  · have path' : s.removedSending.path = .rollcall := path
    rw [runs, State.collide_abandoned stays many, State.abandoned_join path' join,
      State.queueFrame_room _ _ (by simpa [State.txRoom, State.removedSending] using room),
      State.linkBusy_away (by simp [State.pushTx, State.path, show s.removedSending.recovery.path = .rollcall from path]),
      State.nextReady_none _ (by exact next)]
    rfl

end Sys2Proof.Machine
end

section
/-! PROOFS. Completions (O33, O34). -/

namespace Sys2Proof.Machine

/-! ### Frames that are lost (02 R35) -/

theorem State.lose_marks {s : State} (live : livePath s.path = true) :
    s.lose.link.outOfStep = true ∧ s.lose.link.lostSinceHolding = true := by
  unfold State.lose State.queueJam
  dsimp only
  rw [if_pos live]
  (repeat' split) <;> simp [State.pushTx]

/-- A station that is out of step already detects nothing more. -/
theorem State.lose_again {s : State} (live : livePath s.path = true) (out : s.link.outOfStep = true) :
    s.lose = { s with link.lostSinceHolding := true, link.outOfStep := true } := by
  simp [State.lose, live, out]

theorem State.lose_detects {s : State} (live : livePath s.path = true) (inStep : s.link.outOfStep = false) (claim : s.canClaim) :
    s.lose.jamQueued .desync 0 none := by
  have eq : s.lose = ({ s with link.lostSinceHolding := true, link.outOfStep := true } : State).detect .desync 0 none := by
    simp only [State.lose, live, inStep]
    rfl
  rw [eq]
  exact State.detect_jamQueued _ _ _ _ claim

/-- The report's frames find no room one after the other. -/
theorem State.sendReport_full : ∀ (ps : List Payload) (s : State), livePath s.path = true → s.txRoom = false →
    ps ≠ [] ∨ s.link.outOfStep = true →
    (s.sendReport ps).link.outOfStep = true ∧ (s.sendReport ps).recovery = { s.recovery with report := [] }
  | [], s, _, _, out => ⟨out.resolve_left (by simp), rfl⟩
  | p :: ps, s, live, full, _ => by
    have more := State.Adds.lose s |>.length_le
    have full' : s.lose.txRoom = false := by
      rw [Bool.eq_false_iff, ne_eq, State.txRoom_iff] at full ⊢
      omega
    have lost : s.sendReport (p :: ps) = s.lose.sendReport ps := by
      rw [State.sendReport, if_neg (by simp [full])]
    rw [lost]
    simpa using State.sendReport_full ps s.lose (by simpa [State.path] using live) full' (.inr (State.lose_marks live).1)

theorem State.sendPlan_full : ∀ (is : List PlanItem) (s : State), livePath s.path = true → s.txRoom = false →
    is ≠ [] ∨ s.link.outOfStep = true →
    (s.sendPlan is).link.outOfStep = true ∧ (s.sendPlan is).recovery = { s.recovery with planOut := [] }
  | [], s, _, _, out => ⟨out.resolve_left (by simp), rfl⟩
  | i :: is, s, live, full, _ => by
    have more := State.Adds.lose s |>.length_le
    have full' : s.lose.txRoom = false := by
      rw [Bool.eq_false_iff, ne_eq, State.txRoom_iff] at full ⊢
      omega
    have lost : s.sendPlan (i :: is) = s.lose.sendPlan is := by
      rw [State.sendPlan, if_neg (by simp [full])]
    rw [lost]
    simpa using State.sendPlan_full is s.lose (by simpa [State.path] using live) full' (.inr (State.lose_marks live).1)

/-! ### The frame that follows one of the report or of the plan -/

theorem State.sendReport_next {s : State} (room : s.txRoom = true) (p : Payload) (more : List Payload) :
    s.sendReport (p :: more) = { s.pushTx (s.newFrame .report (s.stamped p)) with
      recovery := { s.recovery with report := more } } := by
  rw [State.sendReport, if_pos room, State.queueTagged, if_pos room]
  rfl

theorem State.sendPlan_next {s : State} (room : s.txRoom = true) (i : PlanItem) (more : List PlanItem) :
    s.sendPlan (i :: more) = { s.pushTx (s.newFrame .plan (s.planPayload i)) with
      recovery := { s.recovery with planOut := more } } := by
  rw [State.sendPlan, if_pos room, State.queueTagged, if_pos room]
  rfl

/-- The slot stays where the next frame finds room. -/
theorem State.continueAfter_slot {s : State} (room : s.txRoom = true) (f : TxFrame) :
    (s.continueAfter f).link.slot = s.link.slot := by
  have report (ps : List Payload) : (s.sendReport ps).link.slot = s.link.slot := by
    cases ps with
    | nil => rfl
    | cons p ps => rw [State.sendReport_next room]; rfl
  have plan (is : List PlanItem) : (s.sendPlan is).link.slot = s.link.slot := by
    cases is with
    | nil => rfl
    | cons i is => rw [State.sendPlan_next room]; rfl
  have sends {t : State} (h : t.txRoom = true) : t.sendReady.link.slot = t.link.slot := by
    unfold State.sendReady
    (repeat' split)
    · rfl
    · rfl
    · exact t.queueFrame_slot _ h
  have ready : s.nextReady.link.slot = s.link.slot := by
    unfold State.nextReady State.queueReady
    dsimp only
    split
    · split
      · exact sends (t := { s with recovery.readyNext := false }) room
      · rfl
    · rfl
  unfold State.continueAfter
  split
  · exact report _
  · exact plan _
  · split
    · exact ready
    · rfl

theorem State.continueAfter_other {s : State} {f : TxFrame} (h : f.tag = .plain ∨ f.withdrawn = true)
    (unready : f.payload.isReady = false) : s.continueAfter f = s := by
  unfold State.continueAfter
  split
  · simp_all
  · simp_all
  · simp [unready]

theorem State.continueAfter_report {s : State} {f : TxFrame} (tag : f.tag = .report) (stays : f.withdrawn = false) :
    s.continueAfter f = s.sendReport s.recovery.report := by
  simp [State.continueAfter, tag, stays]

theorem State.continueAfter_plan {s : State} {f : TxFrame} (tag : f.tag = .plan) (stays : f.withdrawn = false) :
    s.continueAfter f = s.sendPlan s.recovery.planOut := by
  simp [State.continueAfter, tag, stays]

theorem State.continueAfter_ready {s : State} {f : TxFrame} (tag : f.tag = .plain) (ready : f.payload.isReady = true) :
    s.continueAfter f = s.nextReady := by
  simp [State.continueAfter, tag, ready]

/-! ### The completion of the station's own frame (02 R31, R32) -/

/-- The frame as it is received. -/
def State.ownReceived (s : State) (f : TxFrame) : RxFrame :=
  { sender := s.own, epoch := f.epoch, payload := f.payload, lineLow := s.lineIsLow }

/-- The station with its own frame in the receive queue and the timers that its completion loads. -/
def State.ownTaken (s : State) (f : TxFrame) : State := (s.removeSending.takeIn (s.ownReceived f)).ownCompleted f.payload

theorem exec_completeOwn {s : State} {f : TxFrame} (sending : s.sending = some f) (live : livePath s.path = true) :
    exec (.frameCompletion .own) s = .next ((s.ownTaken f).continueAfter f) := by
  have away : s.removeSending.path ≠ .listen := by
    intro h
    have : s.path = .listen := h
    simp [this, livePath] at live
  refine congrArg Host.Outcome.next ?_
  rw [sending]
  dsimp only
  rw [State.completeOwn, State.linkBusy_away away]
  rfl

theorem State.ownTaken_link {s : State} (f : TxFrame) (room : s.link.rx.length < 24) :
    (s.ownTaken f).link = { s.removeSending.link with rx := s.link.rx ++ [s.ownReceived f] } := by
  rw [State.ownTaken, (State.ownCompleted_frame _ _).2.1, State.takeIn, if_pos (by simpa [Config.rxMax] using room)]
  rfl

theorem State.ownTaken_frame (s : State) (f : TxFrame) : let t := s.ownTaken f
    OuterKept s t ∧ t.table.entries = s.table.entries ∧ t.roster = s.roster ∧ t.track.queue = s.track.queue ∧ t.feed = s.feed ∧
      t.imaging = s.imaging ∧ t.exit = s.exit ∧ t.drive = s.drive ∧ t.recovery = s.recovery := by
  simp [State.ownTaken]

theorem State.ownTaken_presence {s : State} (f : TxFrame) (live : livePath s.path = true) :
    (s.ownTaken f).table.presence = .running 200 := by
  have live' : livePath (s.removeSending.takeIn (s.ownReceived f)).path = true := by simpa [State.path] using live
  unfold State.ownTaken State.ownCompleted
  rw [if_pos live']
  dsimp only
  split <;> simp [Config.presenceMs]

/-- 06 R98: the answer timer of an offer whose OFFER has completed. -/
theorem State.ownTaken_offer {s : State} {f : TxFrame} {dest : Pos} {xs : List Serial} {w sp : Nat}
    (offer : f.payload = .offer dest xs w sp) : ∀ o ∈ (s.ownTaken f).handoff.offers, o.dest = dest → o.state = .awaiting →
      o.offered = xs → o.answer = .running 50 := by
  unfold State.ownTaken State.ownCompleted
  rw [offer]
  dsimp only [State.setOffer]
  intro o ho dest' awaiting offered
  obtain ⟨p, -, rfl⟩ := List.mem_map.mp ho
  by_cases mine : p.dest = dest
  · by_cases waits : p.state = .awaiting ∧ p.offered = xs
    · simp [mine, waits.1, waits.2, Config.answerMs]
    · simp only [mine, beq_self_eq_true, if_true] at awaiting offered
      rw [if_neg (by simpa using waits)] at awaiting offered
      exact absurd ⟨awaiting, offered⟩ waits
  · simp [mine] at dest'

/-- 05 R77: the arrival timer of the first item of an ACCEPT that has completed. -/
theorem State.ownTaken_accept {s : State} {f : TxFrame} {dest : Pos} {xs : List Serial} {n : Nat}
    (accept : f.payload = .accept dest xs n) : ∀ i ∈ s.track.expected, xs.head? = some i.serial → i.timer = .stopped →
      { i with timer := .running i.window } ∈ (s.ownTaken f).track.expected := by
  intro i hi first stopped
  have kept : (if livePath (s.removeSending.takeIn (s.ownReceived f)).path then
      ({ s.removeSending.takeIn (s.ownReceived f) with table.presence := .running Config.presenceMs } : State)
      else s.removeSending.takeIn (s.ownReceived f)).track = s.track := by
    split <;> simp
  unfold State.ownTaken State.ownCompleted
  rw [accept]
  dsimp only
  rw [kept]
  exact List.mem_map.mpr ⟨i, hi, by simp [first, stopped]⟩

/-! ### What follows the completion -/

/-- The frames that wait beside the one in transmission. -/
def State.others (s : State) : List TxFrame := s.link.queue.filter fun g => !g.sending

theorem State.ownTaken_queue {s : State} (f : TxFrame) (room : s.link.rx.length < 24) : (s.ownTaken f).link.queue = s.others := by
  rw [State.ownTaken_link f room]
  rfl

theorem State.ownTaken_room {s : State} (f : TxFrame) (room : s.link.rx.length < 24) :
    (s.ownTaken f).txRoom = true ↔ s.others.length < 8 := by
  rw [State.txRoom_iff, State.ownTaken_queue f room]

theorem State.ownTaken_newFrame (s : State) (f : TxFrame) (tag : TxTag) (p : Payload) :
    (s.ownTaken f).newFrame tag p = { payload := p, epoch := s.recovery.epoch, tag := tag } := by
  simp [State.newFrame, s.ownTaken_frame]

theorem State.planFrame_congr {s t : State} (roster : t.roster = s.roster) (entries : t.table.entries = s.table.entries)
    (recovery : t.recovery = s.recovery) (n : Nat) : t.planFrame n = s.planFrame n := by
  have detail : t.detail = s.detail := by funext x; simp [State.detail, recovery]
  have absent : t.isAbsent = s.isAbsent := by funext p; simp [State.isAbsent, State.entry, entries]
  have passes : t.planPasses = s.planPasses := by simp only [State.planPasses, detail, roster]
  have free : t.firstFreePass = s.firstFreePass := by simp only [State.firstFreePass, passes, roster]
  simp only [State.planFrame, free, absent, recovery]

/-- 11 R181: a READY that waits for the own one's completion. -/
theorem State.nextReady_queues {s : State} (next : s.recovery.readyNext = true) (path : s.path = .clearance)
    (revs : s.recovery.pendingRevs = []) (room : s.txRoom = true) (none : ∀ g ∈ s.link.queue, g.payload.isReady = false) :
    s.nextReady = { s with
      link.queue := s.link.queue ++ [{ payload := .ready s.recovery.clearFlag s.ownDigest, epoch := s.recovery.epoch }]
      recovery.readyNext := false } := by
  rw [State.nextReady_sends next path revs]
  have waiting : ¬ (s.link.queue.any fun f => f.payload.isReady && !f.sending) = true := by
    rw [List.any_eq_true]
    rintro ⟨g, hg, ready⟩
    simp [none g hg] at ready
  have sending : ¬ (s.link.queue.any fun f => f.payload.isReady) = true := by
    rw [List.any_eq_true]
    rintro ⟨g, hg, ready⟩
    simp [none g hg] at ready
  unfold State.sendReady
  rw [if_neg waiting, if_neg sending, State.queueFrame_room _ _ (by exact room)]
  rfl

/-- O33, the frame after one of the report. -/
theorem State.ownContinues_report {s : State} {f : TxFrame} (live : livePath s.path = true) (room : s.link.rx.length < 24)
    (tag : f.tag = .report) (stays : f.withdrawn = false) : let t := (s.ownTaken f).continueAfter f
    let next (p : Payload) (tag : TxTag) : TxFrame := { payload := p, epoch := s.recovery.epoch, tag := tag }
    (s.recovery.report = [] → t.link.queue = s.others ∧ t.recovery = s.recovery) ∧
    (s.recovery.report ≠ [] → 8 ≤ s.others.length →
      t.link.outOfStep = true ∧ t.recovery = { s.recovery with report := [] }) ∧
    ∀ p more, s.recovery.report = p :: more → s.others.length < 8 →
      t.recovery = { s.recovery with report := more } ∧
      ((∀ h, p ≠ .holding h) → t.link.queue = s.others ++ [next p .report]) ∧
      ∀ h, p = .holding h → t.link.queue = s.others ++ [next (.holding { h with desync := s.link.outOfStep }) .report] := by
  intro t next
  have continues : t = (s.ownTaken f).sendReport s.recovery.report := by
    have recovery := s.ownTaken_frame f
    rw [show t = (s.ownTaken f).sendReport (s.ownTaken f).recovery.report from State.continueAfter_report tag stays]
    simp [s.ownTaken_frame]
  have recovery : (s.ownTaken f).recovery = s.recovery := by simp [s.ownTaken_frame]
  have queue := State.ownTaken_queue f room
  have out : (s.ownTaken f).link.outOfStep = s.link.outOfStep := by rw [State.ownTaken_link f room]; simp
  refine ⟨fun empty => ?_, fun some full => ?_, fun p more report few => ?_⟩
  · rw [continues, empty]
    refine ⟨queue, ?_⟩
    change { (s.ownTaken f).recovery with report := [] } = s.recovery
    rw [recovery, ← empty]
  · have unroomy : (s.ownTaken f).txRoom = false := by
      rw [Bool.eq_false_iff, ne_eq, State.ownTaken_room f room]
      omega
    have lost := State.sendReport_full s.recovery.report (s.ownTaken f) (by rw [State.path, recovery]; exact live) unroomy (.inl some)
    rw [continues]
    rwa [recovery] at lost
  · have roomy := (State.ownTaken_room f room).mpr few
    rw [continues, report, State.sendReport_next roomy]
    refine ⟨by rw [recovery], fun other => ?_, fun h holding => ?_⟩
    · have plain : (s.ownTaken f).stamped p = p := by
        unfold State.stamped
        split
        · rename_i h
          exact absurd rfl (other h)
        · rfl
      simp only [State.pushTx, queue, plain, State.ownTaken_newFrame, next]
    · subst holding
      simp only [State.pushTx, queue, State.stamped, out, State.ownTaken_newFrame, next]

/-- O33, the frame after one of the plan. -/
theorem State.ownContinues_plan {s : State} {f : TxFrame} (live : livePath s.path = true) (room : s.link.rx.length < 24)
    (tag : f.tag = .plan) (stays : f.withdrawn = false) : let t := (s.ownTaken f).continueAfter f
    let next (p : Payload) (tag : TxTag) : TxFrame := { payload := p, epoch := s.recovery.epoch, tag := tag }
    (s.recovery.planOut = [] → t.link.queue = s.others ∧ t.recovery = s.recovery) ∧
    (s.recovery.planOut ≠ [] → 8 ≤ s.others.length →
      t.link.outOfStep = true ∧ t.recovery = { s.recovery with planOut := [] }) ∧
    ∀ i more, s.recovery.planOut = i :: more → s.others.length < 8 →
      t.recovery = { s.recovery with planOut := more } ∧
      t.link.queue = s.others ++ [next (s.planPayload i) .plan] := by
  intro t next
  have recovery : (s.ownTaken f).recovery = s.recovery := by simp [s.ownTaken_frame]
  have continues : t = (s.ownTaken f).sendPlan s.recovery.planOut := by
    rw [← recovery]
    exact State.continueAfter_plan tag stays
  have queue := State.ownTaken_queue f room
  refine ⟨fun empty => ?_, fun some full => ?_, fun i more plan few => ?_⟩
  · rw [continues, empty]
    refine ⟨queue, ?_⟩
    change { (s.ownTaken f).recovery with planOut := [] } = s.recovery
    rw [recovery, ← empty]
  · have unroomy : (s.ownTaken f).txRoom = false := by
      rw [Bool.eq_false_iff, ne_eq, State.ownTaken_room f room]
      omega
    have lost := State.sendPlan_full s.recovery.planOut (s.ownTaken f) (by rw [State.path, recovery]; exact live) unroomy (.inl some)
    rw [continues]
    rwa [recovery] at lost
  · have roomy := (State.ownTaken_room f room).mpr few
    have payload : (s.ownTaken f).planPayload i = s.planPayload i := by
      have frame (n : Nat) := State.planFrame_congr (s := s) (t := s.ownTaken f) (by simp [s.ownTaken_frame])
        (by simp [s.ownTaken_frame]) recovery n
      cases i <;> simp only [State.planPayload, frame, recovery]
    rw [continues, plan, State.sendPlan_next roomy]
    refine ⟨by rw [recovery], ?_⟩
    simp only [State.pushTx, queue, payload, State.ownTaken_newFrame, next]

/-- O33, the READY after one. -/
theorem State.ownContinues_ready {s : State} {f : TxFrame} (room : s.link.rx.length < 24) (tag : f.tag = .plain)
    (ready : f.payload.isReady = true) : let t := (s.ownTaken f).continueAfter f
    let next (p : Payload) (tag : TxTag) : TxFrame := { payload := p, epoch := s.recovery.epoch, tag := tag }
    (s.recovery.readyNext = false ∨ s.path ≠ .clearance ∨ s.recovery.pendingRevs ≠ [] →
      t.link.queue = s.others ∧ t.recovery = { s.recovery with readyNext := false }) ∧
    (s.recovery.readyNext = true → s.path = .clearance → s.recovery.pendingRevs = [] → s.others.length < 8 →
      (∀ g ∈ s.others, g.payload.isReady = false) →
      t.link.queue = s.others ++ [next (.ready s.recovery.clearFlag s.ownDigest) .plain] ∧
      t.recovery = { s.recovery with readyNext := false }) := by
  intro t next
  have recovery : (s.ownTaken f).recovery = s.recovery := by simp [s.ownTaken_frame]
  have path : (s.ownTaken f).path = s.path := by simp [State.path, recovery]
  have continues : t = (s.ownTaken f).nextReady := State.continueAfter_ready tag ready
  have queue := State.ownTaken_queue f room
  constructor
  · intro unqueued
    cases pending : s.recovery.readyNext with
    | false =>
      rw [continues, State.nextReady_none _ (by rw [recovery]; exact pending), recovery, ← pending]
      exact ⟨queue, rfl⟩
    | true =>
      have kept := State.nextReady_kept (s.ownTaken f) (by rw [recovery]; exact pending)
        (by rw [path, recovery]; exact unqueued.resolve_left (by simp [pending]))
      rw [continues, kept]
      exact ⟨queue, by rw [← recovery]⟩
  · intro pending clearance revs few none
    have queues := State.nextReady_queues (s := s.ownTaken f) (by rw [recovery]; exact pending) (by rw [path]; exact clearance)
      (by rw [recovery]; exact revs) ((State.ownTaken_room f room).mpr few) (by rw [queue]; exact none)
    rw [continues, queues]
    refine ⟨?_, by rw [← recovery]⟩
    simp only [queue, recovery, State.ownDigest, next]

/-- O33, a frame that finds no room in the receive queue. -/
theorem State.ownCompletion_lost {s : State} {f : TxFrame} (sending : s.sending = some f) (live : livePath s.path = true)
    (full : 24 ≤ s.link.rx.length) (plain : f.tag = .plain ∧ f.payload.isReady = false) : ∃ t,
    exec (.frameCompletion .own) s = .next t ∧
      t.link.rx = s.link.rx ∧ t.link.outOfStep = true ∧ t.link.lostSinceHolding = true ∧ t.table.presence = .running 200 ∧
      (s.link.outOfStep = false → s.removeSending.canClaim → t.jamQueued .desync 0 none) ∧
      (s.link.outOfStep = true → t.link.queue = s.others) ∧
      t.recovery = s.recovery ∧ t.roster = s.roster ∧ t.track.queue = s.track.queue ∧ t.feed = s.feed ∧
      t.imaging = s.imaging ∧ t.exit = s.exit ∧ t.drive = s.drive ∧ State.sameSetup s t := by
  have link : (s.ownTaken f).link = s.removeSending.lose.link := by
    rw [State.ownTaken, (State.ownCompleted_frame _ _).2.1, State.takeIn, if_neg]
    simpa [Config.rxMax] using full
  have live' : livePath s.removeSending.path = true := live
  refine ⟨s.ownTaken f, ?_, ?_, ?_, ?_, State.ownTaken_presence f live, fun inStep claim => ?_, fun out => ?_, ?_⟩
  · rw [exec_completeOwn sending live, State.continueAfter_other (.inl plain.1) plain.2]
  · rw [link]
    simp
  · rw [link]
    exact (State.lose_marks live').1
  · rw [link]
    exact (State.lose_marks live').2
  · exact (State.Adds.of link).jamQueued (State.lose_detects live' (by simpa using inStep) claim)
  · rw [link, State.lose_again live' (by simpa using out)]
    rfl
  · simp [s.ownTaken_frame, State.sameSetup]

/-- Settles O33. -/
theorem ownCompletionIsReceived : Obligations.OwnCompletionIsReceived := by
  unfold Obligations.OwnCompletionIsReceived
  intro s f sending live received others plain next planFrame
  refine ⟨fun room => ⟨(s.ownTaken f).continueAfter f, exec_completeOwn sending live, ?_, ?_, ?_, ?_, ?_, ?_, ?_, ?_, ?_, ?_, ?_⟩,
    fun full isPlain => State.ownCompletion_lost sending live full isPlain⟩
  · simp only [State.continueAfter_frame, State.ownTaken_link f room]
    rfl
  · intro which
    have slot : ((s.ownTaken f).continueAfter f).link.slot = (s.ownTaken f).link.slot := by
      rcases which with isPlain | few
      · rw [State.continueAfter_other (.inl isPlain.1) isPlain.2]
      · exact State.continueAfter_slot ((State.ownTaken_room f room).mpr few) f
    rw [slot, State.ownTaken_link f room]
    rfl
  · simpa using State.ownTaken_presence f live
  · intro isPlain
    rw [State.continueAfter_other (.inl isPlain.1) isPlain.2]
    exact ⟨State.ownTaken_queue f room, by simp [s.ownTaken_frame]⟩
  · intro _ withdrawn unready
    rw [State.continueAfter_other (.inr withdrawn) unready]
    exact ⟨State.ownTaken_queue f room, by simp [s.ownTaken_frame]⟩
  · intro tag stays
    exact State.ownContinues_report live room tag stays
  · intro tag stays
    obtain ⟨none, full, more⟩ := State.ownContinues_plan live room tag stays
    refine ⟨none, full, fun i rest plan few => ?_⟩
    obtain ⟨recovery, queue⟩ := more i rest plan few
    refine ⟨recovery, queue.trans ?_⟩
    cases i <;> rfl
  · intro tag ready
    exact State.ownContinues_ready room tag ready
  · intro dest xs w sp offer
    simpa using State.ownTaken_offer offer
  · intro dest xs n accept i hi first stopped
    simpa using State.ownTaken_accept accept i hi first stopped
  · simp [s.ownTaken_frame, State.sameSetup]

/-! ### The completion of another sender's frame (02 R25, R26) -/

theorem listedCode_iff (c : Byte) : listedCode c = true ↔ 1 ≤ c.toNat ∧ c.toNat ≤ 0x0E ∨ 0x10 ≤ c.toNat ∧ c.toNat ≤ 0x1A := by
  simp [listedCode]

theorem urgentCode_iff (c : Byte) : urgentCode c = true ↔ c.toNat ∈ [0x10, 0x11, 0x12, 0x14] := by
  have code (n : Nat) (h : n < 256) : c = BitVec.ofNat 8 n ↔ c.toNat = n := by
    rw [← BitVec.toNat_inj, BitVec.toNat_ofNat, Nat.mod_eq_of_lt h]
  simp [urgentCode, code, or_assoc]

theorem WireFrame.headerOk_iff (w : WireFrame) : w.headerOk = true ↔
    w.b0 &&& 0x60#8 = 0#8 ∧ (w.b0 &&& 0x1F#8).toNat ≤ 16 ∧
      (1 ≤ w.b1.toNat ∧ w.b1.toNat ≤ 0x0E ∨ 0x10 ≤ w.b1.toNat ∧ w.b1.toNat ≤ 0x1A) ∧
      (w.b0.getLsbD 7 = false ↔ w.b1.toNat ∈ [0x10, 0x11, 0x12, 0x14]) := by
  rw [← urgentCode_iff, ← listedCode_iff]
  unfold WireFrame.headerOk WireFrame.sender
  cases w.b0.getLsbD 7 <;> cases urgentCode w.b1 <;> simp [and_assoc]

/-- O34, what the receiver makes of the bytes. -/
theorem WireFrame.read_cases (w : WireFrame) :
    let whole := w.b3.toNat ≤ 60 ∧ w.payload.length = w.b3.toNat
    let checks := crc16 (w.b0 :: w.b1 :: w.b2 :: w.b3 :: w.payload) = w.check
    (¬ whole → w.read = .discard) ∧
    (whole → ¬ checks → w.read = .bad) ∧
    (whole → checks → w.headerOk = false → w.read = .discard) ∧
    (whole → checks → w.headerOk = true → parsePayload w.b1 w.payload w.content = none → w.read = .discard) ∧
    (∀ c, whole → checks → w.headerOk = true → parsePayload w.b1 w.payload w.content = some c →
      w.read = .good (w.b0 &&& 0x1F#8).toNat w.b2 c) := by
  intro whole checks
  have sized (h : whole) : w.read = if crc16 (w.b0 :: w.b1 :: w.b2 :: w.b3 :: w.payload) ≠ w.check then .bad
      else if !w.headerOk then .discard
      else match parsePayload w.b1 w.payload w.content with
        | none => .discard
        | some p => .good w.sender w.b2 p := by
    rw [WireFrame.read, if_neg (Nat.not_lt.mpr h.1), if_neg (Classical.not_not.mpr h.2)] <;> rfl
  refine ⟨fun part => ?_, fun h bad => ?_, fun h good header => ?_, fun h good header none => ?_, fun c h good header some => ?_⟩
  · unfold WireFrame.read
    by_cases long : 60 < w.b3.toNat
    · rw [if_pos long]
    · rw [if_neg long, if_pos]
      exact fun length => part ⟨Nat.not_lt.mp long, length⟩
  · rw [sized h, if_pos bad]
  · rw [sized h, if_neg (Classical.not_not.mpr good), if_pos (by simp [header])]
  · rw [sized h, if_neg (Classical.not_not.mpr good), if_neg (by simp [header]), none]
  · rw [sized h, if_neg (Classical.not_not.mpr good), if_neg (by simp [header]), some]
    rfl

theorem exec_completeOther {s : State} (w : WireFrame) (idle : s.sending = none) (live : livePath s.path = true) :
    exec (.frameCompletion (.other w)) s = .next (match w.read with
      | .discard => s
      | .bad => s.lose
      | .good p e c => (s.heardFrom p).takeIn { sender := p, epoch := e, payload := c, lineLow := s.lineIsLow }) := by
  have away : s.path ≠ .listen := by
    intro h
    simp [h, livePath] at live
  refine congrArg Host.Outcome.next ?_
  rw [idle]
  dsimp only
  rw [State.completeOther, State.linkBusy_away away] <;> rfl

/-- 02 R35: a lost frame changes LINK alone. -/
theorem State.lose_link (s : State) : s.lose = { s with link := s.lose.link } := State.eq_of_blocks (by simp)

theorem State.heardFrom_eq (s : State) (p : Pos) : s.heardFrom p = { s with table.entries := (s.heardFrom p).table.entries } := by
  unfold State.heardFrom
  split <;> rfl

theorem State.heardFrom_silence {s : State} {p : Pos} (live : livePath s.path = true) (one : 1 ≤ p)
    (room : p ≤ s.table.entries.length) (present : s.isPresent p = true) (other : p ≠ s.own) :
    ((s.heardFrom p).entry p).silence = .running 600 := by
  rw [State.heardFrom, if_pos (by simp [live, present, other]), State.setEntry_same _ _ _ one room]
  rfl

/-- O34, a frame that is lost. -/
theorem State.lost_reception {s t : State} (live : livePath s.path = true) (link : t.link = s.link)
    (same : t = { s with table.entries := t.table.entries }) :
    t.lose.link.outOfStep = true ∧ t.lose.link.lostSinceHolding = true ∧
      (s.link.outOfStep = false → s.canClaim → t.lose.jamQueued .desync 0 none) ∧
      (s.link.outOfStep = true → t.lose.link.slot = s.link.slot ∧ t.lose.link.queue = s.link.queue) ∧
      State.sameReception s t.lose ∧ t.lose = { s with link := t.lose.link, table.entries := t.lose.table.entries } := by
  have live' : livePath t.path = true := by rw [same]; exact live
  refine ⟨(State.lose_marks live').1, (State.lose_marks live').2, fun inStep claim => ?_, fun out => ?_, ?_, ?_⟩
  · exact State.lose_detects live' (by rw [link]; exact inStep) (by rw [State.canClaim, link]; exact claim)
  · rw [State.lose_again live' (by rw [link]; exact out), link]
    exact ⟨rfl, rfl⟩
  · simp [State.sameReception, link]
  · have table : t.lose.table.entries = t.table.entries := by simp
    rw [table]
    calc t.lose = { t with link := t.lose.link } := t.lose_link
      _ = _ := congrArg (fun u : State => { u with link := t.lose.link }) same

/-- Settles O34. -/
theorem otherCompletionIsChecked : Obligations.OtherCompletionIsChecked := by
  unfold Obligations.OtherCompletionIsChecked
  refine ⟨fun w => ?_, fun s w idle live => ⟨fun p e c good room => ?_, fun which => ?_, fun discard => ?_⟩⟩
  · intro whole checks kind header
    obtain ⟨short, bad, malformed, unread, good⟩ := WireFrame.read_cases w
    have ok : w.headerOk = true ↔ header := WireFrame.headerOk_iff w
    exact ⟨short, bad, fun h c n => malformed h c (Bool.eq_false_iff.mpr (mt ok.mp n)), fun h c n => unread h c (ok.mpr n),
      fun p h c n => good p h c (ok.mpr n)⟩
  · have taken : (s.heardFrom p).takeIn { sender := p, epoch := e, payload := c, lineLow := s.lineIsLow } =
        { s.heardFrom p with link := { s.link with
          rx := s.link.rx ++ [{ sender := p, epoch := e, payload := c, lineLow := s.lineIsLow }] } } := by
      rw [State.takeIn, if_pos (by simpa [Config.rxMax] using room)]
      exact State.eq_of_blocks (by simp)
    refine ⟨(s.heardFrom p).takeIn { sender := p, epoch := e, payload := c, lineLow := s.lineIsLow }, ?_, ?_⟩
    · rw [exec_completeOther w idle live, good]
    rw [taken]
    refine ⟨rfl, fun one bound present other => State.heardFrom_silence live one bound present other, ?_⟩
    let received : Link := { s.link with
      rx := s.link.rx ++ [{ sender := p, epoch := e, payload := c, lineLow := s.lineIsLow }] }
    exact congrArg (fun u : State => { u with link := received }) (s.heardFrom_eq p)
  · rcases which with bad | ⟨p, e, c, good, full⟩
    · refine ⟨s.lose, ?_, ?_⟩
      · rw [exec_completeOther w idle live, bad]
      · obtain ⟨out, lost, claims, stays, reception, same⟩ := State.lost_reception (s := s) (t := s) live rfl rfl
        exact ⟨out, lost, claims, stays, reception, same, fun _ => by simp⟩
    · refine ⟨(s.heardFrom p).lose, ?_, ?_⟩
      · rw [exec_completeOther w idle live, good]
        dsimp only
        rw [State.takeIn, if_neg]
        simpa [Config.rxMax] using full
      · obtain ⟨out, lost, claims, stays, reception, same⟩ := State.lost_reception (s := s) (t := s.heardFrom p) live (by simp)
          (s.heardFrom_eq p)
        exact ⟨out, lost, claims, stays, reception, same, fun bad => by rw [good] at bad; cases bad⟩
  · rw [exec_completeOther w idle live, discard]

end Sys2Proof.Machine
end

section
/-! PROOFS. What a sender builds is read back: the byte layouts of INTENT, HOLDING and PLAN ENTRY, field by field, and the
header. Settles O14. -/

namespace Sys2Proof

/-! ### Numbers as bytes -/

@[simp] theorem ofBe16_extract (x : BitVec 16) : ofBe16 (x.extractLsb' 8 8) (x.extractLsb' 0 8) = x := by
  unfold ofBe16
  rw [BitVec.extractLsb'_append_extractLsb'_eq_extractLsb' (by rfl)]
  exact BitVec.extractLsb'_eq_self

@[simp] theorem ofBe32_extract (x : BitVec 32) :
    ofBe32 (x.extractLsb' 24 8) (x.extractLsb' 16 8) (x.extractLsb' 8 8) (x.extractLsb' 0 8) = x := by
  unfold ofBe32
  rw [BitVec.extractLsb'_append_extractLsb'_eq_extractLsb' (by rfl),
    BitVec.extractLsb'_append_extractLsb'_eq_extractLsb' (by rfl),
    BitVec.extractLsb'_append_extractLsb'_eq_extractLsb' (by rfl)]
  exact BitVec.extractLsb'_eq_self

/-- A serial field in which 0 stands for "absent" loses nothing of a field that is not serial 0. -/
theorem optSerial_getD {o : Option Serial} (h : (o != some 0) = true) : optSerial (o.getD 0) = o := by
  cases o with
  | none => rfl
  | some s =>
    have hs : s ≠ 0 := fun e => by simp [e] at h
    exact if_neg hs

@[simp] theorem flagBit_or_low (a b : Bool) :
    ((flagBit a 0 ||| flagBit b 1) &&& 0xFC#8) = 0#8 ∧ (flagBit a 0 ||| flagBit b 1).getLsbD 0 = a ∧
      (flagBit a 0 ||| flagBit b 1).getLsbD 1 = b := by
  cases a <;> cases b <;> decide

@[simp] theorem flagBits_or_low (a b c : Bool) :
    ((flagBit a 0 ||| flagBit b 1 ||| flagBit c 2) &&& 0xF8#8) = 0#8 ∧
      (flagBit a 0 ||| flagBit b 1 ||| flagBit c 2).getLsbD 0 = a ∧
      (flagBit a 0 ||| flagBit b 1 ||| flagBit c 2).getLsbD 1 = b ∧
      (flagBit a 0 ||| flagBit b 1 ||| flagBit c 2).getLsbD 2 = c := by
  cases a <;> cases b <;> cases c <;> decide

@[simp] theorem flagBit_low (a : Bool) : (flagBit a 0 &&& 0xFE#8) = 0#8 ∧ (flagBit a 0).getLsbD 0 = a := by
  cases a <;> decide

theorem toNat_byte {n : Nat} (h : n < 256) : (BitVec.ofNat 8 n).toNat = n := by
  rw [BitVec.toNat_ofNat]
  exact Nat.mod_eq_of_lt h

theorem map_toNat_byte {ns : List Nat} (h : ∀ n ∈ ns, n < 256) :
    (ns.map (BitVec.ofNat 8)).map BitVec.toNat = ns := by
  rw [List.map_map]
  exact (List.map_congr_left fun n hn => toNat_byte (h n hn)).trans (List.map_id _)

theorem Pos.station_le {p : Pos} (h : Pos.station p = true) : p ≤ 16 := by
  simp only [Pos.station, Bool.and_eq_true, decide_eq_true_eq] at h
  exact h.2

/-! ### The three layouts -/

theorem parseIntent_encodeIntent {f : IntentFields} (h : f.wf = true) : parseIntent (encodeIntent f) = f := by
  simp only [IntentFields.wf, Bool.and_eq_true, decide_eq_true_eq, List.all_eq_true] at h
  obtain ⟨⟨⟨⟨⟨⟨⟨⟨⟨⟨⟨⟨_, _⟩, hmedia⟩, hexit⟩, _⟩, hbin⟩, _⟩, _⟩, hreprint⟩, hlow⟩, hhigh⟩, hroute⟩, hform⟩ := h
  have hlen : (BitVec.ofNat 8 f.route.length).toNat = f.route.length := toNat_byte (by omega)
  have hr : (f.route.map (BitVec.ofNat 8)).map BitVec.toNat = f.route :=
    map_toNat_byte fun n hn => Nat.lt_of_le_of_lt (Pos.station_le (hroute n hn)) (by decide)
  have hflags := flagBit_or_low f.last f.duplex
  have hm := toNat_byte (n := f.media) (by omega)
  have he := toNat_byte (n := f.exit) (Nat.lt_of_le_of_lt (Pos.station_le hexit) (by decide))
  have hb := toNat_byte (n := f.bin) (by omega)
  have ho := optSerial_getD hreprint
  obtain ⟨h1, h2, h3⟩ := hflags
  cases f
  simp only at *
  simp only [parseIntent, encodeIntent, be16, be32, List.cons_append, List.nil_append, List.getD_cons_zero,
    List.getD_cons_succ, List.drop_succ_cons, List.drop_zero, ofBe16_extract, ofBe32_extract, hlen, h1, h2, h3, hm, he, hb,
    ho, List.length_cons, List.length_map, IntentFields.mk.injEq, true_and]
  refine ⟨?_, ?_⟩
  · rw [List.take_of_length_le (by simp)]
    exact hr
  · simp only [hlow, hhigh, hform, decide_true, beq_self_eq_true, Bool.and_true, beq_iff_eq]
    omega

/-! A report entry and the list of them. -/

theorem parseReportEntries_encoded {es : List ReportEntry} (h : ∀ e ∈ es, e.wf = true) :
    parseReportEntries (es.flatMap encodeReportEntry) = some es := by
  induction es with
  | nil => rfl
  | cons e es ih =>
    have he := h e (List.mem_cons_self ..)
    simp only [ReportEntry.wf, Bool.and_eq_true, decide_eq_true_eq] at he
    obtain ⟨⟨_, hzone⟩, hserial⟩ := he
    have hz := toNat_byte (n := e.zone) (by omega)
    obtain ⟨h1, h2⟩ := flagBit_low e.straddle
    have hrest := ih fun x hx => h x (List.mem_cons_of_mem _ hx)
    simp only [List.flatMap_cons, encodeReportEntry, be16, List.cons_append, List.nil_append, parseReportEntries,
      ofBe16_extract, hz, h1, h2, optSerial_getD hserial]
    rw [if_pos trivial]
    exact congrArg (Option.map _) hrest

theorem reportEntries_length (es : List ReportEntry) : (es.flatMap encodeReportEntry).length = 4 * es.length := by
  induction es with
  | nil => rfl
  | cons e es ih =>
    rw [List.flatMap_cons, List.length_append, ih, List.length_cons]
    simp [encodeReportEntry, be16]
    omega

theorem parseHolding_encodeHolding {f : HoldingFields} (h : f.wf = true) : parseHolding (encodeHolding f) = some f := by
  simp only [HoldingFields.wf, Bool.and_eq_true, decide_eq_true_eq, List.all_eq_true] at h
  obtain ⟨⟨⟨hcount, hspace⟩, hsets⟩, hentries⟩ := h
  have hc := toNat_byte (n := f.entries.length) (by omega)
  have hp := toNat_byte (n := f.purgeSpace) (by omega)
  have ho := toNat_byte (n := f.openSets) (by omega)
  obtain ⟨h1, h2, h3, h4⟩ := flagBits_or_low f.restarted f.desync f.final
  simp only [encodeHolding, List.cons_append, List.nil_append, parseHolding, hc, hp, ho, h1, h2, h3, h4,
    reportEntries_length]
  rw [if_pos ⟨trivial, hcount, trivial⟩, parseReportEntries_encoded hentries]
  rfl

theorem parsePlanEntry_encodePlanEntry {f : PlanEntryFields} (h : f.wf = true) :
    parsePlanEntry (encodePlanEntry f) = some { f with reprintOf := none } := by
  simp only [PlanEntryFields.wf, Bool.and_eq_true, decide_eq_true_eq] at h
  obtain ⟨⟨⟨⟨⟨⟨⟨_, hindex⟩, _⟩, hcarrier⟩, hmedia⟩, hexit⟩, _⟩, hbin⟩ := h
  have hi := toNat_byte (n := f.index) (by omega)
  have hm := toNat_byte (n := f.media) (by omega)
  have he := toNat_byte (n := f.exit) (Nat.lt_of_le_of_lt (Pos.station_le hexit) (by decide))
  have hb := toNat_byte (n := f.bin) (by omega)
  obtain ⟨h1, h2, h3, h4⟩ := flagBits_or_low f.last f.duplex f.lastEntry
  simp only [encodePlanEntry, be16, be32, List.cons_append, List.nil_append, parsePlanEntry, ofBe16_extract,
    ofBe32_extract, hi, hm, he, hb, h1, h2, h3, h4, optSerial_getD hcarrier]
  rfl

/-! ### The frame -/

theorem Payload.bytes_length {p : Payload} (h : p.wf = true) : p.bytes.length ≤ 60 := by
  cases p with
  | intent f =>
    simp only [Payload.wf, IntentFields.wf, Bool.and_eq_true, decide_eq_true_eq] at h
    obtain ⟨⟨⟨⟨_, _⟩, hhigh⟩, _⟩, _⟩ := h
    simp [Payload.bytes, encodeIntent, be16, be32]
    omega
  | holding f =>
    simp only [Payload.wf, HoldingFields.wf, Bool.and_eq_true, decide_eq_true_eq] at h
    obtain ⟨⟨⟨hcount, _⟩, _⟩, _⟩ := h
    simp only [Payload.bytes, encodeHolding, List.length_append, reportEntries_length, List.length_cons, List.length_nil]
    omega
  | planEntry f => simp [Payload.bytes, encodePlanEntry, be16, be32]
  | _ => exact Nat.zero_le 60

/-- A payload's bytes and its reading give the payload back. -/
theorem parsePayload_bytes {p : Payload} (h : p.wf = true) : parsePayload p.code p.bytes p = some p := by
  cases p with
  | intent f => exact congrArg (fun g => some (Payload.intent g)) (parseIntent_encodeIntent h)
  | holding f => exact congrArg (Option.map Payload.holding) (parseHolding_encodeHolding h)
  | planEntry f =>
    exact congrArg (Option.map fun e => Payload.planEntry { e with reprintOf := f.reprintOf })
      (parsePlanEntry_encodePlanEntry h)
  | _ => rfl

theorem Payload.code_listed (p : Payload) : listedCode p.code = true := by
  cases p <;> rfl

/-- The header byte of a sender in its range carries the class in its top bit, the position in its low five. -/
theorem headerByte0_reads {sender : Pos} (h : sender ≤ 16) (p : Payload) :
    (headerByte0 sender p &&& 0x60#8) = 0#8 ∧ (headerByte0 sender p &&& 0x1F#8).toNat = sender ∧
      (headerByte0 sender p).getLsbD 7 = !p.urgent := by
  unfold headerByte0
  have hlow : ∀ n : Fin 17, ∀ u : Bool,
      (((if u then 0#8 else 0x80#8) ||| BitVec.ofNat 8 n.val) &&& 0x60#8) = 0#8 ∧
        (((if u then 0#8 else 0x80#8) ||| BitVec.ofNat 8 n.val) &&& 0x1F#8).toNat = n.val ∧
        ((if u then 0#8 else 0x80#8) ||| BitVec.ofNat 8 n.val).getLsbD 7 = !u := by
    decide
  exact hlow ⟨sender, Nat.lt_succ_of_le h⟩ p.urgent

/-- Settles O14, from the header of the sender and the layout of the payload. -/
theorem builtFramesReadBack : Obligations.BuiltFramesReadBack := by
  intro sender epoch p hsender hp
  obtain ⟨hzero, hpos, hclass⟩ := headerByte0_reads hsender p
  have hlen := Payload.bytes_length hp
  have hb3 : (BitVec.ofNat 8 p.bytes.length).toNat = p.bytes.length := toNat_byte (by omega)
  have hheader : (WireFrame.build sender epoch p).headerOk = true := by
    simp only [WireFrame.headerOk, WireFrame.sender, WireFrame.build, hzero, hpos, hclass, Payload.code_listed,
      Payload.urgent, hsender, beq_self_eq_true, decide_true, Bool.and_true,
      Bool.true_and]
    cases urgentCode p.code <;> rfl
  have hlong : ¬ 60 < (WireFrame.build sender epoch p).b3.toNat := by
    rw [show (WireFrame.build sender epoch p).b3.toNat = p.bytes.length from hb3]
    omega
  unfold WireFrame.read
  have hlength : ¬ (WireFrame.build sender epoch p).payload.length ≠ (WireFrame.build sender epoch p).b3.toNat :=
    Classical.not_not.mpr hb3.symm
  have hcheck : ¬ crc16 ((WireFrame.build sender epoch p).b0 :: (WireFrame.build sender epoch p).b1 ::
      (WireFrame.build sender epoch p).b2 :: (WireFrame.build sender epoch p).b3 ::
      (WireFrame.build sender epoch p).payload) ≠ (WireFrame.build sender epoch p).check := Classical.not_not.mpr rfl
  have hmalformed : ¬ (!(WireFrame.build sender epoch p).headerOk) = true := by
    rw [hheader]
    exact Bool.false_ne_true
  rw [if_neg hlong, if_neg hlength, if_neg hcheck, if_neg hmalformed,
    show (WireFrame.build sender epoch p).b1 = p.code from rfl,
    show (WireFrame.build sender epoch p).payload = p.bytes from rfl,
    show (WireFrame.build sender epoch p).content = p from rfl, parsePayload_bytes hp]
  exact congrArg (fun n => Reading.good n epoch p) hpos

end Sys2Proof
end

section
/-! PROOFS. JOIN by path state, and the running frame heard while forming (O36, O37). -/

namespace Sys2Proof.Machine

/-! ### The station table -/

theorem State.setEntry_other (s : State) (p q : Pos) (f : TableEntry → TableEntry) (h : q ≠ p) :
    (s.setEntry p f).entry q = s.entry q := by
  unfold State.entry State.setEntry
  by_cases zero : q = 0
  · simp [zero]
  · by_cases hp : p = 0
    · simp [hp]
    · have apart : p - 1 ≠ q - 1 := fun e =>
        h (Nat.sub_one_cancel (Nat.pos_of_ne_zero zero) (Nat.pos_of_ne_zero hp) e.symm)
      simp only [zero, hp, if_false]
      rw [List.getElem?_modify_ne _ _ apart]

theorem Pos.station_iff (p : Pos) : Pos.station p = true ↔ 1 ≤ p ∧ p ≤ 16 := by
  simp [Pos.station]

/-! The path map depends on the entries of the table alone. -/

section
variable {s t : State} (h : t.table.entries = s.table.entries)
include h

theorem State.entry_congr : t.entry = s.entry := by
  funext p
  unfold State.entry
  rw [h]

theorem State.presentList_congr : t.presentList = s.presentList := by
  unfold State.presentList State.isPresent
  rw [State.entry_congr h]

theorem State.downs_congr : t.downs = s.downs := by
  funext p
  unfold State.downs State.isPresent State.summaryOf
  rw [State.entry_congr h]

theorem State.successor_congr : t.successor = s.successor := by
  funext ds p
  unfold State.successor State.isPresent
  rw [State.downs_congr h, State.entry_congr h]

theorem State.roleIs_congr : t.roleIs = s.roleIs := by
  funext p r
  unfold State.roleIs State.summaryOf
  rw [State.entry_congr h]

theorem State.distances_congr : t.distances = s.distances := by
  have step : t.distStep = s.distStep := by
    funext ds
    unfold State.distStep State.isPresent
    rw [State.entry_congr h, State.roleIs_congr h, State.successor_congr h]
  unfold State.distances
  rw [step]

theorem State.chain_congr (ds : Distances) (fuel : Nat) (p : Pos) : t.chain ds fuel p = s.chain ds fuel p := by
  induction fuel generalizing p with
  | zero => rfl
  | succ fuel ih =>
    unfold State.chain
    rw [State.roleIs_congr h, State.successor_congr h]
    cases s.successor ds p with
    | none => rfl
    | some d => simp only [ih]

theorem State.pathMap_congr : t.pathMap = s.pathMap := by
  have ups : t.ups = s.ups := by
    funext p
    unfold State.ups
    rw [State.presentList_congr h, State.downs_congr h]
  unfold State.pathMap
  simp only [State.distances_congr h, State.downs_congr h, ups, State.chain_congr h]

end

/-! ### JOIN -/

theorem exec_joinReceipt {s : State} {p : Pos} {e : Epoch} {m : Summary} {o low : Bool} {rest : List RxFrame}
    (rx : s.link.rx = { sender := p, epoch := e, payload := .join m o, lineLow := low } :: rest)
    (read : s.path ≠ .profileRead) : exec .joinReceipt s = .next ((s.taken rest).joinReceived p m) := by
  refine congrArg Host.Outcome.next ?_
  rw [rx]
  exact if_neg (by simpa using read)

/-- 03 R49: what a JOIN in ROLLCALL leaves of the table, apart from the sender's entry. -/
theorem State.joinRollCall_entries (s : State) (p : Pos) (m : Summary) (low : 1 ≤ p) (high : p ≤ s.table.entries.length) :
    (s.joinRollCall p m).entry p = (if s.isPresent p then { s.entry p with duplicated := true }
        else { s.entry p with presence := .present, summary := some m }) ∧
      ∀ q, q ≠ p → (s.joinRollCall p m).entry q = s.entry q := by
  refine ⟨?_, fun q hq => State.setEntry_other _ p q _ hq⟩
  exact State.setEntry_same _ p _ low high

/-- 03 R46: a JOIN in LISTEN is one in the roll call that it starts. -/
theorem State.joinReceived_forming (s : State) (p : Pos) (m : Summary) (station : Pos.station p = true)
    (path : s.path = .listen ∨ s.path = .rollcall) :
    s.joinReceived p m = (if s.path = .listen then s.enterRollCall else s).joinRollCall p m := by
  unfold State.joinReceived
  rcases path with path | path
  · simp [path, station]
  · simp [path, station]

theorem State.joinReceived_live (s : State) (p : Pos) (m : Summary) (live : livePath s.path = true) :
    s.joinReceived p m =
      if s.heard p && p != s.own && (s.recovery.restarted || (s.entry p).presence == .unknown) then s.joinRestarted p m
      else s := by
  unfold State.joinReceived
  generalize hp : s.path = path at *
  cases path <;> simp_all [livePath]

theorem State.joinReceived_counts (s : State) (p : Pos) (m : Summary) (live : livePath s.path = true)
    (station : Pos.station p = true) (other : p ≠ s.own) (absent : s.isAbsent p = false)
    (unknown : s.recovery.restarted = true ∨ (s.entry p).presence = .unknown) :
    s.joinReceived p m = s.joinRestarted p m := by
  rw [s.joinReceived_live p m live, if_pos]
  simp [State.heard, station, other, absent, unknown]

theorem State.joinReceived_ignored (s : State) (p : Pos) (m : Summary) (live : livePath s.path = true)
    (ignored : p = s.own ∨ s.isAbsent p = true ∨ s.recovery.restarted = false ∧ (s.entry p).presence ≠ .unknown) :
    s.joinReceived p m = s := by
  rw [s.joinReceived_live p m live, if_neg]
  rcases ignored with own | absent | ⟨fresh, known⟩
  · simp [← own]
  · simp [State.heard, absent]
  · simp [fresh, known]

/-- 03 R48, R52: a JOIN at a member makes its sender present and computes the map again. -/
theorem State.joinRestarted_eq (s : State) (p : Pos) (m : Summary) :
    s.joinRestarted p m = { s with
      table := { s.table with entries := (s.joinRestarted p m).table.entries, map := (s.joinRestarted p m).table.map } } := rfl

theorem State.joinRestarted_entry (s : State) (p : Pos) (m : Summary) (low : 1 ≤ p) (high : p ≤ s.table.entries.length) :
    (s.joinRestarted p m).entry p =
      { s.entry p with presence := .present, summary := some m, silence := .running 600 } :=
  State.setEntry_same s p _ low high

/-- Settles O36. -/
theorem joinBuildsTable : Obligations.JoinBuildsTable := by
  unfold Obligations.JoinBuildsTable
  refine ⟨?_, ?_⟩
  · intro s p e m o low rest rx hlow hhigh size path
    have station := (Pos.station_iff p).mpr ⟨hlow, hhigh⟩
    have read : s.path ≠ .profileRead := by rcases path with path | path <;> simp [path]
    have inTable : p ≤ s.table.entries.length := size ▸ hhigh
    refine ⟨_, exec_joinReceipt rx read, ?_⟩
    rw [(s.taken rest).joinReceived_forming p m station path]
    rcases path with path | path
    · rw [if_pos (show (s.taken rest).path = .listen from path)]
      obtain ⟨same, others⟩ := (s.taken rest).enterRollCall.joinRollCall_entries p m hlow inTable
      exact ⟨rfl, rfl, rfl, fun _ => ⟨rfl, rfl⟩, same, others, rfl, ⟨rfl, rfl, rfl, rfl, rfl, rfl, rfl⟩, rfl, rfl, rfl, rfl, rfl⟩
    · rw [if_neg (show (s.taken rest).path ≠ .listen from fun listen => absurd (listen.symm.trans path) (by decide))]
      obtain ⟨same, others⟩ := (s.taken rest).joinRollCall_entries p m hlow inTable
      exact ⟨path, rfl, rfl, fun other => absurd (other.symm.trans path) (by decide), same, others, rfl,
        ⟨rfl, rfl, rfl, rfl, rfl, rfl, rfl⟩, rfl, rfl, rfl, rfl, rfl⟩
  · intro s p e m o low rest rx hlow hhigh size live
    have station := (Pos.station_iff p).mpr ⟨hlow, hhigh⟩
    have read : s.path ≠ .profileRead := by
      intro path
      simp [path, livePath] at live
    refine ⟨fun other absent unknown => ?_, fun stays => ?_⟩
    · refine ⟨_, exec_joinReceipt rx read, ?_⟩
      rw [(s.taken rest).joinReceived_counts p m live station other absent unknown]
      exact ⟨State.joinRestarted_entry _ p m hlow (size ▸ hhigh), fun q hq => State.setEntry_other _ p q _ hq,
        (State.pathMap_congr rfl).symm, State.joinRestarted_eq _ p m⟩
    · rw [exec_joinReceipt rx read, (s.taken rest).joinReceived_ignored p m live stays]

/-! ### Running frames heard while forming -/

/-- 03 R47: the station with its table cleared but for itself, before its restart claim. -/
def State.soleMember (s : State) : State :=
  { s with table := { entries := List.replicate 16 {}, map := List.replicate 16 {}, presence := .running 200 } }.setEntry s.own
    fun x => { x with presence := .present, summary := some s.prof.summary }

/-- 03 R47: the station entered into STOPPING as a restarted member, before its restart claim. -/
def State.restarting (s : State) (e : Epoch) : State :=
  let t := s.soleMember.rebuildMap
  State.loadSilence { t with
    recovery.path := .stopping, recovery.epoch := if s.lineIsLow then e else e + 1
    recovery.restarted := true, recovery.following := true
    recovery.claim := .running 100, recovery.lineHeld := .running 2000
    recovery.driveJam := false, drive.gateHeld := true }

theorem State.restart_eq (s : State) (e : Epoch) : s.restart e = (s.restarting e).detect .restart 0 none := rfl

/-- 03 R47: a restarted member's table holds its own position alone. -/
theorem State.soleMember_entry (s : State) (low : 1 ≤ s.own) (high : s.own ≤ 16) (p : Pos) :
    s.soleMember.entry p = if p = s.own then { presence := .present, summary := some s.prof.summary } else {} := by
  let cleared : State :=
    { s with table := { entries := List.replicate 16 {}, map := List.replicate 16 {}, presence := .running 200 } }
  have blank (q : Pos) : cleared.entry q = {} := by
    unfold State.entry
    split
    · rfl
    · rw [List.getElem?_replicate]
      split <;> rfl
  split
  · next own =>
    rw [own]
    refine (cleared.setEntry_same s.own _ low ?_).trans ?_
    · simpa [cleared] using high
    · rw [blank]
  · next other =>
    exact (cleared.setEntry_other s.own p _ other).trans (blank p)

theorem State.loadSilence_entry (s : State) {p : Pos} (low : 1 ≤ p) (high : p ≤ s.table.entries.length) :
    s.loadSilence.entry p = if (s.entry p).presence == .present && p != s.own then
      { s.entry p with silence := .running Config.silenceMs } else s.entry p :=
  State.mapEntries_entry s _ p low high

theorem State.restarting_entry (s : State) (e : Epoch) (low : 1 ≤ s.own) (high : s.own ≤ 16) {p : Pos} (plow : 1 ≤ p)
    (phigh : p ≤ 16) : (s.restarting e).entry p = s.soleMember.entry p := by
  have size : p ≤ s.soleMember.table.entries.length := by
    unfold State.soleMember State.setEntry
    dsimp only
    split
    · simpa using phigh
    · simpa using phigh
  have kept : ∀ x : TableEntry, (x.presence == .present && p != s.own) = false →
      (if x.presence == .present && p != s.own then { x with silence := Timer.running Config.silenceMs } else x) = x :=
    fun x h => if_neg (by simp [h])
  refine (State.loadSilence_entry _ plow size).trans (kept (s.soleMember.entry p) ?_)
  rw [s.soleMember_entry low high]
  split
  · next own => simp [own]
  · rfl

/-- 02 R32: LISTEN and ROLLCALL take the head of the queue as a forming station does. -/
theorem State.receive_forming (s : State) (f : RxFrame) (rest : List RxFrame) (kind : Payload → Bool)
    (live : RxFrame → State → State) (rx : s.link.rx = f :: rest) (path : s.path = .listen ∨ s.path = .rollcall)
    (hk : kind f.payload = true) : s.receive kind live = (s.taken rest).formingReceipt f := by
  have notLive : livePath s.path = false := by rcases path with path | path <;> rw [path] <;> rfl
  have forming : (s.path == .listen || s.path == .rollcall) = true := by rcases path with path | path <;> simp [path]
  have read : (s.path == .profileRead) = false := by rcases path with path | path <;> simp [path]
  have unlive : ¬ livePath ({ s with link.rx := rest } : State).path = true := Bool.eq_false_iff.mp notLive
  simp only [State.receive, rx, hk]
  rw [if_neg (by simp [read]), if_neg unlive]
  exact if_pos forming

theorem State.formingReceipt_line (s : State) (p : Pos) (e : Epoch) (c : Payload) (low : Bool) :
    s.formingReceipt { sender := p, epoch := e, payload := c, lineLow := low } =
      s.formingReceipt { sender := p, epoch := e, payload := c } := by
  unfold State.formingReceipt
  cases c <;> rfl

/-- 03 R46, R47: a receipt other than that of a JOIN, in LISTEN and ROLLCALL. -/
theorem exec_receipt_forming {s : State} {f : RxFrame} {rest : List RxFrame} (rx : s.link.rx = f :: rest)
    (path : s.path = .listen ∨ s.path = .rollcall) (join : ∀ m o, f.payload ≠ .join m o) :
    exec (receiptOf f.payload) s = .next ((s.taken rest).formingReceipt f) := by
  obtain ⟨p, e, c, low⟩ := f
  cases c with
  | join m o => exact absurd rfl (join m o)
  | probe q =>
    refine congrArg Host.Outcome.next ?_
    have read : ¬ (s.path == .profileRead) = true := by rcases path with path | path <;> simp [path]
    have closed : ¬ answersProbe ({ s with link.rx := rest } : State).path = true := by
      have : ¬ answersProbe s.path = true := by rcases path with path | path <;> rw [path] <;> decide
      exact this
    have forming : (s.path == .listen || s.path == .rollcall) = true := by rcases path with path | path <;> simp [path]
    rw [rx, State.formingReceipt_line]
    dsimp only
    rw [if_neg read, if_neg closed]
    exact if_pos forming
  | _ => exact congrArg Host.Outcome.next (s.receive_forming _ rest _ _ rx path rfl)

/-- 03 R46: a PRESENCE of a running path state, or a frame of a station other than JOIN and STATUS. -/
theorem runningFrame_iff (f : RxFrame) : runningFrame f = true ↔
    (∃ p e, f.payload = .presence p e ∧ livePath p = true) ∨
      (1 ≤ f.sender ∧ f.sender ≤ 16 ∧ (∀ m o, f.payload ≠ .join m o) ∧ (∀ p e, f.payload ≠ .presence p e) ∧
        (∀ a, f.payload ≠ .status a)) := by
  unfold runningFrame
  rw [← and_assoc, ← Pos.station_iff]
  cases f.payload <;> simp

/-- 03 R47: the restart of a station whose claim finds a place. -/
theorem State.restart_stands (s : State) (e : Epoch) (low : 1 ≤ s.own) (high : s.own ≤ 16) (claim : s.canClaim) :
    (s.restart e).jamQueued .restart 0 none ∧
      (∀ p ∈ stations, (s.restart e).isPresent p = decide (p = s.own)) ∧
      (s.restart e).summaryOf s.own = some s.prof.summary := by
  rw [s.restart_eq]
  have entries : ((s.restarting e).detect .restart 0 none).entry = (s.restarting e).entry := State.entry_congr (by simp)
  refine ⟨State.detect_jamQueued _ _ _ _ claim, fun p hp => ?_, ?_⟩
  · obtain ⟨plow, phigh⟩ : 1 ≤ p ∧ p ≤ 16 := by
      obtain ⟨n, small, rfl⟩ := List.mem_map.mp hp
      exact ⟨Nat.le_add_left 1 n, List.mem_range.mp small⟩
    unfold State.isPresent
    rw [entries, s.restarting_entry e low high plow phigh, s.soleMember_entry low high]
    split
    · next own => simp [own]
    · next other => simp [other]
  · unfold State.summaryOf
    rw [entries, s.restarting_entry e low high low high, s.soleMember_entry low high, if_pos rfl]

/-- Settles O37. -/
theorem runningFrameRestarts : Obligations.RunningFrameRestarts := by
  unfold Obligations.RunningFrameRestarts
  intro s f rest rx path
  refine ⟨runningFrame_iff f, fun running low high claim => ?_, fun quiet join => ?_⟩
  · have join : ∀ m o, f.payload ≠ .join m o := by
      intro m o payload
      simp [runningFrame, payload] at running
    refine ⟨(s.taken rest).restart f.epoch, ?_, ?_⟩
    · rw [exec_receipt_forming rx path join, State.formingReceipt, if_pos running]
    · obtain ⟨jam, present, summary⟩ := (s.taken rest).restart_stands f.epoch low high claim
      rw [State.restart_eq] at jam present summary ⊢
      refine ⟨by simp [State.restarting], by simp [State.restarting], by simp [State.restarting], ?_,
        by simp [State.restarting], by simp [State.restarting], by simp [State.restarting, State.soleMember],
        jam, State.pulling_of_jamQueued jam, present, summary, ?_⟩
      · simp [State.restarting]
        rfl
      · simp [State.restarting, State.soleMember, State.taken, State.sameSetup]
  · rw [exec_receipt_forming rx path join, State.formingReceipt, if_neg (by simp [quiet])]

end Sys2Proof.Machine
end

section
/-! PROOFS. INTENT: the acceptance tests and what an accepted sheet changes (O40). -/

namespace Sys2Proof.Machine

/-! ### A roster change keeps the path state -/

theorem State.occupancyChanged_path (b s : State) : (State.occupancyChanged b s).path = s.path := by
  unfold State.occupancyChanged State.path
  simp [(State.endHold b s.gateFollow).needTest_away]

theorem State.dropEntries_path (s : State) : s.dropEntries.path = s.path := by
  unfold State.dropEntries
  dsimp only
  split
  · split
    · rfl
    · rw [State.occupancyChanged_path]
      simp [State.path]
  · rfl

theorem State.rosterChanged_path (s : State) : s.rosterChanged.path = s.path := by
  unfold State.rosterChanged
  split
  · have dropped : s.dropPick.dropEntries.recovery.path = s.dropPick.recovery.path := s.dropPick.dropEntries_path
    simp [State.path, dropped]
  · simp [State.path]

/-- 07 R117: at a FEED station a roster change that leaves fewer free slots than the demand threshold arms the crossing. -/
theorem State.rosterChanged_arms {s : State} (feed : s.hasRole .feed = true) (live : livePath s.path = true)
    (few : s.freeSlots s.own < s.prof.demandThreshold) : s.rosterChanged.feed.crossing = .armed := by
  have path := s.dropPick.dropEntries_path
  have drop : s.dropPick.path = s.path := by simp [State.path]
  have feed' : s.dropPick.dropEntries.reevaluate.hasRole .feed = true := by simpa [State.hasRole, State.prof] using feed
  have live' : livePath s.dropPick.dropEntries.reevaluate.path = true := by
    have : s.dropPick.dropEntries.reevaluate.path = s.dropPick.dropEntries.path := by simp [State.path]
    rw [this, path, drop]
    exact live
  have few' : s.dropPick.dropEntries.reevaluate.freeSlots s.dropPick.dropEntries.reevaluate.own <
      s.dropPick.dropEntries.reevaluate.prof.demandThreshold := by
    simpa [State.freeSlots, State.intake, State.own, State.prof] using few
  unfold State.rosterChanged State.demandCrossing
  rw [if_pos feed, if_pos (by simp [feed', live'])]
  dsimp only
  rw [if_pos few']
  simp

/-! ### The route test -/

theorem State.linked_iff (s : State) (ps : List Pos) : s.linked ps = true ↔
    ∀ pre a b post, ps = pre ++ a :: b :: post → b ∈ (s.mapOf a).downstream := by
  induction ps with
  | nil => simp [State.linked]
  | cons p ps ih =>
    cases ps with
    | nil =>
      refine ⟨fun _ pre a b post h => ?_, fun _ => rfl⟩
      have := congrArg List.length h
      simp at this
      omega
    | cons q ps =>
      rw [State.linked, Bool.and_eq_true, ih, List.contains_iff_mem]
      refine ⟨fun ⟨first, later⟩ pre a b post h => ?_, fun all => ⟨all [] p q ps rfl, fun pre a b post h => ?_⟩⟩
      · cases pre with
        | nil =>
          obtain ⟨rfl, rfl, rfl⟩ : p = a ∧ q = b ∧ ps = post := by simpa using h
          exact first
        | cons x pre =>
          obtain ⟨-, rest⟩ := List.cons.inj h
          exact later pre a b post rest
      · exact all (p :: pre) a b post (congrArg (List.cons p) h)

/-- 01 R9: the conditions of the route test. -/
theorem State.routeTest_iff (s : State) (i : IntentFields) : s.routeTest i = true ↔
    (i.formOk = true ∧ i.serial ≠ 0 ∧ i.frontPass ≠ 0 ∧ (i.duplex = true → i.backPass ≠ 0) ∧ i.index ≠ 0 ∧ i.media ≤ 15 ∧
      1 ≤ i.bin ∧ i.bin ≤ 3) ∧
    (2 ≤ i.route.length ∧ i.route.length ≤ 12) ∧
    (∀ p ∈ i.route, s.isPresent p = true) ∧
    (∃ p m, i.route.head? = some p ∧ s.summaryOf p = some m ∧ m.role = .feed ∧ m.media = i.media) ∧
    (i.route.getLast? = some i.exit ∧ s.roleIs i.exit .exit = true) ∧
    (∀ pre a b post, i.route = pre ++ a :: b :: post → b ∈ (s.mapOf a).downstream) ∧
    (i.route.filter fun p => s.roleIs p .imaging).length = (if i.duplex then 2 else 1) ∧
    ∃ m, s.summaryOf i.exit = some m ∧ i.bin ≤ m.bins.length := by
  have back : (!i.duplex || i.backPass != 0) = true ↔ (i.duplex = true → i.backPass ≠ 0) := by
    cases i.duplex <;> simp
  have feeds : (i.route.head?.any fun p => (s.summaryOf p).any fun m => m.role == .feed && m.media == i.media) = true ↔
      ∃ p m, i.route.head? = some p ∧ s.summaryOf p = some m ∧ m.role = .feed ∧ m.media = i.media := by
    simp [Option.any_eq_true]
  have ends : (i.route.getLast?.any fun p => s.roleIs p .exit && p == i.exit) = true ↔
      i.route.getLast? = some i.exit ∧ s.roleIs i.exit .exit = true := by
    rw [Option.any_eq_true]
    constructor
    · rintro ⟨p, last, h⟩
      obtain ⟨role, exit⟩ := Bool.and_eq_true_iff.mp h
      obtain rfl := eq_of_beq exit
      exact ⟨last, role⟩
    · rintro ⟨last, role⟩
      exact ⟨_, last, by simp [role]⟩
  have bins : ((s.summaryOf i.exit).any fun m => decide (i.bin ≤ m.bins.length)) = true ↔
      ∃ m, s.summaryOf i.exit = some m ∧ i.bin ≤ m.bins.length := by
    simp [Option.any_eq_true]
  unfold State.routeTest
  simp only [Bool.and_eq_true, back, feeds, ends, bins, s.linked_iff, inRange, bne_iff_ne, decide_eq_true_eq, beq_iff_eq,
    List.all_eq_true, and_assoc]

/-! ### The acceptance tests -/

/-- 01 R8: the tests in order; the reason is that of the first that fails. -/
theorem State.refusal_recovery {s : State} (i : IntentFields) (h : s.roster.phase = .recovery) :
    s.refusal i = some .recovery := by
  simp [State.refusal, h]

theorem State.refusal_full {s : State} (i : IntentFields) (phase : s.roster.phase = .normal)
    (full : 48 ≤ s.roster.records.length ∨ ∃ p, i.route.head? = some p ∧ 12 ≤ (s.intake p).length) :
    s.refusal i = some .full := by
  have test : (decide (48 ≤ s.roster.records.length) || i.route.head?.any fun p => decide (12 ≤ (s.intake p).length)) = true := by
    simpa [Option.any_eq_true] using full
  unfold State.refusal
  rw [if_neg (by simp [phase])]
  exact if_pos test

/-- 01 R8: with a place in roster and intake, the tests that are left. -/
theorem State.refusal_room {s : State} (i : IntentFields) (phase : s.roster.phase = .normal)
    (room : s.roster.records.length < 48) (intake : ∀ p, i.route.head? = some p → (s.intake p).length < 12) :
    s.refusal i = if (s.record i.serial).isSome then some .duplicate
      else if s.roster.lastSerial.any fun l => !precedes l i.serial then some .order
      else if !s.routeTest i then some .route
      else if !s.passTest i then some .pass
      else none := by
  have test : (decide (48 ≤ s.roster.records.length) ||
      i.route.head?.any fun p => decide (12 ≤ (s.intake p).length)) = false := by
    have small : decide (48 ≤ s.roster.records.length) = false := by simpa using room
    rw [small, Bool.false_or, Option.any_eq_false]
    simpa using intake
  unfold State.refusal
  rw [if_neg (by simp [phase])]
  exact if_neg (Bool.eq_false_iff.mp test)

/-- 01 R8: the tests that an accepted INTENT has passed. -/
theorem State.refusal_none {s : State} {i : IntentFields} (h : s.refusal i = none) :
    s.roster.phase = .normal ∧ s.roster.records.length < 48 ∧ s.record i.serial = none := by
  have phase : s.roster.phase = .normal := by
    cases hp : s.roster.phase with
    | normal => rfl
    | recovery => simp [State.refusal_recovery i hp] at h
  have room : s.roster.records.length < 48 := by
    refine Decidable.byContradiction fun full => ?_
    simp [State.refusal_full i phase (.inl (Nat.le_of_not_lt full))] at h
  have intake : ∀ p, i.route.head? = some p → (s.intake p).length < 12 := by
    intro p hp
    refine Decidable.byContradiction fun full => ?_
    simp [State.refusal_full i phase (.inr ⟨p, hp, Nat.le_of_not_lt full⟩)] at h
  refine ⟨phase, room, ?_⟩
  rw [State.refusal_room i phase room intake] at h
  cases known : s.record i.serial with
  | none => rfl
  | some r => simp [known] at h

/-! ### INTENT -/

theorem exec_intentReceipt {s : State} {f : RxFrame} {rest : List RxFrame} {i : IntentFields} (h : s.receives f rest)
    (payload : f.payload = .intent i) :
    exec .intentReceipt s = .next ((s.taken rest).intentReceived f.sender i) := by
  refine congrArg Host.Outcome.next ((s.receive_live f rest _ _ h (by rw [payload]; rfl)).trans ?_)
  rw [payload]

/-- 01 R11: one more sheet announced on the route of an accepted INTENT. -/
theorem State.acceptIntent_intake (s : State) (i : IntentFields) (p : Pos) (h : i.route.head? = some p) :
    ((s.acceptIntent i).intake p).length = (s.intake p).length + 1 := by
  simp [State.intake, State.acceptIntent, newRecord, h]

/-- Settles O40. -/
theorem intentAcceptedOrRefused : Obligations.IntentAcceptedOrRefused := by
  unfold Obligations.IntentAcceptedOrRefused
  refine ⟨?_, ?_, fun s i => s.routeTest_iff i⟩
  · intro s f rest i receives payload sender accepted
    obtain ⟨phase, room, fresh⟩ := State.refusal_none accepted
    refine ⟨((s.taken rest).acceptIntent i).rosterChanged, ?_, by simp [State.acceptIntent, newRecord, State.taken], phase,
      room, fresh, fun feed first few => ?_, ?_⟩
    · rw [exec_intentReceipt receives payload, State.intentReceived, if_neg (by simp [sender]), State.refusal_taken, accepted]
    · have free : ((s.taken rest).acceptIntent i).freeSlots s.own < s.prof.demandThreshold := by
        rw [State.freeSlots, State.acceptIntent_intake _ i s.own first]
        exact few
      exact State.rosterChanged_arms feed receives.2.1 free
    · simp [State.acceptIntent, State.taken, State.sameSetup]
  · intro s f rest i receives payload
    refine ⟨fun sender => ?_, fun reason sender refused => ⟨fun other => ?_, fun own room => ?_⟩,
      fun phase => State.refusal_recovery i phase, fun phase => ⟨fun full => State.refusal_full i phase full,
        fun room intake => ?_⟩⟩
    · rw [exec_intentReceipt receives payload, State.intentReceived, if_pos (by simpa using sender)]
    · have silent : ¬ ((s.taken rest).publishing == some (s.taken rest).own) = true := mt eq_of_beq other
      rw [exec_intentReceipt receives payload, State.intentReceived, if_neg (by simp [sender]), State.refusal_taken, refused]
      exact congrArg Host.Outcome.next (if_neg silent)
    · have publishes : ((s.taken rest).publishing == some (s.taken rest).own) = true := beq_iff_eq.mpr own
      rw [exec_intentReceipt receives payload, State.intentReceived, if_neg (by simp [sender]), State.refusal_taken, refused]
      exact congrArg Host.Outcome.next ((if_pos publishes).trans ((s.taken rest).queueFrame_room _ room))
    · rw [State.refusal_room i phase room intake]
      refine ⟨fun known => if_pos known, fun fresh => ?_⟩
      rw [if_neg (by simp [fresh])]
      refine ⟨fun l last behind => if_pos (by simp [last, behind]), fun ahead => ?_⟩
      have order : ¬ (s.roster.lastSerial.any fun l => !precedes l i.serial) = true := by
        simpa [Option.any_eq_true] using ahead
      rw [if_neg order]
      refine ⟨fun route => ?_, fun route pass => ?_, fun route pass => ?_⟩
      · simp [route]
      · simp [route, pass]
      · simp [route, pass]

end Sys2Proof.Machine
end

section
/-! PROOFS. OFFER, ACCEPT and DEFER at the roster, and the answer to an OFFER (O42, O43). -/

namespace Sys2Proof.Machine

/-! ### The roster -/

theorem SheetRecord.runout_iff (r : SheetRecord) : r.runout = true ↔ r.runsOut := by
  simp [SheetRecord.runout, SheetRecord.runsOut, or_assoc]

theorem State.handoffApplies_iff (s : State) (e : Epoch) (r : SheetRecord) :
    s.handoffApplies e r = true ↔ s.takesHandoff e r := by
  simp only [State.handoffApplies, Bool.or_eq_true, Bool.and_eq_true, beq_iff_eq, SheetRecord.runout_iff]
  exact or_congr_right ⟨fun ⟨⟨closed, runs⟩, epoch⟩ => ⟨closed, epoch, runs⟩,
    fun ⟨closed, epoch, runs⟩ => ⟨⟨closed, runs⟩, epoch⟩⟩

theorem State.custodyApplies_iff (s : State) (r : SheetRecord) : s.custodyApplies r = true ↔ s.takesCustody r := by
  simp [State.custodyApplies, SheetRecord.runout_iff, or_assoc]

/-- 01 R15: the handoff field after an OFFER. -/
theorem State.applyOffer_roster (s : State) (sender dest : Pos) (epoch : Epoch) (xs : List Serial) :
    (s.applyOffer sender dest epoch xs).roster =
      { s.roster with records := s.roster.records.map fun r =>
        if r.serial ∈ xs ∧ s.takesHandoff epoch r ∧ r.stage = .fed ∧ r.holder = some sender ∧ s.nextStation r = some dest
        then { r with handoff := some { dest := dest, accepted := false } } else r } := by
  unfold State.applyOffer
  simp only [Bool.and_eq_true, List.contains_iff_mem, State.handoffApplies_iff, beq_iff_eq, and_assoc]

theorem State.applyAccept_roster (s : State) (sender : Pos) (epoch : Epoch) (xs : List Serial) :
    (s.applyAccept sender epoch xs).roster =
      { s.roster with records := s.roster.records.map fun r =>
        if r.serial ∈ xs ∧ s.takesHandoff epoch r ∧ r.handoff = some { dest := sender, accepted := false }
        then { r with handoff := some { dest := sender, accepted := true } } else r } := by
  unfold State.applyAccept
  simp only [Bool.and_eq_true, List.contains_iff_mem, State.handoffApplies_iff, beq_iff_eq, and_assoc]

theorem State.applyDefer_roster (s : State) (sender : Pos) (epoch : Epoch) (xs : List Serial) (reason : DeferReason) :
    (s.applyDefer sender epoch xs reason).roster =
      { s.roster with records := s.roster.records.map fun r =>
        if r.serial ∈ xs ∧ s.takesHandoff epoch r ∧ r.handoff = some { dest := sender, accepted := false } ∧ reason = .room
        then { r with handoff := none } else r } := by
  unfold State.applyDefer
  simp only [Bool.and_eq_true, List.contains_iff_mem, State.handoffApplies_iff, beq_iff_eq, and_assoc]

/-! ### Receipts -/

theorem exec_offerReceipt {s : State} {f : RxFrame} {rest : List RxFrame} {dest : Pos} {xs : List Serial} {w sp : Nat}
    (h : s.receives f rest) (payload : f.payload = .offer dest xs w sp) :
    exec .offerReceipt s = .next ((s.taken rest).offerReceived f dest xs w sp) := by
  refine congrArg Host.Outcome.next ((s.receive_live f rest _ _ h (by rw [payload]; rfl)).trans ?_)
  rw [payload]

theorem exec_acceptReceipt {s : State} {f : RxFrame} {rest : List RxFrame} {dest : Pos} {xs : List Serial} {n : Nat}
    (h : s.receives f rest) (payload : f.payload = .accept dest xs n) :
    exec .acceptReceipt s = .next ((s.taken rest).acceptReceived f dest xs n) := by
  refine congrArg Host.Outcome.next ((s.receive_live f rest _ _ h (by rw [payload]; rfl)).trans ?_)
  rw [payload]

theorem exec_deferReceipt {s : State} {f : RxFrame} {rest : List RxFrame} {dest : Pos} {xs : List Serial}
    {reason : DeferReason} {n : Nat} (h : s.receives f rest) (payload : f.payload = .defer dest xs reason n) :
    exec .deferReceipt s = .next ((s.taken rest).deferReceived f dest xs reason n) := by
  refine congrArg Host.Outcome.next ((s.receive_live f rest _ _ h (by rw [payload]; rfl)).trans ?_)
  rw [payload]

/-- Settles O42. -/
theorem handoffFramesAtRoster : Obligations.HandoffFramesAtRoster := by
  unfold Obligations.HandoffFramesAtRoster
  intro s f rest receives
  refine ⟨fun dest xs w sp payload => ?_, fun dest xs n payload => ?_, fun dest xs reason n payload => ?_⟩
  · refine ⟨_, exec_offerReceipt receives payload, ?_⟩
    have kept : ((s.taken rest).offerReceived f dest xs w sp).roster =
        ((s.taken rest).applyOffer f.sender dest f.epoch xs).roster := by
      unfold State.offerReceived
      dsimp only
      split <;> simp
    exact kept.trans ((s.taken rest).applyOffer_roster f.sender dest f.epoch xs)
  · refine ⟨_, exec_acceptReceipt receives payload, ?_⟩
    have kept : ((s.taken rest).acceptReceived f dest xs n).roster =
        ((s.taken rest).applyAccept f.sender f.epoch xs).roster := by
      unfold State.acceptReceived
      dsimp only
      (repeat' split) <;> simp
    exact kept.trans ((s.taken rest).applyAccept_roster f.sender f.epoch xs)
  · refine ⟨_, exec_deferReceipt receives payload, ?_⟩
    have kept : ((s.taken rest).deferReceived f dest xs reason n).roster =
        ((s.taken rest).applyDefer f.sender f.epoch xs reason).roster := by
      unfold State.deferReceived
      dsimp only
      (repeat' split) <;> simp
    exact kept.trans ((s.taken rest).applyDefer_roster f.sender f.epoch xs reason)

/-! ### The reasons of a DEFER (06 R102) -/

theorem State.closedToOffers_iff (s : State) (n : Nat) : s.closedToOffers n = true ↔
    s.isFinishing n = true ∧ ((s.bin n).state ∈ [BinState.finishing, .finishPending, .ejecting] ∨
      ∃ y r, (y ∈ s.track.queue.map (·.serial) ∨ y ∈ s.track.expected.map (·.serial)) ∧ s.targetBin y = n ∧
        s.record y = some r ∧ r.last = true) := by
  unfold State.closedToOffers
  simp only [Bool.and_eq_true, Bool.or_eq_true, beq_iff_eq, List.any_eq_true, List.mem_append, Option.any_eq_true,
    List.mem_cons, List.not_mem_nil, or_false, or_assoc]
  grind

theorem State.finishingFails_iff (s : State) (xs : List Serial) :
    (s.hasRole .exit && xs.any fun x => s.closedToOffers (s.targetBin x)) = true ↔ s.finishingFails xs := by
  simp only [Bool.and_eq_true, List.any_eq_true, State.closedToOffers_iff]
  rfl

theorem State.dueForImaging_iff (s : State) (x : Serial) : s.dueForImaging x = true ↔
    ∃ r, s.record x = some r ∧ r.pending.isSome ∧ r.fate ≠ some .purge := by
  simp [State.dueForImaging, Option.any_eq_true]

theorem State.orderFails_iff (s : State) (xs : List Serial) :
    (s.hasRole .merge && !s.admitted xs) = true ↔ s.orderFails xs := by
  have single (x : Serial) : s.admitted [x] = false ↔
      ∃ r, s.record x = some r ∧ r.pending.isSome ∧ r.fate ≠ some .purge ∧ r.pending ≠ s.lowestPending := by
    unfold State.admitted State.dueForImaging
    cases record : s.record x with
    | none => simp [record]
    | some r => simp [record, and_assoc]
  rw [Bool.and_eq_true, Bool.not_eq_true']
  refine and_congr_right fun _ => ?_
  match xs with
  | [] => simp [State.admitted]
  | [x] => simp [single]
  | x :: y :: zs => simp [State.admitted]

theorem State.lastThenMore_iff (s : State) (xs : List Serial) : s.lastThenMore xs = true ↔
    ∃ pre x mid y post r, xs = pre ++ x :: mid ++ y :: post ∧ s.record x = some r ∧ r.last = true ∧
      s.targetBin y = s.targetBin x := by
  induction xs with
  | nil => simp [State.lastThenMore]
  | cons a xs ih =>
    rw [State.lastThenMore, Bool.or_eq_true, Bool.and_eq_true, ih, Option.any_eq_true, List.any_eq_true]
    constructor
    · rintro (⟨⟨r, record, last⟩, y, hy, bin⟩ | ⟨pre, x, mid, y, post, r, rfl, record, last, bin⟩)
      · obtain ⟨mid, post, rfl⟩ := List.append_of_mem hy
        exact ⟨[], a, mid, y, post, r, rfl, record, last, eq_of_beq bin⟩
      · exact ⟨a :: pre, x, mid, y, post, r, rfl, record, last, bin⟩
    · rintro ⟨pre, x, mid, y, post, r, split, record, last, bin⟩
      cases pre with
      | nil =>
        obtain ⟨rfl, rfl⟩ := List.cons.inj split
        exact .inl ⟨⟨r, record, last⟩, y, by simp, by simp [bin]⟩
      | cons b pre =>
        obtain ⟨-, rfl⟩ := List.cons.inj split
        exact .inr ⟨pre, x, mid, y, post, r, by simp, record, last, bin⟩

theorem State.roomFails_iff (s : State) (xs : List Serial) :
    (decide (s.freeCount < xs.length) || s.refusesAppend xs) = true ↔ s.roomFails xs := by
  have count : s.freeCount < xs.length ↔
      s.prof.capacity < s.track.queue.length + s.track.expected.length + xs.length ∧ xs ≠ [] := by
    rw [← List.length_pos_iff]
    unfold State.freeCount
    omega
  simp only [State.refusesAppend, Bool.or_eq_true, Bool.and_eq_true, decide_eq_true_eq, Bool.not_eq_true',
    decide_eq_false_iff_not, count, List.any_eq_true, State.dueForImaging_iff, State.lastThenMore_iff, beq_iff_eq]
  unfold State.roomFails
  simp only [List.mem_map, or_assoc, and_assoc]

/-- 06 R102: the tests in order; the reason is that of the first that fails. -/
theorem State.deferReason_eq (s : State) (xs : List Serial) [Decidable (s.finishingFails xs)] [Decidable (s.orderFails xs)]
    [Decidable (s.roomFails xs)] : s.deferReason xs =
      if s.path = .resuming then some .state
      else if s.drive.state ≠ .running then some .drive
      else if s.finishingFails xs then some .finishing
      else if s.orderFails xs then some .order
      else if s.roomFails xs then some .room
      else none := by
  unfold State.deferReason
  simp only [State.finishingFails_iff, State.orderFails_iff, State.roomFails_iff, beq_iff_eq, bne_iff_ne]

theorem State.deferReason_none_iff (s : State) (xs : List Serial) : s.deferReason xs = none ↔
    s.path ≠ .resuming ∧ s.drive.state = .running ∧ ¬ s.finishingFails xs ∧ ¬ s.orderFails xs ∧ ¬ s.roomFails xs := by
  classical
  rw [s.deferReason_eq xs]
  (repeat' split) <;> simp_all

theorem State.deferReason_state_iff (s : State) (xs : List Serial) :
    s.deferReason xs = some .state ↔ s.path = .resuming := by
  classical
  rw [s.deferReason_eq xs]
  (repeat' split) <;> simp_all

theorem State.deferReason_drive_iff (s : State) (xs : List Serial) :
    s.deferReason xs = some .drive ↔ s.path ≠ .resuming ∧ s.drive.state ≠ .running := by
  classical
  rw [s.deferReason_eq xs]
  (repeat' split) <;> simp_all

theorem State.deferReason_finishing_iff (s : State) (xs : List Serial) : s.deferReason xs = some .finishing ↔
    s.path ≠ .resuming ∧ s.drive.state = .running ∧ s.finishingFails xs := by
  classical
  rw [s.deferReason_eq xs]
  (repeat' split) <;> simp_all

theorem State.deferReason_order_iff (s : State) (xs : List Serial) : s.deferReason xs = some .order ↔
    s.path ≠ .resuming ∧ s.drive.state = .running ∧ ¬ s.finishingFails xs ∧ s.orderFails xs := by
  classical
  rw [s.deferReason_eq xs]
  (repeat' split) <;> simp_all

/-! ### The answer -/

/-- 06 R103: the items of an accepted offer. -/
def State.acceptedItems (s : State) (d : DeferredOffer) : List ExpItem := d.serials.map fun x =>
  { serial := x, upstream := d.upstream, group := s.newGroup, window := d.window, spacing := d.spacing }

theorem State.acceptOffer_appends (s : State) (d : DeferredOffer) (room : s.txRoom = true) :
    (s.acceptOffer d).track.expected = s.track.expected ++ s.acceptedItems d := by
  unfold State.acceptOffer
  dsimp only
  rw [room, if_neg (by simp)]
  split <;> simp [State.acceptedItems]

/-- Log 20: the group number of new items is that of no other. -/
theorem State.group_lt_newGroup (s : State) {j : ExpItem} (h : j ∈ s.track.expected) : j.group < s.newGroup := by
  have grows (is : List ExpItem) (m : Nat) : m ≤ is.foldl (fun m i => max m i.group) m := by
    induction is generalizing m with
    | nil => exact Nat.le_refl m
    | cons i is ih => exact Nat.le_trans (Nat.le_max_left _ _) (ih _)
  have reaches (is : List ExpItem) (m : Nat) (hj : j ∈ is) : j.group ≤ is.foldl (fun m i => max m i.group) m := by
    induction is generalizing m with
    | nil => cases hj
    | cons i is ih =>
      rcases List.mem_cons.mp hj with rfl | hj
      · exact Nat.le_trans (Nat.le_max_right _ _) (grows is _)
      · exact ih _ hj
  exact Nat.lt_succ_of_le (reaches _ 0 h)

/-- 06 R103: the ACCEPT of an offer that finds a place. -/
theorem State.acceptOffer_queued (s : State) (d : DeferredOffer) (room : s.txRoom = true) :
    (s.acceptOffer d).queued s.recovery.epoch (.accept d.upstream d.serials (s.freeCount - d.serials.length)) := by
  have sent := s.queueFrame_queued (.accept d.upstream d.serials (s.freeCount - d.serials.length)) room
  have link : (s.acceptOffer d).link =
      (s.queueFrame (.accept d.upstream d.serials (s.freeCount - d.serials.length))).link := by
    unfold State.acceptOffer
    dsimp only
    rw [room, if_neg (by simp)]
    split <;> simp
  unfold State.queued
  rw [link]
  exact sent

/-- 06 R101: an OFFER that the station answers forgets the deferred offers of its sender. -/
def State.forgetOffers (s : State) (p : Pos) : State :=
  { s with handoff.deferred := s.handoff.deferred.filter fun x => x.upstream != p }

theorem State.answerOffer_answered (s : State) (d : DeferredOffer)
    (answered : movingPath s.path = true ∧ d.upstream ∈ (s.mapOf s.own).upstream ∧
      s.boundHere d.upstream d.serials = true ∧ s.runoutOffer d.epoch d.serials = true) :
    s.answerOffer d = match (s.forgetOffers d.upstream).deferReason d.serials with
      | none => ((s.forgetOffers d.upstream).acceptOffer d).reevaluate
      | some reason =>
        let u := (s.forgetOffers d.upstream).queueFrame
          (.defer d.upstream d.serials reason (s.forgetOffers d.upstream).freeCount)
        if reason == .room || !(s.forgetOffers d.upstream).txRoom then u
        else { u with handoff.deferred := u.handoff.deferred ++ [d] } := by
  obtain ⟨moving, upstream, bound, runout⟩ := answered
  unfold State.answerOffer
  rw [if_neg (by simp [moving, upstream, bound, runout])]
  rfl

theorem State.answerOffer_unanswered (s : State) (d : DeferredOffer)
    (unanswered : ¬ (movingPath s.path = true ∧ d.upstream ∈ (s.mapOf s.own).upstream ∧
      s.boundHere d.upstream d.serials = true ∧ s.runoutOffer d.epoch d.serials = true)) : s.answerOffer d = s := by
  unfold State.answerOffer
  refine if_pos (Bool.not_eq_true' _ |>.mpr (Bool.eq_false_iff.mpr fun h => unanswered ?_))
  simpa [and_assoc] using h

/-- Settles O43. -/
theorem offerAnswered : Obligations.OfferAnswered := by
  unfold Obligations.OfferAnswered
  intro s f rest xs w sp receives payload d v u
  have received : exec .offerReceipt s = .next (v.answerOffer d) := by
    rw [exec_offerReceipt receives payload]
    exact congrArg Host.Outcome.next (if_pos (beq_iff_eq.mpr rfl))
  refine ⟨fun unanswered => ?_, fun moving upstream bound runout room => ?_⟩
  · rw [received, v.answerOffer_unanswered d unanswered]
  · have answered := v.answerOffer_answered d ⟨moving, upstream, bound, runout⟩
    change v.answerOffer d = match u.deferReason xs with
      | none => (u.acceptOffer d).reevaluate
      | some reason =>
        let t := u.queueFrame (.defer f.sender xs reason u.freeCount)
        if reason == .room || !u.txRoom then t else { t with handoff.deferred := t.handoff.deferred ++ [d] } at answered
    refine ⟨v.answerOffer d, received, fun accepted => ?_, u.deferReason_none_iff xs, u.deferReason_state_iff xs,
      u.deferReason_drive_iff xs, u.deferReason_finishing_iff xs, u.deferReason_order_iff xs, fun reason deferred => ?_,
      ?_⟩
    · rw [accepted] at answered
      dsimp only at answered
      rw [answered]
      refine ⟨(State.Adds.reevaluate _).queued (u.acceptOffer_queued d room), u.acceptedItems d, ?_⟩
      obtain ⟨more, grown⟩ := (u.acceptOffer d).reevaluate_expected
      rw [u.acceptOffer_appends d room] at grown
      refine ⟨more, grown.symm, by simp [State.acceptedItems, d, Function.comp_def], fun i hi => ?_⟩
      obtain ⟨x, -, rfl⟩ := List.mem_map.mp hi
      exact ⟨rfl, rfl, rfl, rfl, fun j hj => Nat.ne_of_lt (u.group_lt_newGroup hj)⟩
    · rw [deferred] at answered
      dsimp only at answered
      rw [answered, room, u.queueFrame_room _ room]
      by_cases full : reason = .room
      · simp [full, State.pushTx]
      · simp [full, State.pushTx]
    · simp [v, State.taken, State.sameSetup]

end Sys2Proof.Machine
end

section
/-! PROOFS. The answers to an OFFER: the marks, the offer record, the next offer (O44). -/

namespace Sys2Proof.Machine

/-! ### The test of the candidate -/

/-- The candidate `e`, with `post` behind it, is offered to the destination of the record `o`. -/
structure State.Offers (s : State) (o : OfferRecord) (e : Entry) (post : List Entry) : Prop where
  rest : s.track.queue.dropWhile (fun e => e.offer != .unoffered) = e :: post
  record : s.offerTo o.dest = some o
  ready : o.state = .idle ∨ o.state = .retry ∧ o.retryMet = true
  first : s.inRun o.dest e = true
  made : s.offerTest = s.makeOffer o (s.offerSerials o (e :: post))

/-- 06 R96: the test makes one offer or leaves the queue, the offer records and the drive. -/
theorem State.offerTest_cases (s : State) :
    (s.offerTest.track = s.track ∧ s.offerTest.handoff = s.handoff ∧ s.offerTest.drive = s.drive) ∨
      ∃ o e post, s.Offers o e post := by
  by_cases exit : s.hasRole .exit = true
  · left
    unfold State.offerTest
    simp [exit]
  · cases rest : s.track.queue.dropWhile (fun e => e.offer != .unoffered) with
    | nil =>
      left
      unfold State.offerTest
      simp [exit, rest]
    | cons e post =>
      have unoffered : e.offer = .unoffered := by
        have := List.head?_dropWhile_not (fun e : Entry => e.offer != .unoffered) s.track.queue
        rw [rest] at this
        simpa using this
      by_cases place : (s.offerPath e.serial && e.leadZone == s.lastSensor) = true
      · cases held : s.heldRecord e.serial with
        | none =>
          left
          unfold State.offerTest
          simp [exit, rest, held]
        | some r =>
          cases next : s.nextStation r with
          | none =>
            left
            unfold State.offerTest
            simp only [exit, rest, place, held, next]
            simp
          | some dest =>
            by_cases absent : s.isAbsent dest = true
            · left
              unfold State.offerTest
              simp only [exit, rest, place, held, next, absent]
              simp
            · cases offer : s.offerTo dest with
              | none =>
                left
                unfold State.offerTest
                simp only [exit, rest, place, held, next, absent, offer]
                simp
              | some o =>
                by_cases ready : (o.state == .idle || o.state == .retry && o.retryMet) = true
                · right
                  obtain rfl := State.offerTo_dest offer
                  obtain ⟨path, -⟩ := Bool.and_eq_true_iff.mp place
                  refine ⟨o, e, post, rest, offer, by simpa using ready, by simp [State.inRun, unoffered, path, held, next], ?_⟩
                  unfold State.offerTest
                  simp only [exit, rest, place, held, next, absent, offer, ready]
                  simp
                · left
                  unfold State.offerTest
                  simp only [exit, rest, place, held, next, absent, offer, ready]
                  simp
      · left
        unfold State.offerTest
        simp [exit, rest, place]

/-- 06 R97: the entries that an offer marks. -/
theorem State.makeOffer_queue (s : State) (o : OfferRecord) (xs : List Serial) :
    (s.makeOffer o xs).track.queue = if s.txRoom then
      s.track.queue.map fun e => if xs.contains e.serial then { e with offer := .offered } else e else s.track.queue := by
  unfold State.makeOffer
  dsimp only
  cases s.txRoom with
  | false => simp
  | true =>
    simp only [Bool.not_true, Bool.false_eq_true, if_false, if_true]
    split <;> simp [State.setDiverter, State.setOffer, State.mapQueue]

/-- Log 63: a full transmit queue loses the OFFER and leaves the records. -/
theorem State.makeOffer_full (s : State) (o : OfferRecord) (xs : List Serial) (full : s.txRoom = false) :
    (s.makeOffer o xs).handoff = s.handoff := by
  simp [State.makeOffer, full]

theorem State.offerTo_setOffer_other (s : State) (f : OfferRecord → OfferRecord) (kept : ∀ o, (f o).dest = o.dest)
    {dest p : Pos} (other : dest ≠ p) : (s.setOffer dest f).offerTo p = s.offerTo p := by
  have off : (dest == p) = false := beq_false_of_ne other
  simp only [State.offerTo, State.setOffer]
  induction s.handoff.offers with
  | nil => rfl
  | cons x os ih =>
    rw [List.map_cons, List.find?_cons, List.find?_cons, ih]
    by_cases same : x.dest = dest
    · simp [same, kept, off]
    · simp [same]

/-- 06 R97: what an offer changes of the records. -/
theorem State.makeOffer_offers (s : State) (o : OfferRecord) (xs : List Serial) (room : s.txRoom = true) :
    (s.makeOffer o xs).handoff = (s.setOffer o.dest fun o => { o with
      state := .awaiting, offered := xs, answer := .stopped, reoffer := .stopped, retryMet := false }).handoff := by
  unfold State.makeOffer
  dsimp only
  rw [room, if_neg (by simp)]
  split <;> simp [State.setDiverter, State.setOffer, State.mapQueue]

/-- An offer leaves the records of other destinations. -/
theorem State.makeOffer_otherOffer (s : State) (o : OfferRecord) (xs : List Serial) {p : Pos} (other : o.dest ≠ p) :
    (s.makeOffer o xs).offerTo p = s.offerTo p := by
  cases room : s.txRoom with
  | false => rw [State.offerTo, State.makeOffer_full s o xs room]; rfl
  | true =>
    rw [State.offerTo, State.makeOffer_offers s o xs room]
    exact s.offerTo_setOffer_other (fun o => { o with
      state := .awaiting, offered := xs, answer := .stopped, reoffer := .stopped, retryMet := false }) (fun _ => rfl) other

/-- 06 R95: the test leaves the declared free counts. -/
theorem State.offerTest_free {s : State} {o' : OfferRecord} (h : o' ∈ s.offerTest.handoff.offers) :
    ∃ o ∈ s.handoff.offers, o.dest = o'.dest ∧ o.free = o'.free := by
  rcases s.offerTest_cases with ⟨-, handoff, -⟩ | ⟨o, e, post, offers⟩
  · exact ⟨o', handoff ▸ h, rfl, rfl⟩
  · rw [offers.made] at h
    cases room : s.txRoom with
    | false => exact ⟨o', State.makeOffer_full s o _ room ▸ h, rfl, rfl⟩
    | true =>
      rw [State.makeOffer_offers s o _ room] at h
      obtain ⟨d, hd, rfl⟩ := List.mem_map.mp h
      refine ⟨d, hd, ?_⟩
      split <;> exact ⟨rfl, rfl⟩

/-- 06 R97: the sheets of an offer are those of entries of the queue that are offered to no one. -/
theorem State.offerSerials_unoffered {s : State} {o : OfferRecord} {rest : List Entry} {x : Serial}
    (h : x ∈ s.offerSerials o rest) : ∃ e ∈ rest, e.serial = x ∧ e.offer = .unoffered := by
  have run : x ∈ ((rest.takeWhile (s.inRun o.dest)).take Config.trainMax).map (·.serial) := by
    unfold State.offerSerials at h
    dsimp only at h
    split at h
    · exact List.mem_of_mem_take h
    · exact List.mem_of_mem_take h
  obtain ⟨e, he, rfl⟩ := List.mem_map.mp run
  have taken := List.mem_of_mem_take he
  have inRun := List.all_eq_true.mp List.all_takeWhile e taken
  refine ⟨e, (List.takeWhile_sublist _).subset taken, rfl, ?_⟩
  unfold State.inRun at inRun
  simp only [Bool.and_eq_true, beq_iff_eq] at inRun
  exact inRun.1.1

/-- 06 R97: an offer touches no entry that is offered or accepted already. -/
theorem State.offerTest_kept {s : State} (nodup : (s.track.queue.map (·.serial)).Nodup) {e : Entry} (he : e ∈ s.track.queue)
    (offered : e.offer ≠ .unoffered) : e ∈ s.offerTest.track.queue := by
  rcases s.offerTest_cases with ⟨track, -, -⟩ | ⟨o, c, post, offers⟩
  · rw [track]; exact he
  · rw [offers.made]
    have free : e.serial ∉ s.offerSerials o (c :: post) := by
      intro mem
      obtain ⟨d, hd, same, unoffered⟩ := State.offerSerials_unoffered mem
      rw [← offers.rest] at hd
      have : d = e := eq_of_nodup_map (·.serial) nodup ((List.dropWhile_sublist _).subset hd) he same
      exact offered (this ▸ unoffered)
    rw [State.makeOffer_queue]
    split
    · exact List.mem_map.mpr ⟨e, he, if_neg (by simpa using free)⟩
    · exact he

/-- 06 R97: every entry after the test stands as before it, or is offered. -/
theorem State.offerTest_entries {s : State} {e : Entry} (he : e ∈ s.offerTest.track.queue) :
    ∃ d ∈ s.track.queue, d.motion = e.motion ∧ (e.offer = d.offer ∨ e.offer = .offered) := by
  rcases s.offerTest_cases with ⟨track, -, -⟩ | ⟨o, c, post, offers⟩
  · exact ⟨e, track ▸ he, rfl, .inl rfl⟩
  · rw [offers.made, State.makeOffer_queue] at he
    split at he
    · obtain ⟨d, hd, rfl⟩ := List.mem_map.mp he
      refine ⟨d, hd, ?_⟩
      split
      · exact ⟨rfl, .inr rfl⟩
      · exact ⟨rfl, .inl rfl⟩
    · exact ⟨e, he, rfl, .inl rfl⟩

/-- 06 R97: the records after the test: that of the destination offered to awaits, with its OFFER queued. -/
theorem State.offerTest_offerTo {s : State} {p : Pos} {o' : OfferRecord} (h : s.offerTest.offerTo p = some o') :
    s.offerTo p = some o' ∨ ∃ o e post, s.Offers o e post ∧ o.dest = p ∧ s.txRoom = true ∧
      o' = { o with state := .awaiting, offered := s.offerSerials o (e :: post), answer := .stopped, reoffer := .stopped
                    retryMet := false } ∧
      ∃ w sp, s.offerTest.queued s.recovery.epoch (.offer p o'.offered w sp) := by
  rcases s.offerTest_cases with ⟨-, handoff, -⟩ | ⟨o, e, post, offers⟩
  · left
    rw [State.offerTo, handoff] at h
    exact h
  · rw [offers.made] at h ⊢
    cases room : s.txRoom with
    | false =>
      left
      rw [State.offerTo, State.makeOffer_full s o _ room] at h
      exact h
    | true =>
      obtain ⟨queued, awaits, -, -⟩ := s.makeOffer_made o (s.offerSerials o (e :: post)) room offers.record
      by_cases same : o.dest = p
      · right
        subst same
        obtain rfl := Option.some.inj (awaits.symm.trans h)
        exact ⟨o, e, post, offers, rfl, rfl, rfl, _, _, queued⟩
      · left
        rw [← h]
        exact (State.makeOffer_otherOffer s o _ same).symm

/-! ### The marks of an answer (05 R75, 06 R108) -/

/-- 06 R108: a mark of another epoch does not stand (log 37). -/
theorem State.staleMarks_iff {s : State} (e : Epoch) (moving : movingPath s.path = true) :
    s.staleMarks e = true ↔ e ≠ s.recovery.epoch ∧ (s.path ≠ .run ∨ s.roster.planInForce ≠ none) := by
  unfold State.staleMarks
  rw [Bool.and_eq_true, bne_iff_ne]
  refine and_congr_right fun _ => ?_
  generalize s.path = path at *
  cases path with
  | run => simp [Option.isSome_iff_ne_none]
  | runout | resuming => simp
  | _ => simp [movingPath] at moving

/-- What an ACCEPT for the sheets `xs`, stale or not, makes of the entry `e`. -/
structure Entry.AcceptedAs (e g : Entry) (xs : List Serial) (holds stale : Bool) : Prop where
  serial : g.serial = e.serial
  offer : g.offer = e.offer
  deferred : e.serial ∈ xs → g.deferred = false
  release : g.release = if e.serial ∈ xs ∧ holds = true ∧ stale = false then true else e.release

theorem State.endHold_marks (b s : State) : ∃ g : Entry → Entry, (State.endHold b s).track.queue = s.track.queue.map g ∧
    ∀ e, (g e).serial = e.serial ∧ (g e).offer = e.offer ∧ (g e).deferred = e.deferred ∧ (g e).release = e.release := by
  obtain ⟨g, queue, loads⟩ := State.endHold_queue b s
  refine ⟨g, queue, fun e => ?_⟩
  rcases loads e with h | h <;> simp [h, State.reloadEntry]

theorem State.markAccepted_queue (s : State) (epoch : Epoch) (xs : List Serial) : ∃ g : Entry → Entry,
    (s.markAccepted epoch xs).track.queue = s.track.queue.map g ∧
      ∀ e : Entry, e.AcceptedAs (g e) xs s.isHolds (s.staleMarks epoch) := by
  unfold State.markAccepted
  dsimp only
  let t := s.mapQueue fun e =>
    if xs.contains e.serial then
      { e with deferred := false, release := if s.isHolds && !s.staleMarks epoch then true else e.release }
    else e
  obtain ⟨g, queue, marks⟩ := State.endHold_marks s t.gateFollow
  refine ⟨fun e => g (if xs.contains e.serial then
      { e with deferred := false, release := if s.isHolds && !s.staleMarks epoch then true else e.release } else e), ?_,
    fun e => ?_⟩
  · have followed : t.gateFollow.track = t.track := by simp
    rw [queue, followed]
    simp [t, State.mapQueue, Function.comp_def]
  · obtain ⟨serial, offer, deferred, release⟩ := marks (if xs.contains e.serial then
      { e with deferred := false, release := if s.isHolds && !s.staleMarks epoch then true else e.release } else e)
    by_cases named : e.serial ∈ xs
    · have listed : xs.contains e.serial = true := List.contains_iff_mem.mpr named
      simp only [listed, if_true] at serial offer deferred release ⊢
      exact ⟨serial, offer, fun _ => deferred, by rw [release]; simp [named]⟩
    · have listed : ¬ xs.contains e.serial = true := fun h => named (List.contains_iff_mem.mp h)
      simp only [listed] at serial offer deferred release ⊢
      exact ⟨serial, offer, fun h => absurd h named, by rw [release]; simp [named]⟩

/-- 04 R67: the gate follows the release mark of the gate sheet. -/
theorem State.gateSheet_release {s t : State} (h : t.track.queue.map (·.release) = s.track.queue.map (·.release)) :
    t.gateSheet.any (·.release) = s.gateSheet.any (·.release) := by
  have := congrArg List.head? h
  rw [List.head?_map, List.head?_map] at this
  unfold State.gateSheet
  cases ht : t.track.queue.head? <;> cases hs : s.track.queue.head? <;> simp_all

theorem State.markAccepted_gate (s : State) (epoch : Epoch) (xs : List Serial) (free : s.drive.gateHeld = false) :
    (s.markAccepted epoch xs).drive.gate = (s.isHolds && (s.markAccepted epoch xs).gateSheet.any (·.release)) := by
  unfold State.markAccepted
  dsimp only
  generalize hu : (s.mapQueue fun e =>
    if xs.contains e.serial then
      { e with deferred := false, release := if s.isHolds && !s.staleMarks epoch then true else e.release }
    else e) = u
  have held : u.drive.gateHeld = false := by rw [← hu]; exact free
  have holds : u.isHolds = s.isHolds := by rw [← hu]; rfl
  have follows : u.gateFollow.drive.gate = (u.isHolds && u.gateSheet.any (·.release)) := by
    simp [State.gateFollow, held]
  obtain ⟨g, queue, marks⟩ := State.endHold_marks s u.gateFollow
  have release : (State.endHold s u.gateFollow).track.queue.map (·.release) = u.track.queue.map (·.release) := by
    rw [queue]
    simp [Function.comp_def, marks]
  have drive : (State.endHold s u.gateFollow).drive = u.gateFollow.drive := by simp
  rw [State.gateSheet_release release, drive, follows, holds]

/-- The state at an ACCEPT that matches, before the next offer is tested. -/
def State.accepting (s : State) (sender : Pos) (epoch : Epoch) (xs : List Serial) (n : Nat) : State :=
  (((s.applyAccept sender epoch xs).declareFree sender n).markAccepted epoch xs).offerAccepted sender xs

theorem State.acceptReceived_matches (s : State) (f : RxFrame) (xs : List Serial) (n : Nat)
    (h : s.matchesOffer f.sender s.own xs true = true) :
    s.acceptReceived f s.own xs n = (s.accepting f.sender f.epoch xs n).offerTest := by
  unfold State.acceptReceived
  dsimp only
  rw [if_pos h, if_pos (beq_self_eq_true _)]
  rfl

/-- 06 R99: the entries at a matching ACCEPT: those named are ACCEPTED. -/
theorem State.accepting_queue (s : State) (sender : Pos) (epoch : Epoch) (xs : List Serial) (n : Nat) :
    ∃ g : Entry → Entry, (s.accepting sender epoch xs n).track.queue = s.track.queue.map g ∧ ∀ e : Entry,
      (g e).serial = e.serial ∧ (e.serial ∈ xs → (g e).offer = .accepted ∧ (g e).deferred = false) ∧
      (g e).release = if e.serial ∈ xs ∧ s.isHolds = true ∧ s.staleMarks epoch = false then true else e.release := by
  obtain ⟨g, queue, marks⟩ := ((s.applyAccept sender epoch xs).declareFree sender n).markAccepted_queue epoch xs
  have holds : ((s.applyAccept sender epoch xs).declareFree sender n).isHolds = s.isHolds := rfl
  have stale : ((s.applyAccept sender epoch xs).declareFree sender n).staleMarks epoch = s.staleMarks epoch := rfl
  rw [holds, stale] at marks
  refine ⟨fun e => if xs.contains (g e).serial then { g e with offer := .accepted } else g e, ?_, fun e => ?_⟩
  · unfold State.accepting State.offerAccepted State.setOfferStates State.mapQueue State.setOffer
    dsimp only
    rw [queue]
    simp [State.applyAccept, State.declareFree, State.setOffer, Function.comp_def]
  · obtain ⟨serial, offer, deferred, release⟩ := marks e
    by_cases named : e.serial ∈ xs
    · have listed : xs.contains (g e).serial = true := List.contains_iff_mem.mpr (serial ▸ named)
      simp only [listed, if_true]
      exact ⟨serial, fun _ => ⟨trivial, deferred named⟩, release⟩
    · have listed : ¬ xs.contains (g e).serial = true := fun h => named (serial ▸ List.contains_iff_mem.mp h)
      simp only [listed]
      exact ⟨serial, fun h => absurd h named, release⟩

theorem State.accepting_gate (s : State) (sender : Pos) (epoch : Epoch) (xs : List Serial) (n : Nat)
    (free : s.drive.gateHeld = false) : (s.accepting sender epoch xs n).drive.gate =
      (s.isHolds && (s.accepting sender epoch xs n).gateSheet.any (·.release)) := by
  have gate := ((s.applyAccept sender epoch xs).declareFree sender n).markAccepted_gate epoch xs free
  have release : (s.accepting sender epoch xs n).track.queue.map (·.release) =
      (((s.applyAccept sender epoch xs).declareFree sender n).markAccepted epoch xs).track.queue.map (·.release) := by
    unfold State.accepting State.offerAccepted State.setOfferStates State.mapQueue State.setOffer
    simp only [List.map_map, Function.comp_def]
    refine List.map_congr_left fun e _ => ?_
    split <;> rfl
  rw [State.gateSheet_release release]
  refine Eq.trans ?_ gate
  simp [State.accepting]

/-- 06 R95, R99: the records at a matching ACCEPT: that of its sender is IDLE, with the free count declared. -/
theorem State.accepting_offers (s : State) (sender : Pos) (epoch : Epoch) (xs : List Serial) (n : Nat) {o : OfferRecord}
    (h : o ∈ (s.accepting sender epoch xs n).handoff.offers) (dest : o.dest = sender) :
    o.state = .idle ∧ o.offered = [] ∧ o.answer = .stopped ∧ o.free = some n := by
  unfold State.accepting State.offerAccepted State.setOfferStates State.mapQueue State.setOffer at h
  simp only [State.markAccepted_frame] at h
  obtain ⟨d, hd, rfl⟩ := List.mem_map.mp h
  unfold State.declareFree State.setOffer at hd
  obtain ⟨c, -, rfl⟩ := List.mem_map.mp hd
  by_cases same : c.dest = sender
  · simp only [same, beq_self_eq_true, if_true]
    split <;> simp
  · simp [same] at dest

theorem map_of_motion {α : Type} {es fs : List Entry} (h : es.map Entry.motion = fs.map Entry.motion) (g : Entry → α)
    (ignores : ∀ e : Entry, g e.motion = g e) : es.map g = fs.map g := by
  have := congrArg (List.map g) h
  simpa [Function.comp_def, ignores] using this

/-- 06 R99: a matching ACCEPT. -/
theorem State.acceptReceived_stands {s : State} (f : RxFrame) (xs : List Serial) (n : Nat)
    (nodup : (s.track.queue.map (·.serial)).Nodup) (moving : movingPath s.path = true)
    (fits : s.matchesOffer f.sender s.own xs true = true) :
    let t := s.acceptReceived f s.own xs n
    let stale : Prop := f.epoch ≠ s.recovery.epoch ∧ (s.path ≠ .run ∨ s.roster.planInForce ≠ none)
    t.track.queue.map (·.serial) = s.track.queue.map (·.serial) ∧
      (∀ e ∈ t.track.queue, e.serial ∈ xs →
        e.offer = .accepted ∧ e.deferred = false ∧ (s.isHolds = true → ¬ stale → e.release = true)) ∧
      (stale → t.track.queue.map (·.release) = s.track.queue.map (·.release)) ∧
      (s.drive.gateHeld = false → t.drive.gate = (s.isHolds && t.gateSheet.any (·.release))) ∧
      (∀ o ∈ t.handoff.offers, o.dest = f.sender → o.free = some n) ∧
      (∀ o, t.offerTo f.sender = some o → o.answer = .stopped ∧
        (o.state = .idle ∧ o.offered = [] ∨
          o.state = .awaiting ∧ ∃ w sp, t.queued s.recovery.epoch (.offer f.sender o.offered w sp))) := by
  intro t stale
  have ht : t = (s.accepting f.sender f.epoch xs n).offerTest := s.acceptReceived_matches f xs n fits
  obtain ⟨g, queue, marks⟩ := s.accepting_queue f.sender f.epoch xs n
  have motion : t.track.queue.map Entry.motion = (s.accepting f.sender f.epoch xs n).track.queue.map Entry.motion := by
    rw [ht]
    exact State.offerTest_motion _
  have accepted : (s.accepting f.sender f.epoch xs n).track.queue.map (·.serial) = s.track.queue.map (·.serial) := by
    rw [queue]
    simp [Function.comp_def, marks]
  have serials : t.track.queue.map (·.serial) = s.track.queue.map (·.serial) :=
    (map_of_motion motion _ fun _ => rfl).trans accepted
  have releases : t.track.queue.map (·.release) = (s.accepting f.sender f.epoch xs n).track.queue.map (·.release) :=
    map_of_motion motion _ fun _ => rfl
  have staleIff := State.staleMarks_iff f.epoch moving
  refine ⟨serials, fun e he named => ?_, fun isStale => ?_, fun free => ?_, fun o ho dest => ?_, fun o ho => ?_⟩
  · obtain ⟨c, hc, same⟩ := List.mem_map.mp (motion ▸ List.mem_map_of_mem he : e.motion ∈ _)
    have serial : c.motion.serial = e.motion.serial := congrArg Entry.serial same
    change c.serial = e.serial at serial
    rw [queue] at hc
    obtain ⟨d, hd, rfl⟩ := List.mem_map.mp hc
    obtain ⟨kept, offered, release⟩ := marks d
    have named' : d.serial ∈ xs := by rw [← kept, serial]; exact named
    obtain ⟨offer, deferred⟩ := offered named'
    have stays : g d ∈ t.track.queue := by
      rw [ht]
      exact State.offerTest_kept (accepted ▸ nodup) (queue ▸ List.mem_map_of_mem hd) (by simp [offer])
    obtain rfl : g d = e := eq_of_nodup_map (·.serial) (serials ▸ nodup) stays he serial
    refine ⟨offer, deferred, fun holds fresh => ?_⟩
    rw [release, if_pos ⟨named', holds, Bool.eq_false_iff.mpr (mt staleIff.mp fresh)⟩]
  · rw [releases, queue, List.map_map]
    refine List.map_congr_left fun d _ => ?_
    obtain ⟨-, -, release⟩ := marks d
    simp [release, staleIff.mpr isStale]
  · rw [State.gateSheet_release releases, ← s.accepting_gate f.sender f.epoch xs n free, ht]
    simp
  · rw [ht] at ho
    obtain ⟨c, hc, same, kept⟩ := State.offerTest_free ho
    rw [← kept]
    obtain ⟨-, -, -, free⟩ := s.accepting_offers f.sender f.epoch xs n hc (same.trans dest)
    exact free
  · rw [ht] at ho ⊢
    rcases State.offerTest_offerTo ho with before | ⟨c, e, post, -, -, -, rfl, w, sp, queued⟩
    · obtain ⟨idle, offered, answer, -⟩ :=
        s.accepting_offers f.sender f.epoch xs n (List.mem_of_find?_eq_some before) (State.offerTo_dest before)
      exact ⟨answer, .inl ⟨idle, offered⟩⟩
    · have epoch : (s.accepting f.sender f.epoch xs n).recovery.epoch = s.recovery.epoch := by simp [State.accepting]
      exact ⟨rfl, .inr ⟨rfl, w, sp, epoch ▸ queued⟩⟩

/-! ### DEFER -/

/-- The state at a DEFER that matches, before the next offer is tested. -/
def State.deferring (s : State) (sender : Pos) (epoch : Epoch) (xs : List Serial) (reason : DeferReason) (n : Nat) : State :=
  (((s.applyDefer sender epoch xs reason).declareFree sender n).markDeferred epoch xs).offerDeferred sender xs reason n

theorem State.deferReceived_matches (s : State) (f : RxFrame) (xs : List Serial) (reason : DeferReason) (n : Nat)
    (h : s.matchesOffer f.sender s.own xs false = true) :
    s.deferReceived f s.own xs reason n =
      if State.reofferMet s (s.deferring f.sender f.epoch xs reason n) f.sender then
        (s.deferring f.sender f.epoch xs reason n).offerTest
      else s.deferring f.sender f.epoch xs reason n := by
  unfold State.deferReceived
  dsimp only
  rw [if_pos h, if_pos (beq_self_eq_true _)]
  rfl

/-- 05 R75: the deferred mark of a DEFER for the sheets `xs`. -/
def State.deferMark (s : State) (epoch : Epoch) (xs : List Serial) (e : Entry) : Entry :=
  if xs.contains e.serial && !s.staleMarks epoch then { e with deferred := true } else e

theorem State.deferMark_serial (s : State) (epoch : Epoch) (xs : List Serial) (e : Entry) :
    (s.deferMark epoch xs e).serial = e.serial := by
  unfold State.deferMark
  split <;> rfl

/-- 06 R99: the entries at a matching DEFER: with ROOM those named are UNOFFERED. -/
theorem State.deferring_queue (s : State) (sender : Pos) (epoch : Epoch) (xs : List Serial) (reason : DeferReason) (n : Nat) :
    ∃ g : Entry → Entry, (s.deferring sender epoch xs reason n).track.queue = s.track.queue.map g ∧ ∀ e : Entry,
      (g e).place = e.place ∧
      (g e).deferred = (if e.serial ∈ xs ∧ s.staleMarks epoch = false then true else e.deferred) ∧
      (g e).offer = if e.serial ∈ xs ∧ reason = .room then .unoffered else e.offer := by
  have stale : ((s.applyDefer sender epoch xs reason).declareFree sender n).staleMarks epoch = s.staleMarks epoch := rfl
  have marked : (((s.applyDefer sender epoch xs reason).declareFree sender n).markDeferred epoch xs).track.queue =
      s.track.queue.map (s.deferMark epoch xs) := by
    unfold State.markDeferred
    rw [stale]
    rfl
  by_cases room : reason = .room
  · refine ⟨fun e => if xs.contains (s.deferMark epoch xs e).serial then
      { s.deferMark epoch xs e with offer := .unoffered } else s.deferMark epoch xs e, ?_, fun e => ?_⟩
    · unfold State.deferring State.offerDeferred
      rw [if_pos (by simp [room])]
      unfold State.setOfferStates State.mapQueue State.setOffer
      dsimp only
      rw [marked]
      simp [Function.comp_def]
    · dsimp only
      rw [State.deferMark_serial]
      by_cases named : e.serial ∈ xs <;> cases hs : s.staleMarks epoch <;> simp [State.deferMark, named, hs, room, Entry.place]
  · refine ⟨s.deferMark epoch xs, ?_, fun e => ?_⟩
    · unfold State.deferring State.offerDeferred
      rw [if_neg (by simp [room])]
      exact marked
    · by_cases named : e.serial ∈ xs <;> cases hs : s.staleMarks epoch <;> simp [State.deferMark, named, hs, room, Entry.place]

/-- 06 R99: the record of the destination at a matching DEFER. -/
theorem State.deferring_offerTo {s : State} {sender : Pos} {xs : List Serial} (epoch : Epoch) (reason : DeferReason) (n : Nat)
    (h : s.matchesOffer sender s.own xs false = true) : ∃ o, s.offerTo sender = some o ∧ o.offered = xs ∧
      (s.deferring sender epoch xs reason n).offerTo sender = some (if reason = .room then
        { o with state := .retry, offered := [], answer := .stopped, free := some n, retryMet := decide (1 ≤ n)
                 reoffer := if 1 ≤ n then .stopped else .running 50 }
        else { o with state := .deferred, answer := .stopped, free := some n }) := by
  unfold State.matchesOffer at h
  rw [Bool.and_eq_true, Option.any_eq_true] at h
  obtain ⟨-, o, found, fits⟩ := h
  simp only [Bool.false_and, Bool.or_false, Bool.and_eq_true, beq_iff_eq] at fits
  obtain ⟨offered, awaiting⟩ := fits
  refine ⟨o, found, offered, ?_⟩
  have declared : (((s.applyDefer sender epoch xs reason).declareFree sender n).markDeferred epoch xs).offerTo sender =
      some { o with free := some n } := by
    have same : (((s.applyDefer sender epoch xs reason).declareFree sender n).markDeferred epoch xs).offerTo sender =
        (s.offerTo sender).map fun o =>
          if o.state == .retry && !o.retryMet && 1 ≤ n then { o with free := some n, retryMet := true, reoffer := .stopped }
          else { o with free := some n } :=
      State.offerTo_setOffer (s.applyDefer sender epoch xs reason) sender _ fun o => by split <;> rfl
    rw [same, found, Option.map_some, if_neg (by simp [awaiting])]
  unfold State.deferring State.offerDeferred
  by_cases room : reason = .room
  · rw [if_pos (by simp [room]), if_pos room]
    have set := State.offerTo_setOffer (((s.applyDefer sender epoch xs reason).declareFree sender n).markDeferred epoch xs)
      sender (fun o => { o with
        state := .retry, offered := [], answer := .stopped, retryMet := decide (1 ≤ n)
        reoffer := if 1 ≤ n then .stopped else .running Config.reOfferMs }) fun _ => rfl
    rw [declared] at set
    exact set
  · rw [if_neg (by simp [room]), if_neg room]
    have set := State.offerTo_setOffer (((s.applyDefer sender epoch xs reason).declareFree sender n).markDeferred epoch xs)
      sender (fun o => { o with state := .deferred, answer := .stopped }) fun _ => rfl
    rw [declared] at set
    exact set

/-- 06 R99: the re-offer of a matching DEFER is tested when its condition is met now. -/
theorem State.deferring_reoffer {s : State} {sender : Pos} {xs : List Serial} {o o' : OfferRecord} (epoch : Epoch)
    (reason : DeferReason) (n : Nat) (found : s.offerTo sender = some o)
    (after : (s.deferring sender epoch xs reason n).offerTo sender = some o') :
    State.reofferMet s (s.deferring sender epoch xs reason n) sender = (o'.retryMet && !o.retryMet) := by
  simp [State.reofferMet, found, after]

/-- 06 R99: a DEFER with another reason than ROOM, or with no slot free, is followed by no offer. -/
theorem State.deferReceived_waits {s : State} (f : RxFrame) (xs : List Serial) (reason : DeferReason) (n : Nat)
    (fits : s.matchesOffer f.sender s.own xs false = true) (waits : reason ≠ .room ∨ n = 0) :
    s.deferReceived f s.own xs reason n = s.deferring f.sender f.epoch xs reason n := by
  obtain ⟨o, found, -, after⟩ := State.deferring_offerTo f.epoch reason n fits
  rw [s.deferReceived_matches f xs reason n fits, State.deferring_reoffer f.epoch reason n found after, if_neg]
  rcases waits with other | rfl
  · simp [other]
  · by_cases room : reason = .room <;> simp [room]

/-- 06 R97: an offer made again is of the candidate alone. -/
theorem State.offerSerials_retry {s : State} {o : OfferRecord} {e : Entry} {post : List Entry} (retry : o.state = .retry)
    (first : s.inRun o.dest e = true) : s.offerSerials o (e :: post) = [e.serial] := by
  unfold State.offerSerials
  simp [retry, first, Config.trainMax]

/-- 06 R99: the record of the destination after a matching DEFER. -/
theorem State.deferReceived_record {s : State} (f : RxFrame) (xs : List Serial) (reason : DeferReason) (n : Nat)
    (fits : s.matchesOffer f.sender s.own xs false = true) {o : OfferRecord}
    (h : (s.deferReceived f s.own xs reason n).offerTo f.sender = some o) :
    o.answer = .stopped ∧ o.free = some n ∧
      (reason = .room → n = 0 → o.state = .retry ∧ o.offered = [] ∧ o.reoffer = .running 50 ∧ o.retryMet = false) ∧
      (reason = .room → 1 ≤ n → o.reoffer = .stopped ∧
        (o.state = .retry ∧ o.offered = [] ∧ o.retryMet = true ∨
          o.state = .awaiting ∧ ∃ x w sp, o.offered = [x] ∧
            (s.deferReceived f s.own xs reason n).queued s.recovery.epoch (.offer f.sender [x] w sp))) ∧
      (reason ≠ .room → o.state = .deferred ∧ o.offered = xs) := by
  obtain ⟨c, found, offered, after⟩ := State.deferring_offerTo f.epoch reason n fits
  by_cases waits : reason ≠ .room ∨ n = 0
  · rw [State.deferReceived_waits f xs reason n fits waits, after] at h
    obtain rfl := Option.some.inj h
    rcases waits with other | rfl
    · simp [other, offered]
    · by_cases room : reason = .room <;> simp [room, offered]
  · obtain ⟨room, slots⟩ : reason = .room ∧ 1 ≤ n := by
      rw [not_or, Classical.not_not] at waits
      exact ⟨waits.1, Nat.one_le_iff_ne_zero.mpr waits.2⟩
    rw [if_pos room] at after
    have epoch : (s.deferring f.sender f.epoch xs reason n).recovery.epoch = s.recovery.epoch := by simp [State.deferring]
    rw [s.deferReceived_matches f xs reason n fits] at h ⊢
    have untested : (s.deferring f.sender f.epoch xs reason n).offerTo f.sender = some o →
        o.answer = .stopped ∧ o.free = some n ∧ o.reoffer = .stopped ∧ o.state = .retry ∧ o.offered = [] ∧
          o.retryMet = true := by
      intro same
      obtain rfl := Option.some.inj (after.symm.trans same)
      simp [slots]
    split at h
    · rcases State.offerTest_offerTo h with before | ⟨d, e, post, offers, dest, -, rfl, w, sp, queued⟩
      · obtain ⟨answer, free, reoffer, rest⟩ := untested before
        exact ⟨answer, free, fun _ zero => by omega, fun _ _ => ⟨reoffer, .inl rest⟩, fun other => absurd room other⟩
      · have record := offers.record
        rw [dest, after] at record
        obtain rfl := Option.some.inj record
        have single := State.offerSerials_retry (post := post) rfl offers.first
        refine ⟨rfl, rfl, fun _ zero => by omega, fun _ _ => ⟨rfl, .inr ⟨rfl, e.serial, w, sp, single, ?_⟩⟩,
          fun other => absurd room other⟩
        rw [if_pos (by assumption), ← epoch, ← single]
        exact queued
    · obtain ⟨answer, free, reoffer, rest⟩ := untested h
      exact ⟨answer, free, fun _ zero => by omega, fun _ _ => ⟨reoffer, .inl rest⟩, fun other => absurd room other⟩

/-- 06 R99: the entries after a matching DEFER. -/
theorem State.deferReceived_entries {s : State} (f : RxFrame) (xs : List Serial) (reason : DeferReason) (n : Nat)
    (moving : movingPath s.path = true) (fits : s.matchesOffer f.sender s.own xs false = true) :
    let t := s.deferReceived f s.own xs reason n
    let stale : Prop := f.epoch ≠ s.recovery.epoch ∧ (s.path ≠ .run ∨ s.roster.planInForce ≠ none)
    (∀ e ∈ t.track.queue, e.serial ∈ xs → ¬ stale → e.deferred = true) ∧
      (stale → t.track.queue.map (·.deferred) = s.track.queue.map (·.deferred)) ∧
      (∀ e ∈ t.track.queue, e.serial ∈ xs → reason = .room → e.offer = .unoffered ∨ 1 ≤ n ∧ e.offer = .offered) ∧
      (reason ≠ .room → t.track.queue.map (·.offer) = s.track.queue.map (·.offer)) := by
  intro t stale
  let v := s.deferring f.sender f.epoch xs reason n
  obtain ⟨g, queue, marks⟩ := s.deferring_queue f.sender f.epoch xs reason n
  have staleIff := State.staleMarks_iff f.epoch moving
  have cases : t = v ∨ (reason = .room ∧ 1 ≤ n) ∧ t = v.offerTest := by
    by_cases waits : reason ≠ .room ∨ n = 0
    · exact .inl (State.deferReceived_waits f xs reason n fits waits)
    · rw [not_or, Classical.not_not] at waits
      have := s.deferReceived_matches f xs reason n fits
      split at this
      · exact .inr ⟨⟨waits.1, Nat.one_le_iff_ne_zero.mpr waits.2⟩, this⟩
      · exact .inl this
  have motion : t.track.queue.map Entry.motion = v.track.queue.map Entry.motion := by
    rcases cases with same | ⟨-, same⟩
    · rw [same]
    · rw [same]
      exact State.offerTest_motion v
  have entry {e : Entry} (he : e ∈ t.track.queue) (named : e.serial ∈ xs) : ∃ d : Entry, d.serial ∈ xs ∧
      (g d).deferred = e.deferred ∧ (e.offer = (g d).offer ∨ (reason = .room ∧ 1 ≤ n) ∧ e.offer = .offered) := by
    obtain ⟨c, hc, same, offer⟩ : ∃ c ∈ v.track.queue, c.motion = e.motion ∧
        (e.offer = c.offer ∨ (reason = .room ∧ 1 ≤ n) ∧ e.offer = .offered) := by
      rcases cases with same | ⟨room, same⟩
      · exact ⟨e, same ▸ he, rfl, .inl rfl⟩
      · obtain ⟨c, hc, moved, offer⟩ := State.offerTest_entries (same ▸ he)
        exact ⟨c, hc, moved, offer.imp_right fun offered => ⟨room, offered⟩⟩
    obtain ⟨d, -, rfl⟩ := List.mem_map.mp (queue ▸ hc)
    obtain ⟨place, -, -⟩ := marks d
    have moved : (g d).motion.serial = e.motion.serial := congrArg Entry.serial same
    have kept : (g d).serial = d.serial := congrArg Prod.fst place
    have marked : (g d).motion.deferred = e.motion.deferred := congrArg Entry.deferred same
    exact ⟨d, kept ▸ (show (g d).serial = e.serial from moved) ▸ named, marked, offer⟩
  refine ⟨fun e he named fresh => ?_, fun isStale => ?_, fun e he named room => ?_, fun other => ?_⟩
  · obtain ⟨d, named', deferred, -⟩ := entry he named
    obtain ⟨-, marked, -⟩ := marks d
    rw [← deferred, marked, if_pos ⟨named', Bool.eq_false_iff.mpr (mt staleIff.mp fresh)⟩]
  · rw [map_of_motion motion (·.deferred) fun _ => rfl]
    rw [show v.track.queue = s.track.queue.map g from queue, List.map_map]
    refine List.map_congr_left fun d _ => ?_
    obtain ⟨-, marked, -⟩ := marks d
    simp [marked, staleIff.mpr isStale]
  · obtain ⟨d, named', -, offer⟩ := entry he named
    obtain ⟨-, -, unoffered⟩ := marks d
    rw [if_pos ⟨named', room⟩] at unoffered
    rcases offer with same | ⟨⟨-, slots⟩, offered⟩
    · exact .inl (same.trans unoffered)
    · exact .inr ⟨slots, offered⟩
  · rcases cases with same | ⟨⟨room, -⟩, -⟩
    · rw [same, show v.track.queue = s.track.queue.map g from queue, List.map_map]
      refine List.map_congr_left fun d _ => ?_
      obtain ⟨-, -, offer⟩ := marks d
      simp [offer, other]
    · exact absurd room other

/-- 01 R15: a DEFER touches no more of a record than its handoff field. -/
theorem State.applyDefer_record {s : State} (sender : Pos) (epoch : Epoch) (xs : List Serial) (reason : DeferReason)
    {x : Serial} {q : SheetRecord} (h : s.record x = some q) : ∃ q', (s.applyDefer sender epoch xs reason).record x = some q' ∧
      q'.stage = q.stage ∧ q'.holder = q.holder ∧ s.nextStation q' = s.nextStation q := by
  unfold State.record State.applyDefer
  dsimp only
  rw [List.find?_map]
  have keyed (k : SheetRecord → Bool) : ((fun r : SheetRecord => r.serial == x) ∘ fun r =>
      if k r then { r with handoff := none } else r) = fun r => r.serial == x := by
    funext r
    simp only [Function.comp]
    split <;> rfl
  rw [keyed, show s.roster.records.find? (fun r => r.serial == x) = some q from h]
  refine ⟨_, rfl, ?_⟩
  dsimp only
  split <;> exact ⟨rfl, rfl, rfl⟩

/-- 06 R96, R99: at a DEFER with ROOM and a free slot the first sheet, when it is the candidate in RUN, is offered again. -/
theorem State.deferReceived_reoffers {s : State} {f : RxFrame} {xs : List Serial} {n : Nat} {e : Entry} {post : List Entry}
    {q : SheetRecord} {o : OfferRecord} (fits : s.matchesOffer f.sender s.own xs false = true) (slots : 1 ≤ n)
    (run : s.path = .run) (exit : s.hasRole .exit = false) (queue : s.track.queue = e :: post)
    (head : xs.head? = some e.serial) (lead : e.leadZone = s.lastSensor) (record : s.record e.serial = some q)
    (fed : q.stage = .fed) (holder : q.holder = some s.own) (next : s.nextStation q = some f.sender)
    (offer : s.offerTo f.sender = some o) (unmet : o.retryMet = false) (present : s.isAbsent f.sender = false)
    (room : s.txRoom = true) :
    (s.deferReceived f s.own xs .room n).queued s.recovery.epoch
        (.offer f.sender [e.serial] (s.zone s.lastSensor).lead (s.zone s.lastSensor).trail) ∧
      ∃ o', (s.deferReceived f s.own xs .room n).offerTo f.sender = some o' ∧ o'.state = .awaiting ∧
        o'.offered = [e.serial] := by
  obtain ⟨g, mapped, marks⟩ := s.deferring_queue f.sender f.epoch xs .room n
  obtain ⟨place, -, unoffered⟩ := marks e
  rw [if_pos ⟨List.mem_of_mem_head? head, rfl⟩] at unoffered
  have serial : (g e).serial = e.serial := congrArg Prod.fst place
  have zone : (g e).leadZone = e.leadZone := congrArg (fun p => p.2.2.1) place
  obtain ⟨c, found, -, after⟩ := State.deferring_offerTo f.epoch .room n fits
  obtain rfl := Option.some.inj (found.symm.trans offer)
  rw [if_pos rfl] at after
  rw [s.deferReceived_matches f xs .room n fits, State.deferring_reoffer f.epoch .room n found after,
    if_pos (by simp [slots, unmet])]
  generalize hv : s.deferring f.sender f.epoch xs .room n = v at *
  have profile : v.profile = s.profile := by rw [← hv]; simp [State.deferring]
  have table : v.table = s.table := by rw [← hv]; simp [State.deferring]
  have link : v.link = s.link := by rw [← hv]; simp [State.deferring]
  have recovery : v.recovery = s.recovery := by rw [← hv]; simp [State.deferring]
  have own : v.own = s.own := by simp [State.own, State.prof, profile]
  have last : v.lastSensor = s.lastSensor := by simp [State.lastSensor, State.prof, profile]
  have path : v.path = .run := by rw [State.path, recovery]; exact run
  obtain ⟨q', record', fed', holder', next'⟩ : ∃ q', v.record (g e).serial = some q' ∧ q'.stage = .fed ∧
      q'.holder = some v.own ∧ v.nextStation q' = some f.sender := by
    obtain ⟨q', found', same⟩ := State.applyDefer_record (s := s) f.sender f.epoch xs .room record
    have roster : v.record (g e).serial = some q' := by
      rw [serial, ← found', ← hv]
      simp [State.record, State.deferring]
    obtain ⟨stage, held, route⟩ := same
    refine ⟨q', roster, stage.trans fed, by rw [held, own]; exact holder, ?_⟩
    rw [← next, ← route]
    simp [State.nextStation, State.purgeAfter, State.mapOf, table]
  have first : v.inRun f.sender (g e) = true := by
    rw [State.inRun_run path, record']
    simp [unoffered, fed', holder', next']
  obtain ⟨o', again, retry, met⟩ : ∃ o', v.offerTo f.sender = some o' ∧ o'.state = .retry ∧ o'.retryMet = true :=
    ⟨_, after, rfl, by simp [slots]⟩
  have dest := State.offerTo_dest again
  have made := State.offerTest_idle (pre := []) (by simpa [State.hasRole, State.prof, profile] using exit)
    (by rw [mapped, queue]; rfl) unoffered (by simp) path (by rw [zone, last]; exact lead) record' fed' holder' next'
    (by simpa [State.isAbsent, State.entry, table] using present) again (.inr ⟨retry, met⟩)
  rw [State.offerSerials_retry retry (dest ▸ first), serial] at made
  have roomy : v.txRoom = true := by rw [State.txRoom, link]; exact room
  obtain ⟨queued, awaits, -, -⟩ := v.makeOffer_made o' [e.serial] roomy (dest ▸ again)
  have zoneKept : v.zone v.lastSensor = s.zone s.lastSensor := by rw [last]; simp [State.zone, State.prof, profile]
  rw [zoneKept, recovery, dest] at queued
  rw [dest] at awaits
  rw [made]
  exact ⟨queued, _, awaits, rfl, rfl⟩

/-- Settles O44. -/
theorem answersToAnOffer : Obligations.AnswersToAnOffer := by
  unfold Obligations.AnswersToAnOffer
  refine ⟨?_, ?_⟩
  · intro s f rest xs n receives nodup payload moving stale fits
    obtain ⟨serials, entries, releases, gate, free, record⟩ :=
      State.acceptReceived_stands (s := s.taken rest) f xs n nodup moving fits
    refine ⟨_, exec_acceptReceipt receives payload, serials, entries, releases, gate, free, record, ?_⟩
    have kept := (s.taken rest).acceptReceived_matches f xs n fits
    rw [show (s.taken rest).own = s.own from rfl] at kept
    rw [kept]
    simp [State.accepting, State.taken, State.sameSetup]
  · intro s f rest xs reason n receives payload moving stale fits
    obtain ⟨marks, unmarked, room, kept⟩ :=
      State.deferReceived_entries (s := s.taken rest) f xs reason n moving fits
    refine ⟨_, exec_deferReceipt receives payload, marks, unmarked, room, kept,
      fun o h => State.deferReceived_record (s := s.taken rest) f xs reason n fits h, ?_, fun waits => ?_, ?_⟩
    · rintro e post q o rfl slots run exit queue head lead record fed holder next offer unmet txRoom
      exact State.deferReceived_reoffers (s := s.taken rest) fits slots run exit queue head lead record fed holder next offer
        unmet receives.2.2 txRoom
    · have := State.deferReceived_waits (s := s.taken rest) f xs reason n fits waits
      rw [show (s.taken rest).own = s.own from rfl] at this
      rw [this]
      simp [State.deferring, State.taken]
    · have : ∃ b : Bool, (s.taken rest).deferReceived f s.own xs reason n =
          if b then ((s.taken rest).deferring f.sender f.epoch xs reason n).offerTest
          else (s.taken rest).deferring f.sender f.epoch xs reason n :=
        ⟨_, (s.taken rest).deferReceived_matches f xs reason n fits⟩
      obtain ⟨b, same⟩ := this
      rw [same]
      cases b <;> simp [State.deferring, State.taken, State.sameSetup]

end Sys2Proof.Machine
end

section
/-! PROOFS. ARRIVED, DELIVERED and SET DONE (O45, O47, O48). -/

namespace Sys2Proof.Machine

/-! ### The record a frame names -/

/-- A change that keeps the serials leaves every record where it is found. -/
theorem State.record_setRecord (s : State) (x y : Serial) (f : SheetRecord → SheetRecord) (kept : ∀ r, (f r).serial = r.serial) :
    (s.setRecord x f).record y = (s.record y).map fun r => if r.serial == x then f r else r := by
  unfold State.record State.setRecord
  dsimp only
  rw [List.find?_map]
  have keyed : ((fun r : SheetRecord => r.serial == y) ∘ fun r => if r.serial == x then f r else r) =
      fun r => r.serial == y := by
    funext r
    simp only [Function.comp]
    split
    · rw [kept]
    · rfl
  rw [keyed]

/-! ### The demand at a roster change -/

/-- 07 R117: the crossing after it is tested. -/
theorem State.demandCrossing_crossing {s : State} (feed : s.hasRole .feed = true) (live : livePath s.path = true) :
    s.demandCrossing.feed.crossing = if s.freeSlots s.own < s.prof.demandThreshold then .armed
      else if s.feed.crossing = .armed ∧ s.path = .run then .spent else s.feed.crossing := by
  unfold State.demandCrossing
  rw [if_pos (by simp [feed, live])]
  dsimp only
  split
  · rfl
  · by_cases armed : s.feed.crossing = .armed ∧ s.path = .run
    · rw [if_pos (by simp [armed]), if_pos armed]
    · rw [if_neg (by simpa using armed), if_neg armed]

/-- 07 R117: the crossing after a roster change at a FEED station. -/
theorem State.rosterChanged_crossing {s : State} (feed : s.hasRole .feed = true) (live : livePath s.path = true) :
    s.rosterChanged.feed.crossing = if s.freeSlots s.own < s.prof.demandThreshold then .armed
      else if s.feed.crossing = .armed ∧ s.path = .run then .spent else s.feed.crossing := by
  have path : s.dropPick.dropEntries.reevaluate.path = s.path := by
    have dropped := s.dropPick.dropEntries_path
    simp only [State.path, State.reevaluate_frame] at dropped ⊢
    rw [dropped]
    simp
  have crossing := State.demandCrossing_crossing (s := s.dropPick.dropEntries.reevaluate)
    (by simpa [State.hasRole, State.prof] using feed) (path ▸ live)
  have free : s.dropPick.dropEntries.reevaluate.freeSlots s.dropPick.dropEntries.reevaluate.own = s.freeSlots s.own := by
    simp [State.freeSlots, State.intake, State.own, State.prof]
  have threshold : s.dropPick.dropEntries.reevaluate.prof = s.prof := by simp [State.prof]
  have before : s.dropPick.dropEntries.reevaluate.feed.crossing = s.feed.crossing := by simp
  rw [path, free, threshold, before] at crossing
  unfold State.rosterChanged
  rw [if_pos feed]
  exact (by simp : _ = s.dropPick.dropEntries.reevaluate.demandCrossing.feed.crossing).trans crossing

theorem State.reevaluate_none {s : State} (h : s.handoff.deferred = []) : s.reevaluate = s := by
  unfold State.reevaluate
  split
  · rw [h]
    simp only [State.retestAll]
    rw [← h]
  · rfl

theorem State.dropEntries_none {s : State} (h : ∀ e ∈ s.track.queue, e.source = .pick → (s.record e.serial).isSome) :
    s.dropEntries = s := by
  have none : s.track.queue.filter (fun e => e.source == .pick && (s.record e.serial).isNone) = [] := by
    rw [List.filter_eq_nil_iff]
    intro e he
    cases hr : s.record e.serial with
    | some r => simp
    | none =>
      have := h e he
      simp_all
  unfold State.dropEntries
  split
  · simp [none]
  · rfl

/-- 07 R117: the crossing of the demand threshold, found at a roster change in RUN, sends DEMAND. -/
theorem State.rosterChanged_demands {s : State} (feed : s.hasRole .feed = true) (run : s.path = .run)
    (many : s.prof.demandThreshold ≤ s.freeSlots s.own) (armed : s.feed.crossing = .armed) (none : s.handoff.deferred = [])
    (records : ∀ e ∈ s.track.queue, e.source = .pick → (s.record e.serial).isSome) (room : s.txRoom = true) :
    s.rosterChanged.queued s.recovery.epoch (.demand (s.freeSlots s.own)) := by
  have dropped : s.dropPick.dropEntries = s.dropPick :=
    State.dropEntries_none (by simpa [State.record] using records)
  unfold State.rosterChanged
  rw [if_pos feed, dropped, State.reevaluate_none (by simpa using none)]
  generalize hu : s.dropPick = u
  have frame := s.dropPick_frame
  rw [hu] at frame
  have roomy : u.txRoom = true := by simpa [State.txRoom, frame] using room
  have free : u.freeSlots u.own = s.freeSlots s.own := by simp [State.freeSlots, State.intake, State.own, State.prof, frame]
  have sends : (u.queueFrame (.demand (u.freeSlots u.own))).Adds u.demandCrossing := by
    unfold State.demandCrossing
    have feed' : u.hasRole .feed = true := by simpa [State.hasRole, State.prof, frame] using feed
    have path : u.path = .run := by simpa [State.path, frame] using run
    rw [if_pos (by simp [feed', path, livePath])]
    dsimp only
    rw [if_neg (by rw [free]; simpa [State.prof, frame] using many),
      if_pos (by simpa [State.path, frame] using ⟨armed, run⟩)]
    exact .of rfl
  have queued := (sends.trans (.pickTest _)).sent roomy
  rw [free, show u.recovery = s.recovery by simp [frame]] at queued
  exact queued

/-! ### ARRIVED -/

theorem State.completed_away {s : State} (h : s.path ≠ .runout) : s.completed = s := by
  unfold State.completed State.runoutTest
  rw [State.needTest_unneeded h, State.ejectStart_away h, if_neg (by simp [h])]

theorem State.Adds.ownArrived (s : State) (sender : Pos) : s.Adds (s.ownArrived sender) := by
  unfold State.ownArrived
  split
  · exact .offerTest s
  · exact .refl s

theorem State.Adds.arrivedForPick (s : State) (sender : Pos) (picked : Bool) : s.Adds (s.arrivedForPick sender picked) := by
  unfold State.arrivedForPick
  split
  · exact .dropEntries s
  · exact .refl s

theorem exec_arrivedReceipt {s : State} {f : RxFrame} {rest : List RxFrame} {x : Serial} {picked : Bool}
    (h : s.receives f rest) (payload : f.payload = .arrived x picked) : exec .arrivedReceipt s =
      .next (((s.taken rest).arrivedReceived f.sender x picked).arrivedForPick f.sender picked) := by
  refine congrArg Host.Outcome.next ((s.receive_live f rest _ _ h (by rw [payload]; rfl)).trans ?_)
  rw [payload]

/-- 01 R14: the ARRIVED applies. -/
theorem State.arrives_iff (s : State) (sender : Pos) (picked : Bool) (r : SheetRecord) : s.arrives sender picked r = true ↔
    s.takesCustody r ∧ picked = true ∧ r.stage = .announced ∧ r.route.head? = some sender ∨
      s.takesCustody r ∧ picked = false ∧ r.stage = .fed ∧ s.nextStation r = some sender := by
  unfold State.arrives
  rw [Bool.and_eq_true, State.custodyApplies_iff]
  cases picked <;> simp

/-- 01 R14: the roster change of an ARRIVED that applies, and what follows it. -/
theorem State.arrivedReceived_applies {s : State} {sender : Pos} {x : Serial} {picked : Bool} {r : SheetRecord}
    (record : s.record x = some r) (h : s.arrives sender picked r = true) : s.arrivedReceived sender x picked =
      let t := ((s.setRecord x (SheetRecord.arrived sender picked)).rosterChanged).ownArrived sender
      if t.parkedNow x then t.completed else t := by
  unfold State.arrivedReceived
  rw [record]
  exact if_pos h

theorem State.arrivedReceived_ignored {s : State} {sender : Pos} {x : Serial} {picked : Bool} {r : SheetRecord}
    (record : s.record x = some r) (h : ¬ s.arrives sender picked r = true) :
    s.arrivedReceived sender x picked = s.ownArrived sender := by
  unfold State.arrivedReceived
  rw [record]
  exact if_neg h

/-- What an ARRIVED that applies leaves, beside the roster. -/
theorem State.arrivedReceived_kept {s : State} {sender : Pos} {x : Serial} {picked : Bool} {r : SheetRecord}
    (record : s.record x = some r) (h : s.arrives sender picked r = true) :
    (s.arrivedReceived sender x picked).roster = (s.setRecord x (SheetRecord.arrived sender picked)).roster ∧
      (s.arrivedReceived sender x picked).feed.crossing =
        (s.setRecord x (SheetRecord.arrived sender picked)).rosterChanged.feed.crossing := by
  rw [State.arrivedReceived_applies record h]
  dsimp only
  split <;> simp

/-- 07 R117: the frames of a roster change in RUN still wait after an ARRIVED. -/
theorem State.Adds.arrivedReceived {s : State} {sender : Pos} {x : Serial} {picked : Bool} {r : SheetRecord}
    (run : s.path = .run) (record : s.record x = some r) (h : s.arrives sender picked r = true) :
    (s.setRecord x (SheetRecord.arrived sender picked)).rosterChanged.Adds (s.arrivedReceived sender x picked) := by
  rw [State.arrivedReceived_applies record h]
  dsimp only
  have path : (((s.setRecord x (SheetRecord.arrived sender picked)).rosterChanged).ownArrived sender).path ≠ .runout := by
    have changed := (s.setRecord x (SheetRecord.arrived sender picked)).rosterChanged_path
    simp only [State.path, State.ownArrived_frame] at changed ⊢
    rw [changed]
    intro runout
    exact absurd (run.symm.trans runout) (by decide)
  rw [State.completed_away path]
  split <;> exact .ownArrived _ _

/-- Settles O45. -/
theorem arrivedMovesCustody : Obligations.ArrivedMovesCustody := by
  unfold Obligations.ArrivedMovesCustody
  intro s f rest x picked r receives payload record pickedHere movedHere change
  have applies := (s.taken rest).arrives_iff f.sender picked r
  refine ⟨_, exec_arrivedReceipt receives payload, ?_, fun feed custody wasPicked announced head => ?_, ?_⟩
  · have changed : ((s.taken rest).arrivedReceived f.sender x picked).roster =
        { s.roster with records := s.roster.records.map fun q => if q.serial = x then change q else q } := by
      by_cases h : (s.taken rest).arrives f.sender picked r = true
      · rw [(State.arrivedReceived_kept (s := s.taken rest) record h).1]
        have same : change = SheetRecord.arrived f.sender picked := by
          rcases applies.mp h with ⟨custody, rfl, rest⟩ | ⟨custody, rfl, rest⟩
          · exact if_pos ⟨custody, rfl, rest⟩
          · exact (if_neg fun other => absurd other.2.1 (by decide)).trans (if_pos ⟨custody, rfl, rest⟩)
        rw [same]
        simp [State.setRecord, State.taken]
      · rw [State.arrivedReceived_ignored (s := s.taken rest) record h]
        have same : change = id :=
          (if_neg fun other => h (applies.mpr (.inl other))).trans (if_neg fun other => h (applies.mpr (.inr other)))
        rw [same]
        simp [State.taken]
    rw [← changed]
    simp
  · have h := applies.mpr (.inl ⟨custody, wasPicked, announced, head⟩)
    obtain ⟨roster, crossing⟩ := State.arrivedReceived_kept (s := s.taken rest) record h
    intro n
    let u := (s.taken rest).setRecord x (SheetRecord.arrived f.sender picked)
    have free : u.freeSlots u.own = n := by
      have same : (((s.taken rest).arrivedReceived f.sender x picked).arrivedForPick f.sender picked).roster = u.roster := by
        rw [← roster]; simp
      show 12 - (u.intake u.own).length = 12 - _
      unfold State.intake
      rw [same]
      rfl
    refine ⟨?_, fun many armed run none records room => ?_⟩
    · have after := State.rosterChanged_crossing (s := u) feed receives.2.1
      rw [free] at after
      exact (by simp : _ = ((s.taken rest).arrivedReceived f.sender x picked).feed.crossing).trans (crossing.trans after)
    · have records' : ∀ e ∈ u.track.queue, e.source = .pick → (u.record e.serial).isSome := by
        intro e he pick
        rw [State.record_setRecord _ _ _ _ fun q => by unfold SheetRecord.arrived; split <;> rfl]
        rw [Option.isSome_map]
        exact records e he pick
      have demands := State.rosterChanged_demands (s := u) feed run (free ▸ many) armed none records' room
      rw [free] at demands
      exact ((State.Adds.arrivedReceived (s := s.taken rest) run record h).trans (.arrivedForPick _ _ _)).queued demands
  · by_cases h : (s.taken rest).arrives f.sender picked r = true
    · rw [State.arrivedReceived_applies (s := s.taken rest) record h]
      dsimp only
      split <;> simp [State.setRecord, State.taken, State.sameSetup]
    · rw [State.arrivedReceived_ignored (s := s.taken rest) record h]
      simp [State.taken, State.sameSetup]

/-! ### DELIVERED -/

theorem exec_deliveredReceipt {s : State} {f : RxFrame} {rest : List RxFrame} {x : Serial} {bin : Nat}
    (h : s.receives f rest) (payload : f.payload = .delivered x bin) :
    exec .deliveredReceipt s = .next ((s.taken rest).deliveredReceived f.sender x) := by
  refine congrArg Host.Outcome.next ((s.receive_live f rest _ _ h (by rw [payload]; rfl)).trans ?_)
  rw [payload]

/-- 01 R17: the DELIVERED applies. -/
theorem State.delivers_iff (s : State) (sender : Pos) (r : SheetRecord) :
    s.delivers sender r = true ↔ s.takesCustody r ∧ r.stage = .fed ∧ r.holder = some sender := by
  unfold State.delivers
  simp only [Bool.and_eq_true, State.custodyApplies_iff, beq_iff_eq, and_assoc]

/-- 01 R8: the serial of an accepted INTENT follows the last accepted one. -/
theorem State.refusal_order {s : State} {i : IntentFields} (h : s.refusal i = none) {l : Serial}
    (last : s.roster.lastSerial = some l) : precedes l i.serial = true := by
  unfold State.refusal at h
  repeat' split at h
  all_goals simp_all

/-- 09 R144: the run-out account with a purged sheet, once. -/
theorem State.accountPurged_account (s : State) (r : SheetRecord) : (s.accountPurged r).recovery.account =
    { s.recovery.account with purged :=
        if s.roster.phase = .recovery ∧ r.fate = some .purge ∧ r.purgeRouted = false ∧
          (∀ e ∈ s.recovery.account.purged, e.replaced ≠ r.serial) ∧ s.recovery.account.purged.length < 48
        then s.recovery.account.purged ++ [r.item] else s.recovery.account.purged } := by
  have test : (s.roster.phase == .recovery && r.fate == some .purge && !r.purgeRouted
      && !s.recovery.account.purged.any (fun e => e.replaced == r.serial)
      && decide (s.recovery.account.purged.length < Config.purgedMax)) = true ↔
      s.roster.phase = .recovery ∧ r.fate = some .purge ∧ r.purgeRouted = false ∧
          (∀ e ∈ s.recovery.account.purged, e.replaced ≠ r.serial) ∧ s.recovery.account.purged.length < 48 := by
    simp only [Bool.and_eq_true, beq_iff_eq, Bool.not_eq_true', List.any_eq_false, decide_eq_true_eq, and_assoc]
    rfl
  unfold State.accountPurged
  by_cases h : s.roster.phase = .recovery ∧ r.fate = some .purge ∧ r.purgeRouted = false ∧
      (∀ e ∈ s.recovery.account.purged, e.replaced ≠ r.serial) ∧ s.recovery.account.purged.length < 48
  · rw [if_pos (test.mpr h), if_pos h]
  · rw [if_neg (mt test.mp h), if_neg h]

theorem State.accountPurged_normal {s : State} (r : SheetRecord) (h : s.roster.phase = .normal) : s.accountPurged r = s := by
  simp [State.accountPurged, h]

/-- 01 R17: the roster change of a DELIVERED that applies, and what follows it. -/
theorem State.deliveredReceived_applies {s : State} {sender : Pos} {x : Serial} {r : SheetRecord}
    (record : s.record x = some r) (h : s.delivers sender r = true) : s.deliveredReceived sender x =
      let t := ((s.accountPurged r).removeRecord x).rosterChanged
      if s.moving x then t.completed else t := by
  unfold State.deliveredReceived
  rw [record]
  exact if_pos h

/-- Settles O47. -/
theorem deliveredRemovesRecord : Obligations.DeliveredRemovesRecord := by
  unfold Obligations.DeliveredRemovesRecord
  intro s f rest x bin receives payload
  refine ⟨fun r record custody fed holder => ?_, fun ignored => ?_⟩
  · have applies : (s.taken rest).delivers f.sender r = true :=
      ((s.taken rest).delivers_iff f.sender r).mpr ⟨custody, fed, holder⟩
    have done := State.deliveredReceived_applies (s := s.taken rest) record applies
    have kept : ∃ b : Bool, (s.taken rest).deliveredReceived f.sender x =
        if b then (((s.taken rest).accountPurged r).removeRecord x).rosterChanged.completed
        else (((s.taken rest).accountPurged r).removeRecord x).rosterChanged := ⟨_, done⟩
    have roster : ((s.taken rest).deliveredReceived f.sender x).roster =
        { s.roster with records := s.roster.records.filter fun q => q.serial != x } := by
      obtain ⟨b, same⟩ := kept
      rw [same]
      cases b <;> simp [State.removeRecord, State.taken]
    refine ⟨_, exec_deliveredReceipt receives payload, roster, fun normal still => ?_, ?_, fun i serial accepted l last => ?_,
      ?_, ?_⟩
    · rw [done]
      dsimp only
      rw [if_neg (by rw [show (s.taken rest).moving x = s.moving x from rfl, still]; simp),
        State.accountPurged_normal r (by exact normal)]
      rfl
    · rw [State.record, roster]
      simp
    · exact serial ▸ State.refusal_order accepted last
    · have account := (s.taken rest).accountPurged_account r
      obtain ⟨b, same⟩ := kept
      refine Eq.trans ?_ account
      rw [same]
      cases b <;> simp
    · obtain ⟨b, same⟩ := kept
      rw [same]
      cases b <;> simp [State.removeRecord, State.taken, State.sameSetup]
  · rw [exec_deliveredReceipt receives payload]
    unfold State.deliveredReceived
    cases record : (s.taken rest).record x with
    | none => rfl
    | some r =>
      have stays : ¬ (s.taken rest).delivers f.sender r = true := fun h =>
        ignored r record (((s.taken rest).delivers_iff f.sender r).mp h)
      exact congrArg Host.Outcome.next (if_neg stays)

/-! ### SET DONE -/

theorem exec_setDoneReceipt {s : State} {f : RxFrame} {rest : List RxFrame} {bin : Nat} {job : Byte} {set : BitVec 16}
    (h : s.receives f rest) (payload : f.payload = .setDone bin job set .forfeited) (exit : s.roleIs f.sender .exit = true) :
    exec .setDoneReceipt s = .next ((s.taken rest).setDoneReceived f.sender bin job set) := by
  refine congrArg Host.Outcome.next ((s.receive_live f rest _ _ h (by rw [payload]; rfl)).trans ?_)
  rw [payload]
  exact if_pos exit

/-- Settles O48. -/
theorem setDoneCompletesEjection : Obligations.SetDoneCompletesEjection := by
  unfold Obligations.SetDoneCompletesEjection
  intro s f rest bin job set receives payload exit named
  refine ⟨fun g found => ?_, fun unnamed => ?_⟩
  · have done : (s.taken rest).setDoneReceived f.sender bin job set = State.setCompleted
        { (s.taken rest).accountEjected g with
          recovery.fates.forfeited := ((s.taken rest).accountEjected g).recovery.fates.forfeited.map fun h =>
            if named h then { h with complete := true } else h } := by
      unfold State.setDoneReceived
      rw [show (s.taken rest).recovery.fates.forfeited.find? (fun h => h.named f.sender bin job set) = some g from found]
      rfl
    refine ⟨_, exec_setDoneReceipt receives payload exit, ?_⟩
    rw [done]
    refine ⟨fun fresh => ?_, fun ⟨h, hh, same⟩ => ?_, by simp [State.taken], ?_⟩
    · have new : (s.recovery.account.ejected.any fun h => h.exit == g.exit && h.bin == g.bin) = false := by
        rw [List.any_eq_false]
        intro h hh
        simpa using fresh h hh
      simp [State.accountEjected, State.taken, new]
    · have old : (s.recovery.account.ejected.any fun h => h.exit == g.exit && h.bin == g.bin) = true :=
        List.any_eq_true.mpr ⟨h, hh, by simp [same]⟩
      simp [State.accountEjected, State.taken, old]
    · have purged : ((s.taken rest).accountEjected g).recovery.account.purged = s.recovery.account.purged := by
        unfold State.accountEjected
        split <;> rfl
      exact ⟨by simpa using purged, by simp [State.taken, State.sameSetup]⟩
  · rw [exec_setDoneReceipt receives payload exit]
    unfold State.setDoneReceived
    rw [show (s.taken rest).recovery.fates.forfeited.find? (fun h => h.named f.sender bin job set) = none from unnamed]

end Sys2Proof.Machine
end

section
/-! PROOFS. JAM and HALT: the epoch taken, the jam list, the restart claim (O49). -/

namespace Sys2Proof.Machine

/-! ### Fields of the station table -/

/-- 03 R52: a change of every entry that leaves a field of theirs. -/
theorem State.mapEntries_kept {α : Type} (s : State) (f : Pos → TableEntry → TableEntry) (g : TableEntry → α)
    (kept : ∀ p e, g (f p e) = g e) (q : Pos) : g ((s.mapEntries f).entry q) = g (s.entry q) := by
  unfold State.entry State.mapEntries
  split
  · rfl
  · rw [List.getElem?_mapIdx]
    cases s.table.entries[q - 1]? <;> simp [kept]

/-- 03 R52: a change of every entry that gives a field of theirs the value it has in an empty entry. -/
theorem State.mapEntries_cleared {α : Type} (s : State) (f : Pos → TableEntry → TableEntry) (g : TableEntry → α)
    (cleared : ∀ p e, g (f p e) = g {}) (q : Pos) : g ((s.mapEntries f).entry q) = g {} := by
  unfold State.entry State.mapEntries
  split
  · rfl
  · rw [List.getElem?_mapIdx]
    cases s.table.entries[q - 1]? <;> simp [cleared]

theorem State.setEntry_kept {α : Type} (s : State) (p : Pos) (f : TableEntry → TableEntry) (g : TableEntry → α)
    (kept : ∀ e, g (f e) = g e) (q : Pos) : g ((s.setEntry p f).entry q) = g (s.entry q) := by
  unfold State.entry State.setEntry
  split
  · rfl
  · dsimp only
    split
    · rfl
    · rw [List.getElem?_modify]
      cases s.table.entries[q - 1]? with
      | none => rfl
      | some e =>
        simp only [Option.getD_some]
        split
        · exact kept e
        · rfl

/-- 08 R126: the entry to STOPPING touches no more of the table than the silence timers. -/
theorem State.enterStopping_entry {α : Type} (s : State) (epoch : Epoch) (g : TableEntry → α)
    (kept : ∀ (e : TableEntry) (t : Timer), g { e with silence := t } = g e) (p : Pos) :
    g ((s.enterStopping epoch).entry p) = g (s.entry p) := by
  have reloads (u : State) : g (u.reloadSilence.entry p) = g (u.entry p) :=
    State.mapEntries_kept u _ g (fun _ e => by split <;> simp [kept]) p
  have stopped : g ((s.stopped epoch).entry p) = g (s.entry p) := by
    unfold State.stopped
    rw [reloads, State.entry_congr (s := s) (by simp)]
  rcases s.enterStopping_cases epoch with h | ⟨h, -, -⟩
  · rw [h, State.entry_congr (s := s.stopped epoch) (by simp [State.halted_frame]), stopped]
  · rw [h, stopped]

/-! ### The epoch taken (01 R19, 08 R128) -/

/-- 01 R19, 08 R128, 03 R47: a frame of the epoch `f.epoch`, from `f.sender`, taken in `s` has left `t`. -/
structure State.EpochTaken (s t : State) (f : RxFrame) : Prop where
  opens : f.epoch ≠ s.roster.epoch → s.opensRecovery t f.epoch
  stays : f.epoch = s.roster.epoch → t.roster = s.roster
  catches : f.epoch ≠ s.roster.epoch → s.behind f.epoch → t.recovery.path = .stopping ∧ t.recovery.epoch = f.epoch ∧
    t.recovery.claim = .running 100 ∧ t.recovery.lineHeld = .running 2000 ∧ t.feed.pickOut = false ∧
    (t.drive.state = .off ∨ t.drive.state = .halting)
  stopping : f.epoch ≠ s.roster.epoch → s.path = .stopping →
    t.recovery.path = .stopping ∧ t.recovery.epoch = f.epoch ∧ t.recovery.claim = s.recovery.claim
  follows : f.epoch = s.roster.epoch → t.recovery.path = s.recovery.path ∧
    t.recovery.epoch = if s.recovery.following = true ∧ f.sender ≠ s.own then f.epoch else s.recovery.epoch

theorem State.EpochTaken.caughtUp {s t : State} {f : RxFrame} (h : s.EpochTaken t f) (new : f.epoch ≠ s.roster.epoch)
    (behind : s.behind f.epoch) : t.caughtUp f.epoch := by
  obtain ⟨path, epoch, claim, held, pick, drive⟩ := h.catches new behind
  refine ⟨path, epoch, claim, held, State.den_off ?_ ?_, pick⟩
  · rcases drive with h | h <;> simp [h]
  · rcases drive with h | h <;> simp [h]

/-- 01 R19: the roster's epoch is then the frame's. -/
theorem State.EpochTaken.roster_epoch {s t : State} {f : RxFrame} (h : s.EpochTaken t f) : t.roster.epoch = f.epoch := by
  by_cases new : f.epoch = s.roster.epoch
  · rw [h.stays new, new]
  · rw [(h.opens new).1]

/-- What comes after leaves roster, record, the epoch's part of RECOVERY, and the marks of the table. -/
theorem State.EpochTaken.trans {s t u : State} {f : RxFrame} (h : s.EpochTaken t f) (roster : u.roster = t.roster)
    (record : u.recovery.record = t.recovery.record)
    (marks : ∀ p, (u.entry p).holdingReceived = (t.entry p).holdingReceived ∧ (u.entry p).lastReady = (t.entry p).lastReady)
    (path : u.recovery.path = t.recovery.path) (epoch : u.recovery.epoch = t.recovery.epoch)
    (claim : u.recovery.claim = t.recovery.claim) (held : u.recovery.lineHeld = t.recovery.lineHeld) (feed : u.feed = t.feed)
    (drive : u.drive = t.drive) : s.EpochTaken u f where
  opens new := by
    obtain ⟨opened, cleared, empty⟩ := h.opens new
    refine ⟨roster.trans opened, fun p => ?_, record.trans empty⟩
    rw [(marks p).1, (marks p).2]
    exact cleared p
  stays same := roster.trans (h.stays same)
  catches new behind := by
    rw [path, epoch, claim, held, feed, drive]
    exact h.catches new behind
  stopping new stopping := by
    rw [path, epoch, claim]
    exact h.stopping new stopping
  follows same := by
    rw [path, epoch]
    exact h.follows same

theorem State.openRecovery_opens (s : State) (epoch : Epoch) : s.opensRecovery (s.openRecovery epoch) epoch := by
  refine ⟨rfl, fun p => ?_, rfl⟩
  have cleared (g : TableEntry → Option LastReady × Bool) (h : ∀ e : TableEntry,
      g { e with holdingReceived := false, lastReady := none } = g {}) : g ((s.openRecovery epoch).entry p) = g {} :=
    State.mapEntries_cleared s _ g (fun _ e => h e) p
  have := cleared (fun e => (e.lastReady, e.holdingReceived)) fun _ => rfl
  exact ⟨congrArg Prod.snd this, congrArg Prod.fst this⟩

/-- 08 R128: a new epoch catches up a station that is behind, and is held by one in STOPPING. -/
theorem State.applyEpoch_new {s : State} {epoch : Epoch} (new : epoch ≠ s.roster.epoch) :
    (s.behind epoch → s.applyEpoch epoch = (s.openRecovery epoch).enterStopping epoch) ∧
      (s.path = .stopping → s.applyEpoch epoch = { s.openRecovery epoch with recovery.epoch := epoch }) ∧
      (s.applyEpoch epoch = (s.openRecovery epoch).enterStopping epoch ∨
        s.applyEpoch epoch = { s.openRecovery epoch with recovery.epoch := epoch } ∨
        s.applyEpoch epoch = s.openRecovery epoch) := by
  unfold State.applyEpoch
  rw [if_neg (by simpa using new)]
  dsimp only
  cases path : s.path with
  | clearance | plan => simp [State.behind, path]
  | stopping => simp [State.behind, path]
  | run | survey | runout | resuming =>
    by_cases same : s.recovery.epoch = epoch
    · simp [State.behind, path, same]
    · simp [State.behind, path, same]
  | _ => simp [State.behind, path]

/-- The opening stands whether the station enters STOPPING, takes the epoch, or neither. -/
theorem State.opensRecovery_enterStopping (s : State) (epoch : Epoch) :
    s.opensRecovery ((s.openRecovery epoch).enterStopping epoch) epoch := by
  obtain ⟨roster, marks, record⟩ := s.openRecovery_opens epoch
  have kept {α : Type} (g : TableEntry → α) (h : ∀ (e : TableEntry) (t : Timer), g { e with silence := t } = g e) (p : Pos) :=
    State.enterStopping_entry (s.openRecovery epoch) epoch g h p
  refine ⟨by simpa using roster, fun p => ?_, by simpa using record⟩
  rw [kept (·.holdingReceived) (fun _ _ => rfl), kept (·.lastReady) (fun _ _ => rfl)]
  exact marks p

theorem State.epochReceived_taken (s : State) (f : RxFrame) : s.EpochTaken (s.epochReceived f) f := by
  have roster : (s.epochReceived f).roster = (s.applyEpoch f.epoch).roster := by simp [State.epochReceived]
  have record : (s.epochReceived f).recovery.record = (s.applyEpoch f.epoch).recovery.record := by simp [State.epochReceived]
  have entry : (s.epochReceived f).entry = (s.applyEpoch f.epoch).entry := State.entry_congr (by simp [State.epochReceived])
  have path : (s.epochReceived f).recovery.path = (s.applyEpoch f.epoch).recovery.path := by simp [State.epochReceived]
  have claim : (s.epochReceived f).recovery.claim = (s.applyEpoch f.epoch).recovery.claim := by simp [State.epochReceived]
  have held : (s.epochReceived f).recovery.lineHeld = (s.applyEpoch f.epoch).recovery.lineHeld := by
    simp [State.epochReceived]
  have feed : (s.epochReceived f).feed = (s.applyEpoch f.epoch).feed := by simp [State.epochReceived]
  have drive : (s.epochReceived f).drive = (s.applyEpoch f.epoch).drive := by simp [State.epochReceived]
  have epoch : (s.applyEpoch f.epoch).recovery.epoch = f.epoch → (s.epochReceived f).recovery.epoch = f.epoch := by
    intro h
    unfold State.epochReceived State.followEpoch
    split
    · rfl
    · exact h
  refine ⟨fun new => ?_, fun same => ?_, fun new behind => ?_, fun new stopping => ?_, fun same => ?_⟩
  · have opened : s.opensRecovery (s.applyEpoch f.epoch) f.epoch := by
      rcases (State.applyEpoch_new new).2.2 with h | h | h
      · rw [h]; exact s.opensRecovery_enterStopping f.epoch
      · rw [h]; exact s.openRecovery_opens f.epoch
      · rw [h]; exact s.openRecovery_opens f.epoch
    unfold State.opensRecovery
    rw [roster, record, entry]
    exact opened
  · rw [roster, State.applyEpoch, if_pos (by simpa using same)]
  · obtain ⟨pathT, epochT, claimT, heldT, -, pick, -⟩ := (s.openRecovery f.epoch).enterStopping_stands f.epoch
    obtain ⟨-, -, -, -, -, -, -, -, -, -, -, -, state⟩ := (s.openRecovery f.epoch).enterStopping_blocks f.epoch
    have entered := (State.applyEpoch_new new).1 behind
    rw [path, claim, held, feed, drive, epoch (by rw [entered]; exact epochT), entered]
    exact ⟨pathT, rfl, claimT, heldT, pick, state⟩
  · have taken := (State.applyEpoch_new new).2.1 stopping
    rw [path, claim, epoch (by rw [taken]), taken]
    exact ⟨stopping, rfl, by simp⟩
  · have stays : s.applyEpoch f.epoch = s := by rw [State.applyEpoch, if_pos (by simpa using same)]
    refine ⟨by rw [path, stays], ?_⟩
    unfold State.epochReceived State.followEpoch
    rw [stays]
    by_cases follows : s.recovery.following = true ∧ f.sender ≠ s.own
    · rw [if_pos (by simp [follows]), if_pos follows]
    · rw [if_neg (by simpa using follows), if_neg follows]

/-! ### The jam list (08 R133, R135) -/

theorem addNames_mem (xs ys : List Serial) {x : Serial} (h : x ∈ xs ∨ x ∈ ys) : x ∈ addNames xs ys := by
  induction ys generalizing xs with
  | nil => exact h.resolve_right (List.not_mem_nil)
  | cons y ys ih =>
    refine ih _ ?_
    rcases h with h | h
    · left
      split
      · exact h
      · exact List.mem_append_left _ h
    · rcases List.mem_cons.mp h with rfl | h
      · left
        split
        · next listed => exact List.contains_iff_mem.mp listed
        · exact List.mem_append_right _ (List.mem_singleton_self _)
      · exact .inr h

theorem JamEntry.same_self (j : JamEntry) : JamEntry.same j j = true := by simp [JamEntry.same]

/-- 08 R133, R135: an entry merged, made, or refused. -/
theorem State.addJam_entered {s u : State} (j : JamEntry) (jams : u.recovery.jams = s.recovery.jams) :
    s.jamEntered (u.addJam j) j := by
  unfold State.jamEntered State.addJam
  rw [jams]
  by_cases found : s.recovery.jams.any (JamEntry.same j) = true
  · obtain ⟨a, ha, same⟩ := List.any_eq_true.mp found
    rw [if_pos found]
    refine ⟨fun _ => ⟨{ a with named := addNames a.named j.named }, ?_, same, fun x hx => addNames_mem _ _ (.inr hx)⟩,
      fun new _ => ?_, fun new _ => ?_⟩
    · exact List.mem_map.mpr ⟨a, ha, if_pos same⟩
    · simp [new a ha] at same
    · simp [new a ha] at same
  · have new : ∀ a ∈ s.recovery.jams, JamEntry.same j a = false := by simpa using found
    rw [if_neg found]
    by_cases full : Config.jamMax ≤ s.recovery.jams.length
    · rw [if_pos full]
      have long : 8 ≤ s.recovery.jams.length := full
      refine ⟨fun room => ?_, fun _ room => absurd room (Nat.not_lt_of_le long), fun _ _ => ⟨jams, rfl⟩⟩
      rcases room with ⟨a, ha, same⟩ | room
      · simp [new a ha] at same
      · exact absurd room (Nat.not_lt_of_le long)
    · rw [if_neg full]
      exact ⟨fun _ => ⟨j, by simp, j.same_self, fun _ => id⟩, fun _ _ => rfl,
        fun _ long => absurd long full⟩

theorem State.addJam_escalated {s : State} (j : JamEntry) (h : s.recovery.escalated = true) :
    (s.addJam j).recovery.escalated = true := by
  unfold State.addJam
  (repeat' split) <;> simp [h, State.escalate]

/-- 08 R133: entered in phase RECOVERY, with the roster's epoch. -/
theorem State.enterJam_entered {s u : State} (j : JamEntry) (jams : u.recovery.jams = s.recovery.jams)
    (epoch : j.epoch = u.roster.epoch) :
    ((u.enterJam j).roster.phase = .recovery → s.jamEntered (u.enterJam j) j) ∧
      ((u.enterJam j).roster.phase = .normal → (u.enterJam j).recovery.jams = s.recovery.jams) := by
  rw [show (u.enterJam j).roster = u.roster by simp]
  refine ⟨fun phase => ?_, fun phase => ?_⟩
  · rw [State.enterJam, if_pos (by simp [phase, epoch])]
    exact State.addJam_entered j jams
  · rw [State.enterJam, if_neg (by simp [phase])]
    exact jams

/-! ### JAM and HALT -/

theorem exec_jamReceipt {s : State} {f : RxFrame} {rest : List RxFrame} {k : JamKind} {zone : Nat} {x : Option Serial}
    (h : s.receives f rest) (payload : f.payload = .jam k zone x) :
    exec .jamReceipt s = .next ((s.taken rest).jamReceived f k x) := by
  refine congrArg Host.Outcome.next ((s.receive_live f rest _ _ h (by rw [payload]; rfl)).trans ?_)
  rw [payload]

theorem exec_haltReceipt {s : State} {f : RxFrame} {rest : List RxFrame} (h : s.receives f rest) (payload : f.payload = .halt) :
    exec .haltReceipt s = .next ((s.taken rest).haltReceived f) :=
  congrArg Host.Outcome.next (s.receive_live f rest _ _ h (by rw [payload]; rfl))

/-- 08 R133: the entry of a received JAM. -/
theorem jamEntry_eq (epoch : Epoch) (k : JamKind) (p : Pos) (x : Option Serial) : jamEntry epoch k p x =
    { epoch := epoch, kind := .jam k, station := p
      named := if k ∈ [JamKind.late, .stall, .short, .blocked, .stray, .misfeed] then x.toList else [] } := by
  cases k <;> rfl

/-- 03 R48, R56: what the kind of a JAM has the station do, beside its entry. -/
def State.jamActs (s : State) (f : RxFrame) (k : JamKind) (x : Option Serial) : State :=
  match k with
  | .restart => s.restartClaimed f.sender
  | .peerLost => s.peerLost f.epoch x
  | _ => s

theorem State.jamReceived_eq (s : State) (f : RxFrame) (k : JamKind) (x : Option Serial) :
    s.jamReceived f k x = ((s.epochReceived f).jamActs f k x).enterJam (jamEntry f.epoch k f.sender x) := by
  unfold State.jamReceived State.jamActs
  rfl

theorem State.jamActs_frame (s : State) (f : RxFrame) (k : JamKind) (x : Option Serial) : let t := s.jamActs f k x
    OuterKept s t ∧ LinkInKept s t ∧ TimersKept s t ∧ SurveyKept s t ∧ VoteKept s t ∧ t.roster = s.roster ∧ t.track = s.track ∧
      t.handoff = s.handoff ∧ t.feed = s.feed ∧ t.imaging = s.imaging ∧ t.exit = s.exit ∧ t.drive = s.drive ∧
      t.recovery.path = s.recovery.path ∧ t.recovery.epoch = s.recovery.epoch := by
  cases k <;> simp [State.jamActs]

theorem State.jamActs_entry {α : Type} (s : State) (f : RxFrame) (k : JamKind) (x : Option Serial) (g : TableEntry → α)
    (restarted : ∀ e : TableEntry, g { e with restarted := true } = g e)
    (silence : ∀ e : TableEntry, g { e with silence := .stopped } = g e) (p : Pos) :
    g ((s.jamActs f k x).entry p) = g (s.entry p) := by
  cases k with
  | restart =>
    unfold State.jamActs State.restartClaimed
    dsimp only
    split
    · rw [State.entry_congr (s := s.setEntry f.sender fun e => { e with restarted := true }) (by simp [State.escalate])]
      exact State.setEntry_kept s _ _ g restarted p
    · rfl
  | peerLost =>
    unfold State.jamActs State.peerLost
    dsimp only
    split
    · split
      · exact State.setEntry_kept s _ _ g silence p
      · rfl
    · rfl
  | _ => rfl

/-- 08 R127: the epoch taken may withdraw frames; it queues none. -/
theorem State.epochReceived_queue (s : State) (f : RxFrame) :
    (s.epochReceived f).link.queue.length ≤ s.link.queue.length := by
  have link : (s.epochReceived f).link = (s.applyEpoch f.epoch).link := by simp [State.epochReceived]
  have withdrawn (u : State) (e : Epoch) : (u.enterStopping e).link.queue.length ≤ u.link.queue.length := by
    obtain ⟨same, -⟩ := u.enterStopping_blocks e
    rw [same, State.stopped_link]
    simp only [State.withdrawFrames, List.length_map]
    exact List.length_filter_le _ _
  rw [link]
  by_cases new : f.epoch = s.roster.epoch
  · exact Nat.le_of_eq (by rw [State.applyEpoch, if_pos (by simpa using new)])
  · rcases (State.applyEpoch_new new).2.2 with h | h | h
    · rw [h]
      exact Nat.le_trans (withdrawn _ _) (by simp)
    · rw [h]; simp
    · rw [h]; simp

theorem State.epochReceived_absent (s : State) (f : RxFrame) (p : Pos) :
    (s.epochReceived f).isAbsent p = s.isAbsent p := by
  have presence : ((s.epochReceived f).entry p).presence = (s.entry p).presence := by
    rw [State.entry_congr (s := s.applyEpoch f.epoch) (by simp [State.epochReceived])]
    have opened : ((s.openRecovery f.epoch).entry p).presence = (s.entry p).presence :=
      State.mapEntries_kept s (fun _ e => { e with holdingReceived := false, lastReady := none }) (·.presence)
        (fun _ _ => rfl) p
    by_cases new : f.epoch = s.roster.epoch
    · rw [State.applyEpoch, if_pos (by simpa using new)]
    · rcases (State.applyEpoch_new new).2.2 with h | h | h
      · rw [h, State.enterStopping_entry _ _ (·.presence) fun _ _ => rfl]
        exact opened
      · rw [h]; exact opened
      · rw [h]; exact opened
  rw [State.isAbsent, State.isAbsent, presence]

/-- 03 R48, 08 R141: a JAM(RESTART) marks its sender, escalates, and is answered with a JOIN. -/
theorem State.jamReceived_restart {s : State} {f : RxFrame} (x : Option Serial) (shape : s.shapeLaw) (low : 1 ≤ f.sender)
    (high : f.sender ≤ 16) (other : f.sender ≠ s.own) (here : s.isAbsent f.sender = false) :
    let t := s.jamReceived f .restart x
    (t.entry f.sender).restarted = true ∧ t.recovery.escalated = true ∧
      (s.txRoom = true → t.queued t.recovery.epoch (.join s.prof.summary s.occupied)) := by
  let a := s.epochReceived f
  let marked := a.setEntry f.sender fun e => { e with restarted := true }
  have heard : (a.heard f.sender && f.sender != a.own) = true := by
    have own : a.own = s.own := by simp [a, State.own, State.prof]
    simp [State.heard, a, State.epochReceived_absent, here, (Pos.station_iff f.sender).mpr ⟨low, high⟩, own, other]
  have claimed : a.restartClaimed f.sender = marked.escalate.queueFrame a.joinFrame := if_pos heard
  have received : s.jamReceived f .restart x =
      (marked.escalate.queueFrame a.joinFrame).enterJam (jamEntry f.epoch .restart f.sender x) := by
    rw [s.jamReceived_eq]
    exact congrArg (fun u : State => u.enterJam (jamEntry f.epoch .restart f.sender x)) claimed
  have size : f.sender ≤ a.table.entries.length := by
    obtain ⟨-, -, -, -, -, entries, -⟩ := ((State.Prepares.refl s).epochReceived f).shape shape
    exact entries ▸ high
  intro t
  refine ⟨?_, ?_, fun room => ?_⟩
  · have entry : t.entry = marked.entry := State.entry_congr (by rw [show t = _ from received]; simp [State.escalate])
    rw [entry, a.setEntry_same f.sender _ low size]
  · rw [show t = _ from received, State.enterJam]
    split
    · exact State.addJam_escalated _ (by simp [State.escalate])
    · simp [State.escalate]
  · have roomy : marked.escalate.txRoom = true := by
      have fewer := s.epochReceived_queue f
      rw [State.txRoom_iff] at room ⊢
      have link : marked.escalate.link = a.link := by simp [marked, State.escalate]
      rw [link]
      exact Nat.lt_of_le_of_lt fewer room
    have covered : a.covered = s.covered := by
      funext k
      simp [a, State.covered, State.reads]
    have frame : a.joinFrame = .join s.prof.summary s.occupied := by
      unfold State.joinFrame State.occupied
      rw [covered]
      simp [a, State.zones, State.lastSensor, State.reads, State.hasRole, State.prof]
    have queued := marked.escalate.queueFrame_queued a.joinFrame roomy
    have link : t.link = (marked.escalate.queueFrame a.joinFrame).link := by rw [show t = _ from received]; simp
    have epoch : t.recovery.epoch = marked.escalate.recovery.epoch := by rw [show t = _ from received]; simp
    rw [State.queued, link, epoch, ← frame]
    exact queued

/-- Settles O49. -/
theorem jamAndHaltOpenRecovery : Obligations.JamAndHaltOpenRecovery := by
  unfold Obligations.JamAndHaltOpenRecovery
  intro s f rest receives
  have taken := (s.taken rest).epochReceived_taken f
  refine ⟨fun k zone x payload => ?_, fun payload => ?_⟩
  · have received := (s.taken rest).jamReceived_eq f k x
    have acts := ((s.taken rest).epochReceived f).jamActs_frame f k x
    generalize hu : ((s.taken rest).epochReceived f).jamActs f k x = u at received acts
    have marks (g : TableEntry → Option LastReady × Bool) (restarted : ∀ e : TableEntry, g { e with restarted := true } = g e)
        (silence : ∀ e : TableEntry, g { e with silence := .stopped } = g e) (p : Pos) :
        g (u.entry p) = g (((s.taken rest).epochReceived f).entry p) := by
      rw [← hu]
      exact State.jamActs_entry _ f k x g restarted silence p
    have both := marks (fun e => (e.lastReady, e.holdingReceived)) (fun _ => rfl) fun _ => rfl
    have after : (s.taken rest).EpochTaken (u.enterJam (jamEntry f.epoch k f.sender x)) f := by
      refine taken.trans (by simp [acts]) (by simp [acts]) (fun p => ?_) (by simp [acts]) (by simp [acts]) (by simp [acts])
        (by simp [acts]) (by simp [acts]) (by simp [acts])
      rw [State.entry_congr (s := u) (by simp)]
      exact ⟨congrArg Prod.snd (both p), congrArg Prod.fst (both p)⟩
    have entered := State.enterJam_entered (s := s.taken rest) (u := u) (jamEntry f.epoch k f.sender x) (by simp [acts])
      (by simp [acts, taken.roster_epoch, jamEntry])
    refine ⟨_, exec_jamReceipt receives payload, ?_⟩
    refine ⟨?_, ?_, ?_, ?_, ?_, ?_, ?_, fun restart shape low high other => ?_, by simp [State.taken], by simp [State.taken],
      by simp [State.taken], by simp [State.taken, State.sameSetup]⟩
    · rw [received]; exact after.opens
    · rw [received]; exact after.stays
    · rw [received]; exact after.caughtUp
    · rw [received]; exact after.stopping
    · rw [received]; exact after.follows
    · rw [received, ← jamEntry_eq]; exact entered.1
    · rw [received]; exact entered.2
    · subst restart
      exact State.jamReceived_restart (s := s.taken rest) x shape low high other receives.2.2
  · have after : (s.taken rest).EpochTaken ((s.taken rest).haltReceived f) f := by
      refine taken.trans (by simp [State.haltReceived]) (by simp [State.haltReceived]) (fun p => ?_)
        (by simp [State.haltReceived]) (by simp [State.haltReceived]) (by simp [State.haltReceived])
        (by simp [State.haltReceived]) (by simp [State.haltReceived]) (by simp [State.haltReceived])
      rw [State.entry_congr (s := (s.taken rest).epochReceived f) (by simp [State.haltReceived])]
      exact ⟨rfl, rfl⟩
    have entered := State.enterJam_entered (s := s.taken rest) (u := (s.taken rest).epochReceived f)
      { epoch := f.epoch, kind := .halt } (by simp) taken.roster_epoch.symm
    exact ⟨_, exec_haltReceipt receives payload, after.opens, after.stays, after.caughtUp, after.stopping, after.follows,
      entered.1, entered.2, by simp [State.taken], by simp [State.taken], by simp [State.taken],
      by simp [State.taken, State.sameSetup]⟩

end Sys2Proof.Machine
end

section
/-! PROOFS. The close of the survey, HOLDING, SETLIST and CLOSE (O50, O51, O52). -/

namespace Sys2Proof.Machine

/-! ### Outside STOPPING the drive leaves RECOVERY as it is -/

theorem State.driveHalt_recovery {s : State} (h : s.path ≠ .stopping) : s.driveHalt.recovery = s.recovery := by
  unfold State.driveHalt State.driveOff
  dsimp only
  split
  · simp
  · rw [State.surveyTest_away (by simpa [State.path] using h)]
    simp

theorem State.driveSync_recovery {s : State} (h : s.path ≠ .stopping) : s.driveSync.recovery = s.recovery := by
  unfold State.driveSync
  (repeat' split) <;> simp [State.driveHalt_recovery h]

theorem State.needTest_recovery (s : State) :
    s.needTest.recovery = { s.recovery with driveNeed := s.needTest.recovery.driveNeed } := by
  unfold State.needTest
  dsimp only
  split
  · next runout =>
    have away : ({ s with recovery.driveNeed := s.driveNeeded } : State).path ≠ .stopping := by simp_all [State.path]
    rw [State.driveSync_recovery away]
  · rfl

/-! ### After the survey close no vote stands yet -/

/-- 11 R182: without a READY of every present position, no vote. -/
theorem State.voteTest_unvoted {s : State} (h : ∀ p, (s.entry p).lastReady = none) : s.voteTest = s := by
  have incomplete : s.voteComplete = false := by
    unfold State.voteComplete
    cases s.presentList with
    | nil => simp
    | cons p ps => simp [h p]
  simp [State.voteTest, incomplete]

theorem State.clearanceTests_unvoted {s : State} (h : ∀ p, (s.entry p).lastReady = none) :
    s.clearanceTests.path = s.path := by
  unfold State.clearanceTests
  dsimp only
  split
  · rw [State.voteTest_unvoted fun p => ?_]
    · simp [State.path]
    · rw [State.entry_congr (s := s) (by simp)]
      exact h p
  · rw [State.voteTest_unvoted fun p => ?_]
    · simp [State.path]
    · rw [State.entry_congr (s := s) (by simp)]
      exact h p

theorem State.enterClearance_unvoted {s : State} (h : ∀ p, (s.entry p).lastReady = none) :
    s.enterClearance.path = .clearance ∧ s.enterClearance.recovery.survey = s.recovery.survey := by
  let t : State := { s with recovery.path := .clearance, recovery.driveNeed := false }
  have recovery : t.driveSync.reevaluate.recovery = t.recovery := by
    rw [(by simp : t.driveSync.reevaluate.recovery = t.driveSync.recovery)]
    exact State.driveSync_recovery (s := t) nofun
  have unvoted : ∀ p, (t.driveSync.reevaluate.entry p).lastReady = none := fun p => by
    rw [State.entry_congr (s := s) (by simp [t])]
    exact h p
  refine ⟨?_, ?_⟩
  · refine (State.clearanceTests_unvoted unvoted).trans ?_
    rw [State.path, recovery]
  · refine (by simp [State.enterClearance, t] : s.enterClearance.recovery.survey = t.driveSync.reevaluate.recovery.survey).trans ?_
    rw [recovery]

/-- 09 R157: the entry to RUNOUT. -/
theorem State.enterRunout_enters (s : State) :
    s.enterRunout.path = .runout ∧ s.enterRunout.recovery.survey = s.recovery.survey := by
  unfold State.enterRunout State.path
  simp only [State.ejectStart_frame, State.offerTest_frame, State.reevaluate_frame]
  rw [State.needTest_recovery]
  simp

theorem State.storeFates_digest (s : State) (again : Bool) : (s.storeFates again).recovery.fates.digest.isSome := by
  have results (a : State) : (a.computeFates again).2.digest.isSome := by
    unfold State.computeFates
    split <;> rfl
  exact results _

/-- 08 R140, 11 R175: what the close of the survey leaves. -/
theorem State.closeSurvey_closed (s : State) : s.surveyClosed s.closeSurvey := by
  let t := (s.withdrawFrames Payload.isClose).mapEntries fun _ e => { e with lastReady := none }
  let u : State := { t with
    roster.stage := .closed, recovery.survey := .stopped, recovery.following := false
    recovery.clearanceEpoch := s.roster.epoch, recovery.firstDigest := none }
  let v := u.storeFates false
  have closed : s.closeSurvey =
      if v.path == .survey then (if v.runoutOutstanding then v.enterRunout else v.enterClearance) else v := rfl
  have unvoted : ∀ p, (v.entry p).lastReady = none := fun p => by
    rw [State.entry_congr (s := t) (by simp [v, u])]
    exact State.mapEntries_cleared _ (fun _ e => { e with lastReady := none }) (·.lastReady) (fun _ _ => rfl) p
  have path : v.path = s.path := by simp [v, u, t, State.path]
  obtain ⟨serials, fates⟩ := u.storeFates_records false
  have records : v.roster.records.map (·.serial) = s.roster.records.map (·.serial) := by
    refine serials.trans ?_
    simp [u, t]
  have stands (w : State) (roster : w.roster = v.roster) (entries : w.table.entries = v.table.entries)
      (epoch : w.recovery.clearanceEpoch = v.recovery.clearanceEpoch) (survey : w.recovery.survey = v.recovery.survey)
      (digest : w.recovery.firstDigest = v.recovery.firstDigest) (results : w.recovery.fates = v.recovery.fates)
      (entered : s.path = .survey → w.path = .runout ∨ w.path = .clearance) (kept : s.path ≠ .survey → w.path = s.path) :
      s.surveyClosed w := by
    refine ⟨by rw [roster]; simp [v, u], by rw [epoch]; simp [v, u], by rw [survey]; simp [v, u],
      by rw [digest]; simp [v, u], fun p => ?_, by rw [results]; exact u.storeFates_digest false,
      by rw [roster]; exact records, by rw [roster]; exact fates, entered, kept⟩
    rw [State.entry_congr (s := v) entries]
    exact unvoted p
  rw [closed]
  by_cases survey : s.path = .survey
  · rw [if_pos (by simpa [path] using survey)]
    split
    · obtain ⟨enters, timer⟩ := v.enterRunout_enters
      exact stands _ (by simp) (by simp) (by simp) timer (by simp) (by simp) (fun _ => .inl enters)
        fun other => absurd survey other
    · obtain ⟨enters, timer⟩ := State.enterClearance_unvoted unvoted
      exact stands _ (by simp) (by simp) (by simp) timer (by simp) (by simp) (fun _ => .inr enters)
        fun other => absurd survey other
  · rw [if_neg (by simpa [path] using survey)]
    exact stands v rfl rfl rfl rfl rfl rfl (fun h => absurd h survey) fun _ => path

/-- A close after changes that the roster and the path state do not see. -/
theorem State.surveyClosed_congr {s a t : State} (h : a.surveyClosed t) (roster : a.roster = s.roster) (path : a.path = s.path) :
    s.surveyClosed t := by
  unfold State.surveyClosed at h ⊢
  rwa [roster, path] at h

/-! ### The survey record (08 R136) -/

theorem State.positionReport_congr {s t : State} (record : t.recovery.record = s.recovery.record)
    (absent : t.isAbsent = s.isAbsent) : t.positionReport = s.positionReport := by
  funext p
  unfold State.positionReport
  rw [record, absent]

theorem State.setReport_absent (s : State) (p : Pos) (f : PosReport → PosReport) : (s.setReport p f).isAbsent = s.isAbsent := by
  funext q
  unfold State.isAbsent
  rw [State.entry_congr (s := s) (by simp)]

/-- A change of a present position's report. -/
theorem State.setReport_same {s : State} {p : Pos} {f : PosReport → PosReport} (kept : ∀ r, (f r).pos = r.pos)
    (here : s.isAbsent p = false) : (s.setReport p f).positionReport p = f (s.positionReport p) := by
  have keyed : ((fun r : PosReport => r.pos == p && !s.isAbsent r.pos) ∘ fun r => if r.pos == p then f r else r) =
      fun r => r.pos == p && !s.isAbsent r.pos := by
    funext r
    simp only [Function.comp]
    split
    · rw [kept]
    · rfl
  unfold State.positionReport
  rw [State.setReport_absent]
  unfold State.setReport
  dsimp only
  by_cases known : (s.recovery.record.reports.any fun r => r.pos == p) = true
  · rw [if_pos known, List.find?_map, keyed]
    obtain ⟨r, hr, pos⟩ := List.any_eq_true.mp known
    cases found : s.recovery.record.reports.find? fun r => r.pos == p && !s.isAbsent r.pos with
    | none =>
      have := List.find?_eq_none.mp found r hr
      simp [eq_of_beq pos, here] at this
    | some x =>
      have := List.find?_some found
      simp only [Bool.and_eq_true, beq_iff_eq] at this
      simp [this.1]
  · rw [if_neg known, List.find?_append]
    have unknown : (s.recovery.record.reports.find? fun r => r.pos == p && !s.isAbsent r.pos) = none := by
      rw [List.find?_eq_none]
      intro r hr
      have : ¬ (r.pos == p) = true := fun h => known (List.any_eq_true.mpr ⟨r, hr, h⟩)
      simp [this]
    rw [unknown]
    simp [kept, here]

theorem State.setReport_other {s : State} {p q : Pos} {f : PosReport → PosReport} (kept : ∀ r, (f r).pos = r.pos)
    (other : q ≠ p) : (s.setReport p f).positionReport q = s.positionReport q := by
  have keyed : ((fun r : PosReport => r.pos == q && !s.isAbsent r.pos) ∘ fun r => if r.pos == p then f r else r) =
      fun r => r.pos == q && !s.isAbsent r.pos := by
    funext r
    simp only [Function.comp]
    split
    · rw [kept]
    · rfl
  unfold State.positionReport
  rw [State.setReport_absent]
  unfold State.setReport
  dsimp only
  split
  · rw [List.find?_map, keyed]
    cases found : s.recovery.record.reports.find? fun r => r.pos == q && !s.isAbsent r.pos with
    | none => rfl
    | some x =>
      have := List.find?_some found
      simp only [Bool.and_eq_true, beq_iff_eq] at this
      have apart : x.pos ≠ p := this.1 ▸ other
      simp [apart]
  · rw [List.find?_append]
    have apart : (p == q) = false := beq_false_of_ne (Ne.symm other)
    cases s.recovery.record.reports.find? fun r => r.pos == q && !s.isAbsent r.pos with
    | none => simp [kept, apart]
    | some x => rfl

/-! ### The tests at the first HOLDING (08 R134) -/

/-- 08 R133: an entry of its own kind, on a list with room, is appended. -/
theorem State.addJam_appends {s : State} {j : JamEntry} (new : ∀ a ∈ s.recovery.jams, JamEntry.same j a = false)
    (room : s.recovery.jams.length < 8) : (s.addJam j).recovery.jams = s.recovery.jams ++ [j] :=
  (State.addJam_entered j rfl).2.1 new room

/-- 08 R134: no test once a HOLDING has been applied, nor for an epoch stepped without a stop. -/
theorem State.stopTests_untested {s : State} (low : Bool)
    (h : s.recovery.record.seen = true ∨ s.recovery.resurvey = some s.roster.epoch) :
    (s.stopTests low).recovery.jams = s.recovery.jams := by
  unfold State.stopTests
  dsimp only
  split
  · rfl
  · next seen =>
    rw [if_pos (by simpa using h.resolve_left seen)]

/-- 08 R134: LINE_HELD and UNCLAIMED. -/
theorem State.stopTests_tested {s : State} (low : Bool) (unseen : s.recovery.record.seen = false)
    (stopped : s.recovery.resurvey ≠ some s.roster.epoch) (room : s.recovery.jams.length ≤ 6)
    (fresh : ∀ j ∈ s.recovery.jams, j.epoch = s.roster.epoch → j.kind ≠ .lineHeld ∧ j.kind ≠ .unclaimed) :
    (s.stopTests low).recovery.jams = s.recovery.jams
      ++ (if low then [{ epoch := s.roster.epoch, kind := .lineHeld, station := 0, named := [] }] else [])
      ++ (if s.recovery.jams.any fun j => j.epoch == s.roster.epoch then []
          else [{ epoch := s.roster.epoch, kind := .unclaimed, station := 0, named := [] }]) := by
  let e := s.roster.epoch
  let t : State := { s with recovery.record.seen := true }
  let held : JamEntry := { epoch := e, kind := .lineHeld }
  let unclaimed : JamEntry := { epoch := e, kind := .unclaimed }
  let u := if low then t.addJam held else t
  let reports : JamEntry → Bool := fun j => j.epoch == e && (match j.kind with | .jam _ | .halt => true | _ => false)
  have differs (k : JamEntryKind) (hk : k = .lineHeld ∨ k = .unclaimed) :
      ∀ a ∈ s.recovery.jams, JamEntry.same { epoch := e, kind := k } a = false := by
    intro a ha
    have kinds := fresh a ha
    unfold JamEntry.same
    by_cases epoch : e = a.epoch
    · have other : k ≠ a.kind := by
        rcases hk with rfl | rfl
        · exact Ne.symm (kinds epoch.symm).1
        · exact Ne.symm (kinds epoch.symm).2
      simp [other]
    · simp [epoch]
  have jams : u.recovery.jams = s.recovery.jams ++ if low then [held] else [] := by
    cases low with
    | false => simp [u, t]
    | true => exact State.addJam_appends (s := t) (differs .lineHeld (.inl rfl)) (by simpa [t] using Nat.lt_of_le_of_lt room (by decide))
  have reported : u.recovery.jams.any reports = s.recovery.jams.any fun j => j.epoch == e := by
    have listed : s.recovery.jams.any reports = s.recovery.jams.any fun j => j.epoch == e := by
      rw [Bool.eq_iff_iff, List.any_eq_true, List.any_eq_true]
      refine ⟨fun ⟨j, hj, h⟩ => ⟨j, hj, (Bool.and_eq_true_iff.mp h).1⟩, fun ⟨j, hj, h⟩ => ⟨j, hj, ?_⟩⟩
      obtain ⟨notHeld, notUnclaimed⟩ := fresh j hj (eq_of_beq h)
      simp only [reports, h, Bool.true_and]
      split
      · rfl
      · rfl
      · next other => cases hk : j.kind <;> simp_all
    rw [jams, List.any_append, listed]
    cases low <;> simp [reports, held]
  have tested : s.stopTests low = if u.recovery.jams.any reports then u else u.addJam unclaimed := by
    unfold State.stopTests
    rw [if_neg (by simp [unseen])]
    exact if_neg (by simpa using stopped)
  rw [tested, reported]
  split
  · rw [jams]; simp [held, e]
  · rw [State.addJam_appends (j := unclaimed), jams]
    · rw [jams]
      intro a ha
      rcases List.mem_append.mp ha with old | line
      · exact differs .unclaimed (.inr rfl) a old
      · cases low with
        | false => cases line
        | true =>
          obtain rfl := List.mem_singleton.mp line
          simp [JamEntry.same, held, unclaimed]
    · rw [jams]
      cases low with
      | false => simpa using Nat.lt_of_le_of_lt room (by decide)
      | true => simpa using Nat.lt_of_le_of_lt (Nat.succ_le_succ room) (by decide)

/-! ### HOLDING -/

theorem exec_holdingReceipt {s : State} {f : RxFrame} {rest : List RxFrame} {h : HoldingFields} (hr : s.receives f rest)
    (payload : f.payload = .holding h) :
    exec .holdingReceipt s = .next ((s.taken rest).holdingReceivedFrom f h) := by
  refine congrArg Host.Outcome.next ((s.receive_live f rest _ _ hr (by rw [payload]; rfl)).trans ?_)
  rw [payload]

theorem State.closeSurvey_entry {α : Type} (s : State) (g : TableEntry → α)
    (kept : ∀ e : TableEntry, g { e with lastReady := none } = g e) (p : Pos) :
    g (s.closeSurvey.entry p) = g (s.entry p) := by
  rw [State.entry_congr (s := (s.withdrawFrames Payload.isClose).mapEntries fun _ e => { e with lastReady := none })]
  · rw [State.mapEntries_kept _ _ g fun _ e => kept e, State.entry_congr (s := s) (by simp)]
  · unfold State.closeSurvey
    dsimp only
    (repeat' split) <;> simp

theorem State.isAbsent_congr {s t : State} (h : ∀ p, (t.entry p).presence = (s.entry p).presence) : t.isAbsent = s.isAbsent := by
  funext p
  rw [State.isAbsent, State.isAbsent, h]

theorem State.presentList_kept {s t : State} (h : ∀ p, (t.entry p).presence = (s.entry p).presence) :
    t.presentList = s.presentList := by
  unfold State.presentList
  congr 1
  funext p
  rw [State.isPresent, State.isPresent, h]

/-- 08 R136, R137: what a HOLDING leaves in the record of its sender, and the table. -/
theorem State.recordHolding_stands {s : State} {p : Pos} (h : HoldingFields) (here : s.isAbsent p = false) :
    let t := s.recordHolding p h
    t.positionReport p = { s.positionReport p with
      entries := ((s.positionReport p).entries ++ h.entries).take 10
      restarted := (s.positionReport p).restarted || h.restarted, desync := (s.positionReport p).desync || h.desync } ∧
    (∀ q, (t.entry q).presence = (s.entry q).presence ∧ (t.entry q).holdingReceived = (s.entry q).holdingReceived) ∧
    (h.restarted = true ∨ h.desync = true → t.recovery.escalated = true) ∧
    (s.recovery.escalated = true → t.recovery.escalated = true) := by
  let r := s.setReport p fun r =>
    { r with entries := (r.entries ++ h.entries).take Config.reportMax, restarted := r.restarted || h.restarted
             desync := r.desync || h.desync }
  let u := if h.restarted then (r.setEntry p fun e => { e with restarted := true }).escalate else r
  have done : s.recordHolding p h = if h.desync then u.escalate else u := rfl
  have record : (s.recordHolding p h).recovery.record = r.recovery.record := by
    rw [done]
    simp only [u]
    (repeat' split) <;> simp [State.escalate]
  have entries (g : TableEntry → Presence × Bool) (kept : ∀ e : TableEntry, g { e with restarted := true } = g e) (q : Pos) :
      g ((s.recordHolding p h).entry q) = g (s.entry q) := by
    have table : (s.recordHolding p h).table = u.table := by rw [done]; split <;> rfl
    rw [State.entry_congr (s := u) (by rw [table])]
    simp only [u]
    split
    · exact (State.setEntry_kept r p _ g kept q).trans (by rw [State.entry_congr (s := s) (by simp [r])])
    · rw [State.entry_congr (s := s) (by simp [r])]
  have both := entries (fun e => (e.presence, e.holdingReceived)) fun _ => rfl
  have presence (q : Pos) : ((s.recordHolding p h).entry q).presence = (r.entry q).presence :=
    (congrArg Prod.fst (both q)).trans (by rw [State.entry_congr (s := s) (t := r) (by simp [r])])
  refine ⟨?_, fun q => ⟨congrArg Prod.fst (both q), congrArg Prod.snd (both q)⟩, fun flag => ?_, fun escalated => ?_⟩
  · rw [State.positionReport_congr record (State.isAbsent_congr presence)]
    exact State.setReport_same (fun _ => rfl) here
  · rw [done]
    by_cases desync : h.desync = true
    · rw [if_pos desync]; rfl
    · rw [if_neg desync]
      simp only [u]
      rw [if_pos (flag.resolve_right desync)]
      rfl
  · rw [done]
    simp only [u]
    (repeat' split) <;> simp [State.escalate, r, escalated]

/-- The sender heard to the end, before the test for the close. -/
def State.heardOut (s : State) (p : Pos) (h : HoldingFields) : State :=
  let t := (s.setReport p fun r => { r with purgeSpace := h.purgeSpace, openSets := h.openSets }).setEntry p
    fun e => { e with holdingReceived := true }
  if ((t.positionReport p).sets.filter (·.complete)).length = h.openSets then t else t.escalate

theorem State.finalHolding_eq (s : State) (p : Pos) (h : HoldingFields) : s.finalHolding p h =
    if (s.heardOut p h).allHeard then (s.heardOut p h).closeSurvey else s.heardOut p h := rfl

theorem State.heardOut_frame (s : State) (p : Pos) (h : HoldingFields) : let t := s.heardOut p h
    OuterKept s t ∧ TimersKept s t ∧ VoteKept s t ∧ t.link = s.link ∧ t.table.map = s.table.map ∧ t.roster = s.roster ∧
      t.track = s.track ∧ t.handoff = s.handoff ∧ t.feed = s.feed ∧ t.imaging = s.imaging ∧ t.exit = s.exit ∧
      t.drive = s.drive ∧ t.recovery.path = s.recovery.path ∧ t.recovery.epoch = s.recovery.epoch ∧
      t.recovery.jams = s.recovery.jams ∧ t.recovery.restarted = s.recovery.restarted := by
  unfold State.heardOut
  dsimp only
  split <;> simp

/-- 08 R137: what the final HOLDING leaves in the record of its sender, and the table. -/
theorem State.heardOut_stands {s : State} {p : Pos} (h : HoldingFields) (here : s.isAbsent p = false) (low : 1 ≤ p)
    (high : p ≤ s.table.entries.length) :
    let t := s.heardOut p h
    t.positionReport p = { s.positionReport p with purgeSpace := h.purgeSpace, openSets := h.openSets } ∧
    (∀ q, (t.entry q).presence = (s.entry q).presence) ∧ (t.entry p).holdingReceived = true ∧
    (∀ q, q ≠ p → t.entry q = s.entry q) ∧
    (((s.positionReport p).sets.filter (·.complete)).length ≠ h.openSets → t.recovery.escalated = true) ∧
    (s.recovery.escalated = true → t.recovery.escalated = true) := by
  let r := s.setReport p fun r => { r with purgeSpace := h.purgeSpace, openSets := h.openSets }
  let t0 := r.setEntry p fun e => { e with holdingReceived := true }
  have entryR : r.entry = s.entry := State.entry_congr (by simp [r])
  have presence (q : Pos) : (t0.entry q).presence = (r.entry q).presence :=
    State.setEntry_kept r p (fun e => { e with holdingReceived := true }) (·.presence) (fun _ => rfl) q
  have report : t0.positionReport p = { s.positionReport p with purgeSpace := h.purgeSpace, openSets := h.openSets } := by
    rw [State.positionReport_congr (s := r) (t := t0) rfl (State.isAbsent_congr presence)]
    exact State.setReport_same (fun _ => rfl) here
  have done : s.heardOut p h =
      if ((t0.positionReport p).sets.filter (·.complete)).length = h.openSets then t0 else t0.escalate := rfl
  have cases : s.heardOut p h = t0 ∨ s.heardOut p h = t0.escalate := by
    rw [done]
    split
    · exact .inl rfl
    · exact .inr rfl
  have table : (s.heardOut p h).entry = t0.entry := by
    rcases cases with h | h
    · rw [h]
    · rw [h]; rfl
  have record : (s.heardOut p h).positionReport = t0.positionReport := by
    rcases cases with h | h
    · rw [h]
    · rw [h]; rfl
  have size : p ≤ r.table.entries.length := by simpa [r] using high
  refine ⟨by rw [record]; exact report, fun q => by rw [table, presence, entryR], ?_, fun q other => ?_, fun incomplete => ?_,
    fun escalated => ?_⟩
  · rw [table, r.setEntry_same p _ low size]
  · rw [table, r.setEntry_other p q _ other, entryR]
  · rw [done, report, if_neg incomplete]
    rfl
  · rcases cases with h | h
    · rw [h]; simpa [t0, r] using escalated
    · rw [h]; rfl

/-- 08 R137: a position is still to be heard, or every one has been. -/
theorem State.allHeard_iff {s : State} (fresh : s.recovery.restarted = false) :
    s.allHeard = true ↔ ∀ q ∈ s.presentList, (s.entry q).holdingReceived = true := by
  unfold State.allHeard State.alone State.notHeard
  rw [fresh]
  simp [List.filter_eq_nil_iff]

theorem State.allHeard_waits {s : State} {q : Pos} (hq : q ∈ s.presentList) (unheard : (s.entry q).holdingReceived = false) :
    s.allHeard = false := by
  have waits : s.notHeard ≠ [] := List.ne_nil_of_mem (List.mem_filter.mpr ⟨hq, by simp [unheard]⟩)
  unfold State.allHeard
  simp [waits]

/-- 08 R137: what the final HOLDING of a position leaves, whether the survey closes or not. -/
theorem State.finalHolding_stands {s : State} {p : Pos} (h : HoldingFields) (here : s.isAbsent p = false) (low : 1 ≤ p)
    (high : p ≤ s.table.entries.length) :
    let t := s.finalHolding p h
    t.positionReport p = { s.positionReport p with purgeSpace := h.purgeSpace, openSets := h.openSets } ∧
    (t.entry p).holdingReceived = true ∧
    (((s.positionReport p).sets.filter (·.complete)).length ≠ h.openSets → t.recovery.escalated = true) ∧
    (s.recovery.escalated = true → t.recovery.escalated = true) ∧
    ((∃ q ∈ s.presentList, q ≠ p ∧ (s.entry q).holdingReceived = false) →
      t.roster = s.roster ∧ t.recovery.path = s.recovery.path ∧ State.sameSegment s t) ∧
    (s.recovery.restarted = false → (∀ q ∈ s.presentList, q = p ∨ (s.entry q).holdingReceived = true) →
      s.surveyClosed t) := by
  obtain ⟨report, presence, heard, others, incomplete, still⟩ := State.heardOut_stands h here low high
  have frame := s.heardOut_frame p h
  have present := State.presentList_kept presence
  generalize hc : s.heardOut p h = c at *
  have done : s.finalHolding p h = if c.allHeard then c.closeSurvey else c := by rw [s.finalHolding_eq, hc]
  have closedRecord : c.closeSurvey.positionReport = c.positionReport :=
    State.positionReport_congr (by simp) (State.isAbsent_congr (c.closeSurvey_entry (·.presence) fun _ => rfl))
  have closedHeard : (c.closeSurvey.entry p).holdingReceived = (c.entry p).holdingReceived :=
    c.closeSurvey_entry (·.holdingReceived) (fun _ => rfl) p
  have cases : s.finalHolding p h = c ∨ s.finalHolding p h = c.closeSurvey := by
    rw [done]
    split
    · exact .inr rfl
    · exact .inl rfl
  refine ⟨?_, ?_, fun h => ?_, fun h => ?_, fun ⟨q, hq, other, unheard⟩ => ?_, fun fresh all => ?_⟩
  · rcases cases with h | h
    · rw [h, report]
    · rw [h, closedRecord, report]
  · rcases cases with h | h
    · rw [h, heard]
    · rw [h, closedHeard, heard]
  · rcases cases with same | same
    · rw [same]; exact incomplete h
    · rw [same]; simpa using incomplete h
  · rcases cases with same | same
    · rw [same]; exact still h
    · rw [same]; simpa using still h
  · have waits : c.allHeard = false := State.allHeard_waits (present ▸ hq) (by rw [others q other]; exact unheard)
    rw [done, waits]
    simp [State.sameSegment, frame]
  · have complete : c.allHeard = true := by
      rw [State.allHeard_iff (by simpa [frame] using fresh), present]
      intro q hq
      by_cases same : q = p
      · rw [same]; exact heard
      · rw [others q same]
        exact (all q hq).resolve_left same
    rw [done, complete]
    exact State.surveyClosed_congr c.closeSurvey_closed (by simp [frame]) (by simp [State.path, frame])

/-- 08 R134, R137: a HOLDING of the open survey, from a position that has not been heard to the end. -/
theorem State.holdingReceivedFrom_applies {s : State} {f : RxFrame} {h : HoldingFields} (epoch : f.epoch = s.roster.epoch)
    (stage : s.roster.stage = .open) (low : 1 ≤ f.sender) (high : f.sender ≤ 16) (here : s.isAbsent f.sender = false)
    (unheard : (s.entry f.sender).holdingReceived = false) : s.holdingReceivedFrom f h =
      let u := ((((s.ownHolding f.sender).followEpoch f).stopTests f.lineLow).recordHolding f.sender h)
      if h.final then u.finalHolding f.sender h else u := by
  have received : (s.ownHolding f.sender).epochReceived f = (s.ownHolding f.sender).followEpoch f := by
    rw [State.epochReceived, State.applyEpoch, if_pos (by simpa using epoch)]
  have entry : ((s.ownHolding f.sender).followEpoch f).entry = s.entry := State.entry_congr (by simp)
  have applies : ((s.ownHolding f.sender).followEpoch f).holdingApplies f = true := by
    have heard : ((s.ownHolding f.sender).followEpoch f).heard f.sender = true := by
      rw [State.heard, State.isAbsent, entry, (Pos.station_iff f.sender).mpr ⟨low, high⟩]
      simpa [State.isAbsent] using here
    simp [State.holdingApplies, epoch, stage, heard, entry, unheard]
  unfold State.holdingReceivedFrom
  dsimp only
  rw [received, if_pos applies]

/-- Settles O50. -/
theorem holdingRecorded : Obligations.HoldingRecorded := by
  unfold Obligations.HoldingRecorded
  intro s f rest h receives shape payload epoch stage low high unheard
  obtain ⟨rx, live, here⟩ := receives
  have applies := State.holdingReceivedFrom_applies (s := s.taken rest) (h := h) epoch stage low high here unheard
  let a := ((s.taken rest).ownHolding f.sender).followEpoch f
  let b := a.stopTests f.lineLow
  let u := b.recordHolding f.sender h
  have entryB : b.entry = s.entry := State.entry_congr (s := s) (by simp [a, b, State.taken])
  have recordA : a.recovery.record = s.recovery.record := by simp [a, State.taken]
  have recordB : b.recovery.record.reports = s.recovery.record.reports := by
    have : (a.stopTests f.lineLow).recovery.record.reports = a.recovery.record.reports := by
      unfold State.stopTests
      dsimp only
      (repeat' split) <;> simp
    exact this.trans (by rw [recordA])
  have reportB : b.positionReport f.sender = s.positionReport f.sender := by
    have absent : b.isAbsent = s.isAbsent := State.isAbsent_congr fun p => by rw [entryB]
    unfold State.positionReport
    rw [recordB, absent]
  have hereB : b.isAbsent f.sender = false := by rw [State.isAbsent, entryB]; exact here
  obtain ⟨report, table, flags, -⟩ := State.recordHolding_stands (s := b) h hereB
  rw [reportB] at report
  have hereU : u.isAbsent f.sender = false := by rw [State.isAbsent, (table f.sender).1]; exact hereB
  have roster : u.roster = s.roster := by simp [u, b, a, State.taken]
  have path : u.recovery.path = s.recovery.path := by simp [u, b, a, State.taken]
  have segment : State.sameSegment s u := by simp [u, b, a, State.taken, State.sameSegment]
  have entryU (q : Pos) : (u.entry q).holdingReceived = (s.entry q).holdingReceived := by rw [(table q).2, entryB]
  have presentU : u.presentList = s.presentList := State.presentList_kept fun q => by rw [(table q).1, entryB]
  have jams : u.recovery.jams = b.recovery.jams := by simp [u]
  have untested := State.stopTests_untested (s := a) f.lineLow
  have tested := State.stopTests_tested (s := a) f.lineLow
  have rosterA : a.roster = s.roster := by simp [a, State.taken]
  have resurvey : a.recovery.resurvey = s.recovery.resurvey := by simp [a, State.taken]
  have jamsA : a.recovery.jams = s.recovery.jams := by simp [a, State.taken]
  rw [recordA, resurvey, rosterA, jamsA, ← epoch] at untested tested
  have done := exec_holdingReceipt (h := h) ⟨rx, live, here⟩ payload
  rw [applies] at done
  cases final : h.final with
  | false =>
    rw [final] at done
    refine ⟨u, done, by rw [report], flags, fun h => jams.trans (untested h), fun h1 h2 h3 h4 => jams.trans (tested h1 h2 h3 h4),
      fun _ => ⟨roster, path, segment, entryU, fun own => ?_⟩, nofun, by simp [u, b, a, State.taken],
      by simp [u, b, a, State.taken], by simp [u, b, a, State.taken, State.sameSetup]⟩
    have link : u.link = ((s.taken rest).ownHolding f.sender).link := by simp [u, b, a]
    rw [link, State.ownHolding, if_pos (by exact beq_iff_eq.mpr own)]
  | true =>
    rw [final] at done
    have shapeB : b.shapeLaw := by simpa [State.shapeLaw, b, a, State.taken] using shape
    obtain ⟨-, -, -, -, -, entries, -⟩ := ((State.Keeps.refl b).recordHolding f.sender h).shape shapeB
    have size : f.sender ≤ u.table.entries.length := entries ▸ high
    obtain ⟨out, heard, incomplete, still, waits, closes⟩ := State.finalHolding_stands (s := u) h hereU low size
    rw [report] at out incomplete
    refine ⟨u.finalHolding f.sender h, done, by rw [out], fun flag => still (flags flag),
      fun h => (by simp : _ = u.recovery.jams).trans (jams.trans (untested h)),
      fun h1 h2 h3 h4 => (by simp : _ = u.recovery.jams).trans (jams.trans (tested h1 h2 h3 h4)), nofun,
      fun _ => ⟨by rw [out], by rw [out], heard, incomplete, fun ⟨q, hq, other, unheard⟩ => ?_, fun fresh all => ?_⟩,
      by simp [u, b, a, State.taken], by simp [u, b, a, State.taken], by simp [u, b, a, State.taken, State.sameSetup]⟩
    · obtain ⟨rosterT, pathT, track, handoff, feed, imaging, exit, drive, inputs⟩ :=
        waits ⟨q, presentU ▸ hq, other, by rw [entryU]; exact unheard⟩
      obtain ⟨trackU, handoffU, feedU, imagingU, exitU, driveU, inputsU⟩ := segment
      exact ⟨rosterT.trans roster, pathT.trans path, track.trans trackU, handoff.trans handoffU, feed.trans feedU,
        imaging.trans imagingU, exit.trans exitU, drive.trans driveU, inputs.trans inputsU⟩
    · refine State.surveyClosed_congr (closes ?_ fun q hq => ?_) roster path
      · simpa [u, b, a, State.taken] using fresh
      · rw [entryU]
        exact all q (presentU ▸ hq)

end Sys2Proof.Machine
end

section
/-! PROOFS. SETLIST and CLOSE (O51, O52). -/

namespace Sys2Proof.Machine

/-! ### SETLIST (08 R138) -/

theorem SurveySet.extend_iff (l : SurveySet) (job : Byte) (set : BitVec 16) (es : List SetEntry) (last : Bool) :
    l.extend job set es last =
      if l.complete = false ∧ l.job = job ∧ l.set = set ∧ l.entries.length + es.length ≤ 40
        then { l with entries := l.entries ++ es, complete := last } else l := by
  have refused : (l.complete || l.job != job || l.set != set || Config.setListMax < l.entries.length + es.length) = true ↔
      ¬ (l.complete = false ∧ l.job = job ∧ l.set = set ∧ l.entries.length + es.length ≤ 40) := by
    simp only [Bool.or_eq_true, bne_iff_ne, decide_eq_true_eq, Config.setListMax, ← Nat.not_le, Classical.not_and_iff_not_or_not,
      Bool.not_eq_false, or_assoc, ne_eq]
  unfold SurveySet.extend
  by_cases fits : l.complete = false ∧ l.job = job ∧ l.set = set ∧ l.entries.length + es.length ≤ 40
  · exact (if_neg fun h => refused.mp h fits).trans (if_pos fits).symm
  · exact (if_pos (refused.mpr fits)).trans (if_neg fits).symm

/-- 08 R138: the first SETLIST of a bin begins its list. -/
theorem extendSets_new {sets : List SurveySet} {bin : Nat} (job : Byte) (set : BitVec 16) {es : List SetEntry} (last : Bool)
    (new : ∀ l ∈ sets, l.bin ≠ bin) (size : es.length ≤ 40) : extendSets sets bin job set es last =
      sets ++ [{ bin := bin, job := job, set := set, entries := es, complete := last }] := by
  have unknown : (sets.any fun l => l.bin == bin) = false := by
    rw [List.any_eq_false]
    intro l hl
    simpa using new l hl
  unfold extendSets
  rw [unknown, SurveySet.extend_iff]
  simp [size]

/-- 08 R138: a further SETLIST of a bin extends its list alone. -/
theorem extendSets_known {pre post : List SurveySet} {l : SurveySet} (job : Byte) (set : BitVec 16) (es : List SetEntry)
    (last : Bool) (alone : ∀ m ∈ pre ++ post, m.bin ≠ l.bin) :
    extendSets (pre ++ l :: post) l.bin job set es last = pre ++ l.extend job set es last :: post := by
  have kept (ms : List SurveySet) (h : ∀ m ∈ ms, m.bin ≠ l.bin) :
      ms.map (fun m => if m.bin == l.bin then m.extend job set es last else m) = ms := by
    refine (List.map_congr_left fun m hm => ?_).trans (List.map_id ms)
    rw [if_neg (by simpa using h m hm)]
    rfl
  unfold extendSets
  rw [if_pos (by simp), List.map_append, List.map_cons, kept pre fun m hm => alone m (List.mem_append_left _ hm),
    kept post fun m hm => alone m (List.mem_append_right _ hm)]
  simp

/-- Settles O51. -/
theorem setlistRecorded : Obligations.SetlistRecorded := by
  unfold Obligations.SetlistRecorded
  intro s f rest bin job set es last receives payload epoch stage low high unheard
  obtain ⟨rx, live, here⟩ := receives
  let u := s.taken rest
  let change : PosReport → PosReport := fun r => { r with sets := extendSets r.sets bin job set es last }
  have applies : u.holdingApplies f = true := by
    have entry : u.entry = s.entry := rfl
    have heard : u.heard f.sender = true := by
      rw [State.heard, (Pos.station_iff f.sender).mpr ⟨low, high⟩]
      simpa [State.isAbsent, entry] using here
    have roster : u.roster = s.roster := rfl
    simp [State.holdingApplies, heard, entry, unheard, roster, epoch, stage]
  have done : exec .setlistReceipt s = .next (u.setReport f.sender change) := by
    refine congrArg Host.Outcome.next ((s.receive_live f rest _ _ ⟨rx, live, here⟩ (by rw [payload]; rfl)).trans ?_)
    rw [payload]
    exact if_pos applies
  have report : (u.setReport f.sender change).positionReport f.sender = change (s.positionReport f.sender) :=
    State.setReport_same (fun _ => rfl) here
  refine ⟨_, done, fun new size => ?_, fun pre l post listed same alone => ?_, fun q other => ?_, ?_, ?_⟩
  · rw [report]
    exact extendSets_new job set last new size
  · subst same
    rw [report, ← SurveySet.extend_iff]
    exact (congrArg (fun sets => extendSets sets l.bin job set es last) listed).trans (extendSets_known job set es last alone)
  · exact State.setReport_other (fun _ => rfl) other
  · rw [report]
  · rfl

/-! ### The positions struck out (03 R57) -/

theorem State.mapEntries_unmoved {s : State} {f : Pos → TableEntry → TableEntry} {p : Pos} (h : ∀ e, f p e = e) :
    (s.mapEntries f).entry p = s.entry p := by
  unfold State.entry State.mapEntries
  split
  · rfl
  · next positive =>
    have position : p - 1 + 1 = p := Nat.sub_add_cancel (Nat.one_le_iff_ne_zero.mpr positive)
    rw [List.getElem?_mapIdx, position]
    cases s.table.entries[p - 1]? <;> simp [h]

/-- The entry of a position that a list strikes out. -/
def strikeEntry (ps : List Pos) (p : Pos) (e : TableEntry) : TableEntry :=
  if ps.contains p then { e with presence := .absent, silence := .stopped } else e

theorem State.strikeOut_eq (s : State) (ps : List Pos) : s.strikeOut ps =
    if ps.contains s.own then (s.mapEntries (strikeEntry ps)).enterClosed .silentAbsent else s.mapEntries (strikeEntry ps) := rfl

theorem State.strikeOut_table (s : State) (ps : List Pos) : (s.strikeOut ps).table = (s.mapEntries (strikeEntry ps)).table := by
  rw [State.strikeOut_eq]
  split <;> rfl

theorem State.strikeOut_absent {s : State} {ps : List Pos} {p : Pos} (listed : p ∈ ps) (low : 1 ≤ p)
    (high : p ≤ s.table.entries.length) : (s.strikeOut ps).isAbsent p = true := by
  rw [State.isAbsent, State.entry_congr (congrArg Table.entries (s.strikeOut_table ps)), s.mapEntries_entry _ p low high]
  simp [strikeEntry, listed]

theorem State.strikeOut_others {s : State} {ps : List Pos} {p : Pos} (spared : p ∉ ps) :
    (s.strikeOut ps).entry p = s.entry p := by
  rw [State.entry_congr (congrArg Table.entries (s.strikeOut_table ps))]
  exact State.mapEntries_unmoved fun e => by simp [strikeEntry, spared]

/-- 03 R57: a station that is not listed itself loses nothing but the presence of the listed. -/
theorem State.strikeOut_spared {s : State} {ps : List Pos} (spared : s.own ∉ ps) :
    s.strikeOut ps = { s with table.entries := (s.strikeOut ps).table.entries } := by
  rw [State.strikeOut_eq, if_neg (by simpa using spared)]
  rfl

/-- 03 R57: a station listed itself enters SILENT-ABSENT. -/
theorem State.strikeOut_own {s : State} {ps : List Pos} (listed : s.own ∈ ps) : let t := s.strikeOut ps
    t.recovery.path = .silentAbsent ∧ t.link.slot = none ∧ t.link.queue = [] ∧ t.drive.state = .off ∧ t.den = false := by
  rw [State.strikeOut_eq, if_pos (by simpa using listed)]
  exact ⟨rfl, rfl, rfl, rfl, rfl⟩

/-! ### CLOSE -/

/-- Settles O52. -/
theorem closeEndsSurvey : Obligations.CloseEndsSurvey := by
  unfold Obligations.CloseEndsSurvey
  intro s f rest ps receives shape payload epoch low high
  obtain ⟨rx, live, here⟩ := receives
  let a := (s.taken rest).followEpoch f
  let u := a.withdrawFrames Payload.isClose
  let v := u.strikeOut ps
  have entries : s.table.entries.length = 16 := by
    obtain ⟨-, -, -, -, -, entries, -⟩ := shape
    exact entries
  have roster : u.roster = s.roster := by simp [u, a, State.taken]
  have table : u.table = s.table := by simp [u, a, State.taken]
  have path : u.recovery.path = s.recovery.path := by simp [u, a, State.taken]
  have own : u.own = s.own := by simp [u, a, State.taken, State.own, State.prof]
  have entryU : u.entry = s.entry := State.entry_congr (congrArg Table.entries table)
  have heard : u.heard f.sender = true := by
    rw [State.heard, State.isAbsent, entryU, (Pos.station_iff f.sender).mpr ⟨low, high⟩]
    simpa [State.isAbsent] using here
  have received : (s.taken rest).closeReceived f ps =
      if s.roster.stage = .open then (if livePath v.path then v.closeSurvey else v) else u := by
    have current : (f.epoch == a.roster.epoch) = true := by simp [a, State.taken, epoch]
    have unfolded : (s.taken rest).closeReceived f ps = if f.epoch == a.roster.epoch then
        (if u.roster.stage == .open && u.heard f.sender then (if livePath v.path then v.closeSurvey else v) else u) else a := rfl
    rw [unfolded, if_pos current, heard, roster]
    simp
  have done : exec .closeReceipt s = .next ((s.taken rest).closeReceived f ps) := by
    refine congrArg Host.Outcome.next ((s.receive_live f rest _ _ ⟨rx, live, here⟩ (by rw [payload]; rfl)).trans ?_)
    rw [payload]
  rw [received] at done
  by_cases stage : s.roster.stage = .open
  · rw [if_pos stage] at done
    have absent (p : Pos) (listed : p ∈ ps) (low : 1 ≤ p) (high : p ≤ 16) : v.isAbsent p = true :=
      State.strikeOut_absent listed low (by rw [table, entries]; exact high)
    have others (p : Pos) (spared : p ∉ ps) : (v.entry p).presence = (s.entry p).presence := by
      rw [State.strikeOut_others spared, entryU]
    have setup : State.sameSetup s v := by simp [v, u, a, State.taken, State.sameSetup]
    by_cases listed : s.own ∈ ps
    · obtain ⟨closed, slot, queue, drive, den⟩ := State.strikeOut_own (s := u) (ps := ps) (own ▸ listed)
      rw [if_neg (by rw [State.path, closed]; decide)] at done
      exact ⟨v, done, fun _ => ⟨absent, others⟩, fun _ spared => absurd listed spared,
        fun _ _ => ⟨closed, slot, queue, drive, den, by simp [v, roster]⟩, fun other => absurd stage other,
        by simp [v, u, a, State.taken], setup⟩
    · have kept := State.strikeOut_spared (s := u) (ps := ps) (own ▸ listed)
      have pathV : v.path = s.path := (congrArg (·.recovery.path) kept).trans path
      have rosterV : v.roster = s.roster := (congrArg State.roster kept).trans roster
      rw [if_pos (by rw [pathV]; exact live)] at done
      have presence (p : Pos) := v.closeSurvey_entry (·.presence) (fun _ => rfl) p
      refine ⟨v.closeSurvey, done, fun _ => ⟨fun p listed low high => ?_, fun p spared => (presence p).trans (others p spared)⟩,
        fun _ _ => State.surveyClosed_congr v.closeSurvey_closed rosterV pathV, fun _ h => absurd h listed,
        fun other => absurd stage other, by simp [v, u, a, State.taken], by simp [v, u, a, State.taken, State.sameSetup]⟩
      rw [State.isAbsent_congr presence]
      exact absent p listed low high
  · rw [if_neg stage] at done
    refine ⟨u, done, fun h => absurd h stage, fun h => absurd h stage, fun h => absurd h stage, fun _ => ?_, ?_, ?_⟩
    · exact ⟨roster, table, path, by simp [u, a, State.taken, State.sameSegment], a.withdrawFrames_selected _⟩
    · simp [u, a, State.taken]
    · simp [u, a, State.taken, State.sameSetup]

end Sys2Proof.Machine
end

section
/-! PROOFS. READY and the vote (O53). -/

namespace Sys2Proof.Machine

theorem mem_stations (p : Pos) : p ∈ stations ↔ 1 ≤ p ∧ p ≤ 16 := by
  simp only [stations, List.mem_map, List.mem_range]
  refine ⟨fun ⟨i, small, same⟩ => ?_, fun ⟨low, high⟩ => ⟨p - 1, Nat.lt_of_lt_of_le (Nat.sub_lt low Nat.one_pos) high,
    Nat.sub_add_cancel low⟩⟩
  rw [← same]
  exact ⟨Nat.succ_pos i, small⟩

/-- 11 R182: the entry to PLAN. -/
theorem State.enterPlan_path (s : State) : s.enterPlan.recovery.path = .plan := by
  unfold State.enterPlan
  dsimp only
  split
  · simp
  · rfl

/-- 11 R182: a complete vote of a station in CLEARANCE leads to PLAN. -/
theorem State.voteTest_passes {s : State} (path : s.path = .clearance) (stored : s.recovery.fates.digest.isSome = true)
    (complete : s.voteComplete = true) : s.voteTest.recovery.path = .plan := by
  unfold State.voteTest
  rw [if_pos (by simp [path, stored, complete])]
  exact s.enterPlan_path

theorem State.voteTest_waits {s : State} (h : s.path ≠ .clearance ∨ s.voteComplete = false) : s.voteTest = s := by
  unfold State.voteTest
  rcases h with h | h <;> simp [h]

theorem State.voteComplete_iff {s : State} (fresh : s.recovery.restarted = false) : s.voteComplete = true ↔
    s.presentList ≠ [] ∧ ∀ p ∈ s.presentList,
      (s.entry p).lastReady = some { clear := true, digest := s.ownDigest, epoch := s.recovery.clearanceEpoch } := by
  simp [State.voteComplete, State.alone, fresh]

theorem State.voteComplete_refused {s : State} {p : Pos} (present : p ∈ s.presentList)
    (other : (s.entry p).lastReady ≠ some { clear := true, digest := s.ownDigest, epoch := s.recovery.clearanceEpoch }) :
    s.voteComplete = false := by
  unfold State.voteComplete
  rw [Bool.and_eq_false_iff]
  right
  rw [List.all_eq_false]
  exact ⟨p, present, by simpa using other⟩

/-- 11 R183: the third mismatch escalates. -/
theorem State.countMismatch_eq (s : State) : s.countMismatch =
    { s with recovery.mismatch := min (s.recovery.mismatch + 1) 3
             recovery.escalated := decide (2 ≤ s.recovery.mismatch) || s.recovery.escalated } := by
  unfold State.countMismatch
  dsimp only [Config.mismatchMax]
  by_cases third : 2 ≤ s.recovery.mismatch
  · have full : min (s.recovery.mismatch + 1) 3 = 3 := by omega
    refine (if_pos full).trans ?_
    simp [State.escalate, third]
  · have room : min (s.recovery.mismatch + 1) 3 ≠ 3 := by omega
    refine (if_neg room).trans ?_
    simp [third]

theorem State.emptyVote_emptied (s : State) : s.emptyVote.recovery.firstDigest = none ∧
    ∀ p, (s.emptyVote.entry p).lastReady = none :=
  ⟨rfl, s.mapEntries_cleared (fun _ e => { e with lastReady := none }) (·.lastReady) fun _ _ => rfl⟩

/-- 11 R183: what a READY with another digest leaves. -/
theorem State.mismatched_stands (s : State) : let t := s.mismatched
    t.recovery.firstDigest = none ∧ (∀ p, (t.entry p).lastReady = none) ∧
      t.recovery.mismatch = min (s.recovery.mismatch + 1) 3 ∧
      t.recovery.escalated = (decide (2 ≤ s.recovery.mismatch) || s.recovery.escalated) ∧
      t.recovery.resurvey = some (s.recovery.clearanceEpoch + 1) ∧
      (s.path = .clearance → t.recovery.path = .survey ∧ t.recovery.epoch = s.recovery.clearanceEpoch + 1) ∧
      (s.path ≠ .clearance → t.recovery.path = s.recovery.path ∧ t.recovery.epoch = s.recovery.epoch) := by
  let a : State := { s with
    recovery.mismatch := min (s.recovery.mismatch + 1) 3
    recovery.escalated := decide (2 ≤ s.recovery.mismatch) || s.recovery.escalated
    recovery.resurvey := some (s.recovery.clearanceEpoch + 1) }
  let u := a.emptyVote.withdrawRecovery
  let v : State := { u with recovery.epoch := s.recovery.clearanceEpoch + 1 }
  have done : s.mismatched = if u.path == .clearance then v.openSurvey else u := by
    unfold State.mismatched
    rw [State.countMismatch_eq]
  obtain ⟨digest, ready⟩ := a.emptyVote_emptied
  have readyU (w : State) (table : w.table = a.emptyVote.table) (p : Pos) : (w.entry p).lastReady = none := by
    rw [State.entry_congr (congrArg Table.entries table)]
    exact ready p
  have path : u.path = s.path := by simp [u, a, State.path]
  rw [done, path]
  by_cases clearance : s.path = .clearance
  · rw [if_pos (by simpa using clearance)]
    have opened := State.openSurvey_opens (s := v) (t := v) rfl rfl
    refine ⟨by simpa [v, u] using digest, readyU _ (by simp [v, u]), by simp [v, u, a], by simp [v, u, a], by simp [v, u, a],
      fun _ => ⟨opened.path, by simp [v]⟩, fun h => absurd clearance h⟩
  · rw [if_neg (by simpa using clearance)]
    exact ⟨by simpa [u] using digest, readyU _ (by simp [u]), by simp [u, a], by simp [u, a], by simp [u, a],
      fun h => absurd h clearance, fun _ => ⟨path, by simp [u, a]⟩⟩

/-- A frame of the clearance epoch from a position that is not absent. -/
theorem State.clearanceFrame_heard {s : State} {f : RxFrame} (rest : List RxFrame) (clearance : s.clearanceFrame f)
    (here : s.isAbsent f.sender = false) : (s.taken rest).ofClearance f = true ∧ (s.taken rest).heard f.sender = true := by
  obtain ⟨phase, stage, epoch, low, high⟩ := clearance
  refine ⟨by simp [State.ofClearance, State.taken, phase, stage, epoch], ?_⟩
  rw [State.heard, (Pos.station_iff f.sender).mpr ⟨low, high⟩]
  have : (s.taken rest).isAbsent f.sender = s.isAbsent f.sender := rfl
  simp [this, here]

/-- Settles O53. -/
theorem readyCountsInTheVote : Obligations.ReadyCountsInTheVote := by
  unfold Obligations.ReadyCountsInTheVote
  intro s f rest clear digest receives shape payload clearance
  obtain ⟨rx, live, here⟩ := receives
  obtain ⟨ofClearance, heard⟩ := State.clearanceFrame_heard rest clearance here
  obtain ⟨phase, stage, epoch, low, high⟩ := clearance
  have received : exec .readyReceipt s = .next ((s.taken rest).readyReceived f clear digest) := by
    refine congrArg Host.Outcome.next ((s.receive_live f rest _ _ ⟨rx, live, here⟩ (by rw [payload]; rfl)).trans ?_)
    rw [payload]
  have applied : (s.taken rest).readyReceived f clear digest = _ := if_pos (by rw [ofClearance, heard]; rfl)
  refine ⟨fun agrees => ?_, fun d first other => ?_⟩
  · let ready : LastReady := { clear := clear, digest := digest, epoch := f.epoch }
    let change : TableEntry → TableEntry := fun e => { e with lastReady := some ready }
    let a := (s.taken rest).setEntry f.sender change
    let u : State := { a with recovery.firstDigest := some (s.recovery.firstDigest.getD digest) }
    have done : exec .readyReceipt s = .next u.voteTest := by
      refine received.trans (congrArg Host.Outcome.next (applied.trans (if_neg ?_)))
      cases first : s.recovery.firstDigest with
      | none => simp [State.taken, first]
      | some d => simp [State.taken, first, agrees d first]
    have firstDigest : s.recovery.firstDigest.getD digest = digest := by
      cases first : s.recovery.firstDigest with
      | none => rfl
      | some d => exact agrees d first
    have size : f.sender ≤ (s.taken rest).table.entries.length := by
      obtain ⟨-, -, -, -, -, entries, -⟩ := shape
      exact entries ▸ high
    have own : u.entry f.sender = change (s.entry f.sender) := (s.taken rest).setEntry_same f.sender change low size
    have others (q : Pos) (other : q ≠ f.sender) : u.entry q = s.entry q := (s.taken rest).setEntry_other f.sender q change other
    have present : u.presentList = s.presentList :=
      State.presentList_kept fun q => (s.taken rest).setEntry_kept f.sender change (·.presence) (fun _ => rfl) q
    have path : u.path = s.path := rfl
    have entries : u.voteTest.entry = u.entry := State.entry_congr (by simp)
    refine ⟨u.voteTest, done, ?_, ?_, fun q other => ?_, fun inClearance stored isClear fresh known all => ?_,
      fun notClear isPresent => ?_, fun away => ?_, ?_, ?_, ?_, ?_⟩
    · simp [u, firstDigest]
    · rw [entries, own]
    · rw [entries, others q other]
    · have ownDigest : u.ownDigest = digest := by
        have : u.recovery.fates.digest = s.recovery.fates.digest := by simp [u, a, State.taken]
        simp [State.ownDigest, this, stored]
      have epochU : u.recovery.clearanceEpoch = f.epoch := by simp [u, a, State.taken, epoch]
      refine State.voteTest_passes (path.trans inClearance) (by simp [u, a, State.taken, stored])
        ((State.voteComplete_iff (by simpa [u, a, State.taken] using fresh)).mpr ⟨present ▸ known, fun q hq => ?_⟩)
      rw [ownDigest, epochU]
      by_cases same : q = f.sender
      · rw [same, own]
        simp [change, ready, isClear]
      · rw [others q same]
        exact all q (present ▸ hq) same
    · have refused : u.voteComplete = false := by
        refine State.voteComplete_refused (p := f.sender) ?_ ?_
        · rw [present, State.presentList, List.mem_filter]
          exact ⟨(mem_stations f.sender).mpr ⟨low, high⟩, isPresent⟩
        · rw [own]
          simp [change, ready, notClear]
      rw [State.voteTest_waits (.inr refused)]
      rfl
    · rw [State.voteTest_waits (.inl (by rw [path]; exact away))]
      rfl
    · simp [u, a, State.taken]
    · simp [u, a, State.taken, State.sameSegment]
    · simp [u, a, State.taken]
    · simp [u, a, State.taken, State.sameSetup]
  · have done : exec .readyReceipt s = .next (s.taken rest).mismatched := by
      refine received.trans (congrArg Host.Outcome.next (applied.trans (if_pos ?_)))
      simpa [State.taken, first] using other
    obtain ⟨emptied, ready, mismatch, escalated, resurvey, opens, stays⟩ := (s.taken rest).mismatched_stands
    exact ⟨_, done, emptied, ready, mismatch, escalated, resurvey, opens, stays, by simp [State.taken], by simp [State.taken],
      by simp [State.taken], by simp [State.taken], by simp [State.taken], by simp [State.taken],
      by simp [State.taken, State.sameSetup]⟩

end Sys2Proof.Machine
end

section
/-! PROOFS. The frames of the plan in progress (O55). -/

namespace Sys2Proof.Machine

theorem exec_planReceipt {s : State} {f : RxFrame} {rest : List RxFrame} {p : PlanFields} (hr : s.receives f rest)
    (payload : f.payload = .plan p) : exec .planReceipt s = .next ((s.taken rest).planReceived f p) := by
  refine congrArg Host.Outcome.next ((s.receive_live f rest _ _ hr (by rw [payload]; rfl)).trans ?_)
  rw [payload]

theorem exec_planEntryReceipt {s : State} {f : RxFrame} {rest : List RxFrame} {e : PlanEntryFields} (hr : s.receives f rest)
    (payload : f.payload = .planEntry e) : exec .planEntryReceipt s = .next ((s.taken rest).planEntryReceived f e) := by
  refine congrArg Host.Outcome.next ((s.receive_live f rest _ _ hr (by rw [payload]; rfl)).trans ?_)
  rw [payload]

/-- 11 R186: a frame of the clearance epoch from the publishing station. -/
theorem State.planApplies_iff (s : State) (rest : List RxFrame) (f : RxFrame) :
    (s.taken rest).planApplies f = true ↔ s.clearanceFrame f ∧ s.publishing = some f.sender := by
  have unfolded : (s.taken rest).planApplies f = true ↔ s.publishing = some f.sender ∧ s.roster.phase = .recovery ∧
      s.roster.stage = .closed ∧ f.epoch = s.recovery.clearanceEpoch := by
    simp [State.planApplies, State.ofClearance, and_assoc]
    rfl
  rw [unfolded]
  refine ⟨fun ⟨publishing, phase, stage, epoch⟩ => ?_, fun ⟨⟨phase, stage, epoch, _⟩, publishing⟩ =>
    ⟨publishing, phase, stage, epoch⟩⟩
  have listed : f.sender ∈ s.presentList := List.mem_of_mem_head? publishing
  obtain ⟨low, high⟩ := (mem_stations f.sender).mp (List.mem_filter.mp listed).1
  exact ⟨⟨phase, stage, epoch, low, high⟩, publishing⟩

/-- Settles O55. -/
theorem planFramesCollected : Obligations.PlanFramesCollected := by
  unfold Obligations.PlanFramesCollected
  intro s f rest receives shape struckOut applied
  obtain ⟨rx, live, here⟩ := receives
  let a := s.taken rest
  have applies := s.planApplies_iff rest f
  have size : a.table.entries.length = 16 := by
    obtain ⟨-, -, -, -, -, entries, -⟩ := shape
    exact entries
  have own (ps : List Pos) (listed : s.own ∈ ps) : struckOut (a.strikeOut ps) := by
    obtain ⟨path, slot, queue, drive, -⟩ := State.strikeOut_own (s := a) (ps := ps) listed
    exact ⟨path, slot, queue, drive, by simp [a, State.taken], by simp [a, State.taken],
      by simp [a, State.taken, State.sameSetup]⟩
  have absent (ps : List Pos) (q : Pos) (listed : q ∈ ps) (low : 1 ≤ q) (high : q ≤ 16) : (a.strikeOut ps).isAbsent q = true :=
    State.strikeOut_absent listed low (size ▸ high)
  have others (ps : List Pos) (q : Pos) (spared : q ∉ ps) : (a.strikeOut ps).entry q = s.entry q :=
    (State.strikeOut_others spared).trans rfl
  refine ⟨fun applied => ⟨fun e payload => ?_, fun p payload count spared => ?_, fun p payload listed => ?_⟩,
    fun refused => ⟨fun e payload => ?_, fun p payload => ⟨fun fresh => ?_, fun restarted low high =>
      ⟨fun spared => ?_, fun listed => ?_⟩⟩⟩⟩
  · rw [exec_planEntryReceipt ⟨rx, live, here⟩ payload, State.planEntryReceived, if_pos (applies.mpr applied)]
    rfl
  · let v := a.strikeOut p.absent
    let t : State := { v with recovery.planIn := { header := some p } }
    have kept : v = { a with table.entries := v.table.entries } := State.strikeOut_spared spared
    have received : a.planReceived f p = t := by
      unfold State.planReceived
      rw [if_pos (applies.mpr applied), if_pos]
      · exact if_neg count
      · have path : v.path = s.path := congrArg (·.recovery.path) kept
        exact path ▸ live
    refine ⟨t, (exec_planReceipt ⟨rx, live, here⟩ payload).trans (congrArg _ received), rfl, absent p.absent, others p.absent, ?_⟩
    exact congrArg (fun w : State => { w with recovery.planIn := { header := some p } }) kept
  · refine ⟨a.strikeOut p.absent, (exec_planReceipt ⟨rx, live, here⟩ payload).trans (congrArg _ ?_), own p.absent listed⟩
    obtain ⟨closed, -⟩ := State.strikeOut_own (s := a) (ps := p.absent) listed
    unfold State.planReceived
    rw [if_pos (applies.mpr applied), if_neg]
    rw [State.path, closed]
    decide
  · rw [exec_planEntryReceipt ⟨rx, live, here⟩ payload, State.planEntryReceived, if_neg fun h => refused (applies.mp h)]
  · rw [exec_planReceipt ⟨rx, live, here⟩ payload, State.planReceived, if_neg fun h => refused (applies.mp h), if_neg]
    simp [State.taken, fresh]
  all_goals
    have heard : (a.recovery.restarted && a.heard f.sender) = true := by
      have restarted' : a.recovery.restarted = true := restarted
      have here' : a.isAbsent f.sender = false := here
      simp [restarted', State.heard, here', (Pos.station_iff f.sender).mpr ⟨low, high⟩]
    have received : a.planReceived f p = a.strikeOut p.absent := by
      rw [State.planReceived, if_neg fun h => refused (applies.mp h), if_pos heard]
    have done := (exec_planReceipt ⟨rx, live, here⟩ payload).trans (congrArg _ received)
  · exact ⟨_, done, absent p.absent, others p.absent, State.strikeOut_spared spared⟩
  · exact ⟨_, done, own p.absent listed⟩

end Sys2Proof.Machine
end

section
/-! PROOFS. The rows of the fate computation, and REVISION (O54). -/

namespace Sys2Proof.Machine

/-! ### The rows of the fate computation (09 R145..R153) -/

/-- 09 R145, 11 R180: where step 1 finds a sheet. -/
def State.placed (s : State) (again : Bool) (r : SheetRecord) : FateDetail := if again then s.placeAgain r else s.place r

/-- 09 R146: step 1 has one row for each record, with no fate but LOST. -/
theorem State.step1_mem {s : State} {again : Bool} {w : FateRow} (h : w ∈ s.step1 again) :
    w.sheet ∈ s.roster.records ∧ w.d = s.placed again w.sheet ∧ (s.lostAtRest w.sheet w.d = true → w.fate = some .lost) := by
  let rows := s.roster.records.map fun r => ({ sheet := r, d := s.placed again r } : FateRow)
  have unfolded : w ∈ rows.map fun w =>
      if ((rows.filter fun w => s.lostAtRest w.sheet w.d).map (·.sheet.serial)).contains w.sheet.serial
          || (!w.d.tray && w.d.rest.any fun rest => s.classIs rest.station .clearsDown
              && s.unusable ((rows.filter fun w => s.lostAtRest w.sheet w.d).map (·.sheet.serial)) rest.station
                  (s.firstRunout w.sheet rest))
        then { w with fate := some .lost } else w := h
  obtain ⟨v, hv, rfl⟩ := List.mem_map.mp unfolded
  obtain ⟨r, hr, rfl⟩ := List.mem_map.mp hv
  split
  · exact ⟨hr, rfl, fun _ => rfl⟩
  · next stays =>
    refine ⟨hr, rfl, fun gone => absurd ?_ stays⟩
    rw [Bool.or_eq_true, List.contains_iff_mem]
    exact .inl (List.mem_map.mpr ⟨_, List.mem_filter.mpr ⟨hv, gone⟩, rfl⟩)

/-- A row LOST in step 1 keeps that fate: no later step gives a row with a fate another one, but for the PURGE and RELEASE rows. -/
theorem State.lost_kept {s : State} {w : FateRow} (lost : w.fate = some .lost) (again : Bool) (hs : List Horizon)
    (gone : List Serial) (es : List PlanEntryFields) (rows : List FateRow) (sets : List ForfeitedSet) :
    s.step7 rows sets (s.step6 es (s.steps34 again hs gone w)) = w := by
  have four : s.steps34 again hs gone w = w := by simp [State.steps34, lost]
  have six : s.step6 es w = w := by simp [State.step6, lost]
  rw [four, six]
  simp [State.step7, lost]

theorem step8_sheet (hs : List Horizon) (w : FateRow) : (step8 hs w).sheet = w.sheet := by
  unfold step8
  split <;> rfl

theorem step8_moved (hs : List Horizon) {w : FateRow} (h : w.d.tray = false) : step8 hs w = w := by
  unfold step8
  rw [if_neg (by simp [h])]

/-- 11 R180: a sheet of the revision list's removals that does not lie in the tray is LOST. -/
theorem State.storeFates_removed {s : State} {x : Serial} {d : FateDetail} (calm : s.recovery.escalated = false)
    (removed : Revision.removed x ∈ s.recovery.revisions) (detail : s.detail x = some d) (moved : d.tray = false) :
    ∀ r ∈ (s.storeFates true).roster.records, r.serial = x → r.fate = some .lost := by
  intro r hr serial
  have stepped : s.computeFates true = s.steppedResults true := by simp [State.computeFates, calm]
  have listed : r ∈ (s.steppedResults true).1.map fun w => { w.sheet with fate := some (w.fate.getD .keep) } := stepped ▸ hr
  obtain ⟨w8, h8, rfl⟩ := List.mem_map.mp listed
  simp only [State.steppedResults, List.map_map, List.mem_map, Function.comp_apply] at h8
  obtain ⟨w, hw, rfl⟩ := h8
  obtain ⟨-, place, lostRow⟩ := State.step1_mem hw
  rw [step8_sheet, State.step7_sheet, State.step6_sheet, State.steps34_sheet] at serial
  have tray : w.d.tray = false := by
    rw [place, State.placed, if_pos rfl]
    unfold State.placeAgain
    dsimp only
    rw [serial, detail]
    split <;> exact moved
  have named : s.namedLost w.sheet.serial = true := by
    have : x ∈ s.revisedSerials := List.mem_filterMap.mpr ⟨_, removed, rfl⟩
    rw [State.namedLost, Bool.or_eq_true, List.contains_iff_mem]
    exact .inr (serial ▸ this)
  have lost := lostRow (by simp [State.lostAtRest, tray, named])
  rw [State.lost_kept lost, step8_moved _ tray, lost]
  rfl

/-! ### The station's own pending revisions (11 R178) -/

theorem State.dropPending_own {s : State} {f : RxFrame} {v : RevisionContent} (own : f.sender = s.own)
    (epoch : f.epoch = s.recovery.clearanceEpoch) (done : s.revises f v = true ∨ s.applicable f.sender v = false)
    (head : s.recovery.pendingRevs.head? = some v) :
    (s.dropPending f v).recovery.pendingRevs = s.recovery.pendingRevs.drop 1 := by
  unfold State.dropPending
  rw [if_pos]
  have content : (s.revises f v || !s.applicable f.sender v) = true := by
    rcases done with h | h <;> simp [h]
  rw [content]
  simp [own, epoch, head]

/-! ### An applied REVISION (11 R179, R180) -/

/-- 11 R179: what an applied REVISION leaves. -/
theorem State.applyRevision_stands (s : State) (p : Pos) (v : RevisionContent) : let t := s.applyRevision p v
    t.recovery.revisions = s.recovery.revisions ++ [revisionItem p v] ∧
    t.recovery.clearanceEpoch = s.recovery.clearanceEpoch + 1 ∧ t.recovery.firstDigest = none ∧
    (∀ q, (t.entry q).lastReady = none) ∧ t.recovery.planIn = {} ∧ t.recovery.fates.digest.isSome ∧
    t.roster.records.map (·.serial) = s.roster.records.map (·.serial) ∧ (∀ r ∈ t.roster.records, r.fate.isSome) ∧
    (∀ x d, v = .removed x → s.recovery.escalated = false → s.detail x = some d → d.tray = false →
      ∀ r ∈ t.roster.records, r.serial = x → r.fate = some .lost) ∧
    (s.path ∈ [PathState.clearance, .plan] →
      t.recovery.path = .clearance ∧ t.recovery.epoch = s.recovery.clearanceEpoch + 1) ∧
    (s.path ∉ [PathState.clearance, .plan] → t.recovery.path = s.recovery.path ∧ t.recovery.epoch = s.recovery.epoch) := by
  let a : State := { s with
    recovery.revisions := s.recovery.revisions ++ [revisionItem p v]
    recovery.clearanceEpoch := s.recovery.clearanceEpoch + 1 }
  let b := a.emptyVote.withdrawRecovery
  let w : State := { b.storeFates true with recovery.planIn := {} }
  have done : s.applyRevision p v = if w.path == .clearance || w.path == .plan then
      { w with recovery.epoch := w.recovery.clearanceEpoch, recovery.path := .clearance } else w := rfl
  obtain ⟨digest, ready⟩ := a.emptyVote_emptied
  obtain ⟨serials, fates⟩ := b.storeFates_records true
  have path : w.path = s.path := by simp [w, b, a, State.path]
  have readyW (q : Pos) : (w.entry q).lastReady = none := by
    rw [State.entry_congr (s := a.emptyVote) (by simp [w, b])]
    exact ready q
  have serialsW : w.roster.records.map (·.serial) = s.roster.records.map (·.serial) := serials.trans (by simp [b, a])
  have lost (x : Serial) (d : FateDetail) (removed : v = .removed x) (calm : s.recovery.escalated = false)
      (detail : s.detail x = some d) (moved : d.tray = false) : ∀ r ∈ w.roster.records, r.serial = x → r.fate = some .lost := by
    refine State.storeFates_removed (s := b) (d := d) (by simpa [b, a] using calm) ?_ ?_ moved
    · simp [b, a, State.emptyVote, removed, revisionItem]
    · have fatesB : b.recovery.fates = s.recovery.fates := by simp [b, a]
      rw [State.detail, fatesB]
      exact detail
  have revisions : w.recovery.revisions = s.recovery.revisions ++ [revisionItem p v] := by simp [w, b, a]
  have epoch : w.recovery.clearanceEpoch = s.recovery.clearanceEpoch + 1 := by simp [w, b, a]
  have digestW : w.recovery.firstDigest = none := by simpa [w, b] using digest
  rw [done, path]
  by_cases opens : s.path ∈ [PathState.clearance, .plan]
  · rw [if_pos (by simpa using opens)]
    exact ⟨revisions, epoch, digestW, readyW, rfl, b.storeFates_digest true, serialsW, fates, lost, fun _ => ⟨rfl, epoch⟩,
      fun h => absurd opens h⟩
  · rw [if_neg (by simpa using opens)]
    exact ⟨revisions, epoch, digestW, readyW, rfl, b.storeFates_digest true, serialsW, fates, lost, fun h => absurd h opens,
      fun _ => ⟨path, by simp [w, b, a]⟩⟩

/-! ### What follows a REVISION (11 R178, R181) -/

theorem State.revisionTests_unapplied (s : State) (dropped : Bool) : let t := s.revisionTests false dropped
    t.track = s.track ∧ t.recovery.path = s.recovery.path ∧ t.recovery.pendingRevs = s.recovery.pendingRevs := by
  unfold State.revisionTests
  dsimp only
  repeat' split
  all_goals simp_all

theorem State.revisionTests_path {s : State} (applied dropped : Bool) (unvoted : ∀ p, (s.entry p).lastReady = none) :
    (s.revisionTests applied dropped).recovery.path = s.recovery.path := by
  cases applied with
  | false =>
    obtain ⟨-, path, -⟩ := s.revisionTests_unapplied dropped
    exact path
  | true =>
    unfold State.revisionTests
    split
    · exact State.clearanceTests_unvoted unvoted
    · rfl

theorem State.revisionTests_pending {s : State} (applied dropped : Bool) (mark : s.recovery.doorMark = false) :
    (s.revisionTests applied dropped).recovery.pendingRevs = s.recovery.pendingRevs := by
  cases applied with
  | false =>
    obtain ⟨-, -, pending⟩ := s.revisionTests_unapplied dropped
    exact pending
  | true =>
    unfold State.revisionTests State.clearanceTests
    rw [mark]
    split <;> simp

/-- Settles O54. -/
theorem revisionRecomputesFates : Obligations.RevisionRecomputesFates := by
  unfold Obligations.RevisionRecomputesFates
  intro s f rest v receives payload clearance
  obtain ⟨rx, live, here⟩ := receives
  obtain ⟨ofClearance, heard⟩ := State.clearanceFrame_heard rest clearance here
  obtain ⟨-, -, epoch, low, high⟩ := clearance
  let a := s.taken rest
  let d := a.dropPending f v
  have revises : a.revises f v = a.applicable f.sender v := by rw [State.revises, ofClearance, heard]; rfl
  have ownA : a.own = s.own := rfl
  intro item
  have itemEq : item = revisionItem f.sender v := by cases v <;> rfl
  have done : exec .revisionReceipt s = .next (a.revisionReceived f v) := by
    refine congrArg Host.Outcome.next ((s.receive_live f rest _ _ ⟨rx, live, here⟩ (by rw [payload]; rfl)).trans ?_)
    rw [payload]
  have dropped (fits : a.revises f v = true ∨ a.applicable f.sender v = false) (own : f.sender = s.own)
      (head : s.recovery.pendingRevs.head? = some v) : d.recovery.pendingRevs = s.recovery.pendingRevs.drop 1 :=
    State.dropPending_own (s := a) own epoch fits head
  generalize hp : decide (d.recovery.pendingRevs.length < s.recovery.pendingRevs.length) = shorter
  refine ⟨fun new atRest zone => ?_, fun old => ?_⟩
  · have applicable : a.applicable f.sender v = true := by
      have fresh : (a.recovery.revisions.contains (revisionItem f.sender v)) = false := by
        rw [← itemEq]
        simpa [a, State.taken] using new
      unfold State.applicable
      rw [fresh]
      cases v with
      | removed x =>
        obtain ⟨r, hr, fate⟩ := atRest x rfl
        have found : a.record x = some r := hr
        simp only [found]
        rcases fate with h | h | h | h <;> simp [SheetRecord.atRest, h]
      | unknown z =>
        obtain ⟨zoneLow, zoneHigh⟩ := zone z rfl
        simp [inRange, zoneLow, zoneHigh]
    have applies : a.revises f v = true := revises.trans applicable
    let u := d.applyRevision f.sender v
    let t := u.revisionTests true shorter
    have received : a.revisionReceived f v = t := by
      unfold State.revisionReceived
      dsimp only
      rw [if_pos applies, applies]
      exact congrArg (fun b => u.revisionTests true b) hp
    obtain ⟨revisions, stepped, digest, ready, planIn, stored, serials, fates, lost, moved, stays⟩ :=
      d.applyRevision_stands f.sender v
    have path : d.path = s.path := by simp [d, a, State.taken, State.path]
    have pathT := State.revisionTests_path (s := u) true shorter ready
    have entry : t.entry = u.entry := State.entry_congr (by simp [t])
    have rosterT : t.roster = u.roster := by simp [t]
    have detail (x : Serial) : d.detail x = s.detail x := by
      have : d.recovery.fates = s.recovery.fates := by simp [d, a, State.taken]
      rw [State.detail, this]
      rfl
    refine ⟨t, done.trans (congrArg _ received), ?_, ?_, ?_, fun p => ?_, ?_, ?_, ?_, ?_, fun x e removed calm known out => ?_,
      fun opens => ⟨?_, ?_⟩, fun away => ⟨?_, ?_⟩, fun own mark head => ?_, ?_, ?_, ?_, ?_, ?_, ?_⟩
    · exact (by simp [t] : t.recovery.revisions = u.recovery.revisions).trans
        (revisions.trans (by simp [itemEq, d, a, State.taken]))
    · exact (by simp [t] : t.recovery.clearanceEpoch = u.recovery.clearanceEpoch).trans
        (stepped.trans (by simp [d, a, State.taken]))
    · simp [t, u, digest]
    · rw [entry]; exact ready p
    · simp [t, u, planIn]
    · simpa [t, u] using stored
    · rw [rosterT, serials]; simp [d, a, State.taken]
    · rw [rosterT]; exact fates
    · rw [rosterT]
      exact lost x e removed (by simpa [d, a, State.taken] using calm) ((detail x).trans known) out
    · rw [pathT]; exact (moved (path ▸ opens)).1
    · have : u.recovery.epoch = d.recovery.clearanceEpoch + 1 := (moved (path ▸ opens)).2
      simp [t, this, d, a, State.taken]
    · rw [pathT, (stays (path ▸ away)).1]; exact path
    · have : u.recovery.epoch = d.recovery.epoch := (stays (path ▸ away)).2
      simp [t, this, d, a, State.taken]
    · rw [State.revisionTests_pending true shorter (by simpa [u, d, a, State.taken] using mark)]
      exact (by simp [u] : u.recovery.pendingRevs = d.recovery.pendingRevs).trans (dropped (.inl applies) own head)
    all_goals simp [t, u, d, a, State.taken, State.sameSetup]
  · have applicable : a.applicable f.sender v = false := by
      have known : a.recovery.revisions.contains (revisionItem f.sender v) = true := by
        rw [← itemEq]
        simpa [a, State.taken] using old
      unfold State.applicable
      rw [known]
      rfl
    have refused : a.revises f v = false := revises.trans applicable
    have received : a.revisionReceived f v = d.revisionTests false shorter := by
      unfold State.revisionReceived
      dsimp only
      rw [if_neg (by rw [refused]; decide), refused]
      exact congrArg (fun b => d.revisionTests false b) hp
    obtain ⟨track, -, pending⟩ := d.revisionTests_unapplied shorter
    exact ⟨d.revisionTests false shorter, done.trans (congrArg _ received), by simp [d, a, State.taken],
      by simp [d, a, State.taken], fun own head => pending.trans (dropped (.inr applicable) own head),
      by simp [d, a, State.taken], by simp [d, a, State.taken], ⟨track.trans (by simp [d, a, State.taken]), by simp [d, a, State.taken]⟩,
      by simp [d, a, State.taken], by simp [d, a, State.taken, State.sameSetup]⟩

end Sys2Proof.Machine
end

section
/-! PROOFS. What a final PLAN does to LINK, EXIT and the records (for O56). -/

namespace Sys2Proof.Machine

/-! ### Out of step (02 R35) -/

/-- A station that is out of step, or has lost a frame since its last HOLDING, stays so. -/
structure State.StaysOut (s t : State) : Prop where
  out : s.link.outOfStep = true → t.link.outOfStep = true
  lost : s.link.lostSinceHolding = true → t.link.lostSinceHolding = true

theorem State.StaysOut.of {s t : State} (out : t.link.outOfStep = s.link.outOfStep)
    (lost : t.link.lostSinceHolding = s.link.lostSinceHolding) : s.StaysOut t := ⟨fun h => out.trans h, fun h => lost.trans h⟩

theorem State.StaysOut.refl (s : State) : s.StaysOut s := .of rfl rfl

theorem State.StaysOut.trans {s t u : State} (h : s.StaysOut t) (k : t.StaysOut u) : s.StaysOut u :=
  ⟨k.out ∘ h.out, k.lost ∘ h.lost⟩

theorem State.StaysOut.to {s t u : State} (h : s.StaysOut t) (link : u.link = t.link) : s.StaysOut u :=
  h.trans (.of (by rw [link]) (by rw [link]))

theorem State.StaysOut.from {s t u : State} (h : t.StaysOut u) (link : t.link = s.link) : s.StaysOut u :=
  (State.StaysOut.of (by rw [link]) (by rw [link])).trans h

theorem State.StaysOut.queueJam (s : State) (k : JamKind) (zone : Nat) (x : Option Serial) : s.StaysOut (s.queueJam k zone x) := by
  unfold State.queueJam
  dsimp only
  split
  · exact .of rfl rfl
  · split
    · exact .of rfl rfl
    · exact ⟨fun _ => rfl, fun _ => rfl⟩

theorem State.StaysOut.lose (s : State) : s.StaysOut s.lose := by
  let marked : State := { s with link.lostSinceHolding := true, link.outOfStep := true }
  have marks : s.StaysOut marked := ⟨fun _ => rfl, fun _ => rfl⟩
  unfold State.lose
  split
  · split
    · exact marks
    · exact marks.trans (.queueJam marked _ _ _)
  · split
    · exact marks
    · exact .refl s

theorem State.StaysOut.queueFrame (s : State) (p : Payload) : s.StaysOut (s.queueFrame p) := by
  unfold State.queueFrame State.queueTagged
  split
  · exact .of rfl rfl
  · exact .lose s

theorem State.StaysOut.closeSet (s : State) (n : Nat) (outcome : SetOutcome) : s.StaysOut (s.closeSet n outcome) := by
  unfold State.closeSet
  split
  · exact .refl s
  · exact (State.StaysOut.queueFrame s _).to rfl

theorem State.StaysOut.acceptOffer (s : State) (d : DeferredOffer) : s.StaysOut (s.acceptOffer d) := by
  have sent := State.StaysOut.queueFrame s (.accept d.upstream d.serials (s.freeCount - d.serials.length))
  unfold State.acceptOffer
  dsimp only
  split
  · exact sent
  · split
    · exact sent.to (by simp)
    · exact sent.to rfl

theorem State.StaysOut.retest (s : State) (d : DeferredOffer) : s.StaysOut (s.retest d).1 := by
  unfold State.retest
  split
  · exact .refl s
  · split
    · exact .refl s
    · exact .acceptOffer s d

theorem State.StaysOut.retestAll : ∀ (ds : List DeferredOffer) (s : State), s.StaysOut (s.retestAll ds).1
  | [], s => .refl s
  | d :: ds, s => (State.StaysOut.retest s d).trans (State.StaysOut.retestAll ds _)

theorem State.StaysOut.reevaluate (s : State) : s.StaysOut s.reevaluate := by
  unfold State.reevaluate
  dsimp only
  split
  · exact (State.StaysOut.retestAll _ s).to rfl
  · exact .refl s

theorem State.StaysOut.demandCrossing (s : State) : s.StaysOut s.demandCrossing := by
  unfold State.demandCrossing
  dsimp only
  split
  · split
    · exact .of rfl rfl
    · split
      · exact (State.StaysOut.queueFrame s _).to rfl
      · exact .refl s
  · exact .refl s

theorem State.StaysOut.spinTest (s : State) : s.StaysOut s.spinTest := by
  unfold State.spinTest
  dsimp only
  split
  · exact (State.StaysOut.reevaluate _).from rfl
  · exact .refl s

theorem State.StaysOut.driveOff {s : State} (away : s.path ≠ .stopping) : s.StaysOut s.driveOff := by
  let t : State := { s with drive.state := .off, drive.halt := .stopped }
  have off : s.driveOff = t.reevaluate := State.surveyTest_away (by simpa [t, State.path] using away)
  rw [off]
  exact (State.StaysOut.reevaluate t).from rfl

theorem State.StaysOut.driveHalt {s : State} (away : s.path ≠ .stopping) : s.StaysOut s.driveHalt := by
  unfold State.driveHalt
  dsimp only
  split
  · exact (State.StaysOut.reevaluate _).from (by simp)
  · refine ((State.StaysOut.reevaluate _).from (by simp)).trans ((State.StaysOut.driveOff ?_).trans (.spinTest _))
    simpa [State.path] using away

theorem State.StaysOut.driveSync {s : State} (away : s.path ≠ .stopping) : s.StaysOut s.driveSync := by
  unfold State.driveSync
  split
  · exact .spinTest s
  · split
    · exact .refl s
    · exact .driveHalt away
  · split
    · exact .refl s
    · exact .driveHalt away
  · exact .refl s

theorem State.StaysOut.needTest (s : State) : s.StaysOut s.needTest := by
  unfold State.needTest
  dsimp only
  split
  · next runout =>
    have away : ({ s with recovery.driveNeed := s.driveNeeded } : State).path ≠ .stopping := by simp_all [State.path]
    exact (State.StaysOut.driveSync away).from rfl
  · exact .refl s

/-! ### Closing the sets marked STAY (10 R171) -/

/-- 10 R171: several sets closed. -/
def State.closeSets (s : State) (ns : List Nat) : State := ns.foldl (fun t n => t.closeSet n .forfeited) s

/-- 10 R171: the bins whose sets are marked STAY. -/
def State.stayBins (s : State) : List Nat := s.binNumbers.filter fun n => (s.forfeitedSet n).any fun f => !f.eject

theorem State.closeStaySets_eq (s : State) : s.closeStaySets = s.closeSets s.stayBins := rfl

theorem State.closeSets_cons (s : State) (n : Nat) (ns : List Nat) :
    s.closeSets (n :: ns) = (s.closeSet n .forfeited).closeSets ns := rfl

theorem State.StaysOut.closeSets : ∀ (ns : List Nat) (s : State), s.StaysOut (s.closeSets ns)
  | [], s => .refl s
  | n :: ns, s => (State.StaysOut.closeSet s n _).trans (State.StaysOut.closeSets ns _)

theorem State.Adds.closeSets (s : State) (ns : List Nat) : s.Adds (s.closeSets ns) :=
  State.Adds.foldl _ (fun _ _ => .closeSet _ _ _) ns s

theorem State.closeSets_bin_ne {k : Nat} : ∀ {ns : List Nat} (s : State), k ∉ ns → (s.closeSets ns).bin k = s.bin k
  | [], _, _ => rfl
  | n :: ns, s, other => by
    rw [State.closeSets_cons, State.closeSets_bin_ne _ fun h => other (List.mem_cons_of_mem _ h)]
    exact State.closeSet_bin_ne s _ fun h => other (h ▸ List.mem_cons_self)

theorem State.closeSet_bins (s : State) (n : Nat) (outcome : SetOutcome) :
    (s.closeSet n outcome).exit.bins.length = s.exit.bins.length := by
  unfold State.closeSet
  split
  · rfl
  · rw [State.setBin_bins_length]
    simp

/-- 10 R171: where there is room the close leaves LINK in step, and its slot free. -/
theorem State.closeSet_room {s : State} (n : Nat) (room : s.link.queue.length < 8) : let t := s.closeSet n .forfeited
    t.link.queue.length ≤ s.link.queue.length + 1 ∧ t.link.slot = s.link.slot ∧ t.link.outOfStep = s.link.outOfStep ∧
      t.link.lostSinceHolding = s.link.lostSinceHolding ∧ t.recovery.epoch = s.recovery.epoch := by
  refine ⟨s.closeSet_length n _, ?_⟩
  unfold State.closeSet
  split
  · exact ⟨rfl, rfl, rfl, rfl⟩
  · rw [s.queueFrame_room _ (s.txRoom_iff.mpr room)]
    exact ⟨rfl, rfl, rfl, rfl⟩

theorem State.closeSets_room : ∀ (ns : List Nat) (s : State), s.link.queue.length + ns.length ≤ 8 →
    (s.closeSets ns).link.slot = s.link.slot ∧ (s.closeSets ns).link.outOfStep = s.link.outOfStep ∧
      (s.closeSets ns).link.lostSinceHolding = s.link.lostSinceHolding
  | [], _, _ => ⟨rfl, rfl, rfl⟩
  | n :: ns, s, room => by
    rw [List.length_cons] at room
    obtain ⟨length, slot, out, lost, -⟩ := State.closeSet_room (s := s) n (by omega)
    obtain ⟨slot', out', lost'⟩ := State.closeSets_room ns (s.closeSet n .forfeited) (by omega)
    exact ⟨slot'.trans slot, out'.trans out, lost'.trans lost⟩

/-- 10 R171: every set of the list is closed and reported. -/
theorem State.closeSets_bin {k : Nat} {o : OpenSet} (one : 1 ≤ k) {ns : List Nat} (nodup : ns.Nodup) (listed : k ∈ ns) (s : State)
    (high : k ≤ s.exit.bins.length) (opened : (s.bin k).openSet = some o) : (s.closeSets ns).bin k = (s.bin k).closed ∧
      (s.link.queue.length + ns.length ≤ 8 → (s.closeSets ns).queued s.recovery.epoch (.setDone k o.job o.set .forfeited)) := by
  induction ns generalizing s with
  | nil => cases listed
  | cons n ns ih =>
    obtain ⟨fresh, nodup⟩ := List.nodup_cons.mp nodup
    rw [State.closeSets_cons, List.length_cons]
    rcases List.mem_cons.mp listed with rfl | later
    · refine ⟨(State.closeSets_bin_ne _ fresh).trans (State.closeSet_bin opened _ one high), fun room => ?_⟩
      exact (State.Adds.closeSets _ ns).queued (State.closeSet_sent opened _ (s.txRoom_iff.mpr (by omega)))
    · have other : k ≠ n := fun h => fresh (h ▸ later)
      have bin := State.closeSet_bin_ne s .forfeited other
      have bins := s.closeSet_bins n .forfeited
      obtain ⟨closed, sent⟩ := ih nodup later (s.closeSet n .forfeited) (bins.symm ▸ high) (bin.symm ▸ opened)
      refine ⟨closed.trans (congrArg _ bin), fun room => ?_⟩
      obtain ⟨length, -, -, -, epoch⟩ := State.closeSet_room (s := s) n (by omega)
      exact epoch ▸ sent (by omega)

theorem State.stayBins_nodup (s : State) : s.stayBins.Nodup := by
  have bins : s.binNumbers.Nodup := List.Pairwise.map _ (fun a b other same => other (Nat.succ.inj same)) List.nodup_range
  exact bins.sublist List.filter_sublist

/-- 10 R171: a set marked STAY is an open one. -/
theorem State.mem_stayBins (s : State) (k : Nat) : k ∈ s.stayBins ↔
    k ∈ s.binNumbers ∧ ∃ g, s.forfeitedSet k = some g ∧ g.eject = false := by
  rw [State.stayBins, List.mem_filter, Option.any_eq_true]
  simp

theorem State.forfeitedSet_open {s : State} {k : Nat} {g : ForfeitedSet} (h : s.forfeitedSet k = some g) :
    ∃ o, (s.bin k).openSet = some o := by
  unfold State.forfeitedSet at h
  split at h
  · cases h
  · next o opened => exact ⟨o, opened⟩

theorem State.bin_empty {s : State} {k : Nat} (h : s.exit.bins.length < k) : (s.bin k).openSet = none := by
  unfold State.bin
  split
  · rfl
  · have none : s.exit.bins[k - 1]? = none := List.getElem?_eq_none (by omega)
    rw [none]
    rfl

theorem State.binNumbers_pos {s : State} {k : Nat} (h : k ∈ s.binNumbers) : 1 ≤ k := by
  obtain ⟨i, -, rfl⟩ := List.mem_map.mp h
  exact Nat.succ_pos i

/-- 10 R164: no more sets are marked STAY than there are bins. -/
theorem State.stayBins_few {s : State} : s.stayBins.length ≤ s.exit.bins.length := by
  have within : ∀ k ∈ s.stayBins, k ∈ (List.range s.exit.bins.length).map (· + 1) := by
    intro k hk
    obtain ⟨number, g, forfeited, -⟩ := (s.mem_stayBins k).mp hk
    obtain ⟨o, opened⟩ := State.forfeitedSet_open forfeited
    have low := State.binNumbers_pos number
    have high : k ≤ s.exit.bins.length := by
      refine Decidable.byContradiction fun beyond => ?_
      rw [State.bin_empty (by omega)] at opened
      cases opened
    exact List.mem_map.mpr ⟨k - 1, List.mem_range.mpr (by omega), by omega⟩
  simpa using length_le_of_nodup_subset s.stayBins_nodup within

/-! ### A settled recovery (11 R188) -/

/-- 10 R170: without fate results no set is ejected. -/
theorem State.ejectStart_settled {s : State} (h : s.recovery.fates = {}) : s.ejectStart = s := by
  have forfeited (n : Nat) : s.forfeitedSet n = none := by
    unfold State.forfeitedSet
    split
    · rfl
    · rw [h]; rfl
  have none : s.ejectable = none := by
    unfold State.ejectable
    split
    · rw [List.find?_eq_none]
      intro n _
      simp [forfeited n]
    · rfl
  simp [State.ejectStart, none]

/-- 01 R18, 05 R76: what the changes of the roster and of the occupancy leave, where every entry of the tracker has its record
and no fates stand. -/
structure State.Settled (s t : State) : Prop where
  adds : s.Adds t
  stays : s.StaysOut t
  path : t.recovery.path = s.recovery.path
  exit : t.exit = s.exit
  places : t.track.queue.map Entry.place = s.track.queue.map Entry.place
  quiet : s.path ≠ .run → s.path ≠ .runout → s.handoff.deferred = [] → t.link = s.link ∧ t.handoff.deferred = []

theorem State.Settled.trans {s t u : State} (h : s.Settled t) (k : t.Settled u) : s.Settled u where
  adds := h.adds.trans k.adds
  stays := h.stays.trans k.stays
  path := k.path.trans h.path
  exit := k.exit.trans h.exit
  places := k.places.trans h.places
  quiet run runout none := by
    have path : t.path = s.path := h.path
    obtain ⟨link, deferred⟩ := h.quiet run runout none
    obtain ⟨link', deferred'⟩ := k.quiet (path ▸ run) (path ▸ runout) deferred
    exact ⟨link'.trans link, deferred'⟩

theorem State.occupancyChanged_settled (b : State) {s : State} (fates : s.recovery.fates = {}) :
    s.Settled (State.occupancyChanged b s) := by
  let h := State.endHold b s.gateFollow
  let r := h.needTest.reevaluate
  have start : r.ejectStart = r := State.ejectStart_settled (by simp [r, h, fates])
  have done : State.occupancyChanged b s = r.pickTest := congrArg State.pickTest start
  refine ⟨.occupancyChanged b s, ?_, State.occupancyChanged_path b s, ?_, State.occupancyChanged_places b s,
    fun run runout none => ?_⟩
  · rw [done]
    exact (((State.StaysOut.needTest h).trans (.reevaluate _)).to (by simp [r])).from (by simp [h])
  · rw [done]
    simp [r, h]
  · have path : h.path = s.path := by simp [h, State.path]
    have test : h.needTest = h := State.needTest_unneeded (path ▸ runout)
    have still : r = h := by
      rw [show r = h.needTest.reevaluate from rfl, test]
      exact State.reevaluate_none (by simpa [h] using none)
    rw [done, still]
    exact ⟨by simp [h], by simpa [h] using none⟩

theorem State.rosterChanged_settled {s : State} (records : ∀ e ∈ s.track.queue, (s.record e.serial).isSome) :
    s.Settled s.rosterChanged := by
  have dropped : s.dropPick.dropEntries = s.dropPick :=
    State.dropEntries_none fun e he _ => by simpa [State.record] using records e (by simpa using he)
  let r := s.dropPick.reevaluate
  have done : s.rosterChanged = if s.hasRole .feed then r.demandCrossing.pickTest else s.reevaluate := by
    unfold State.rosterChanged
    rw [dropped]
  refine ⟨.rosterChanged s, ?_, s.rosterChanged_path, ?_, ?_, fun run runout none => ?_⟩
  · rw [done]
    split
    · exact (((State.StaysOut.reevaluate _).trans (.demandCrossing r)).to (by simp)).from (by simp)
    · exact .reevaluate s
  · rw [done]
    split <;> simp [r]
  · rw [done]
    split <;> simp [r]
  · rw [done]
    split
    · have still : r = s.dropPick := State.reevaluate_none (by simpa using none)
      have away : (s.dropPick.path == .run) = false := by simpa [State.path] using run
      have link : s.dropPick.demandCrossing.link = s.dropPick.link := by
        unfold State.demandCrossing
        rw [away, Bool.and_false]
        dsimp only
        (repeat' split) <;> simp_all
      rw [still]
      exact ⟨by simp [link], by simpa using none⟩
    · rw [State.reevaluate_none none]
      exact ⟨rfl, none⟩

end Sys2Proof.Machine
end

section
/-! PROOFS. The final PLAN (O56). -/

namespace Sys2Proof.Machine

/-! ### The records (11 R187) -/

theorem State.planCustody_shape (s : State) (r : SheetRecord) : s.planCustody r =
    { r with holder := (s.planCustody r).holder, routeIndex := (s.planCustody r).routeIndex } := by
  unfold State.planCustody
  (repeat' split) <;> rfl

theorem State.planCarrier_shape (s : State) (r : SheetRecord) : s.planCarrier r =
    { r with
      front := (s.planCarrier r).front, back := (s.planCarrier r).back, job := (s.planCarrier r).job
      set := (s.planCarrier r).set, index := (s.planCarrier r).index, last := (s.planCarrier r).last
      bin := (s.planCarrier r).bin, reprintOf := (s.planCarrier r).reprintOf } := by
  unfold State.planCarrier
  (repeat' split) <;> rfl

theorem planPurge_eq (r : SheetRecord) :
    planPurge r = { r with purgeRouted := if r.fate = some .purge then true else r.purgeRouted } := by
  unfold planPurge
  by_cases purged : r.fate = some .purge <;> simp [purged]

/-- 11 R187: a record after the plan. -/
def State.planRecord (s : State) (r : SheetRecord) : SheetRecord :=
  { planPurge (s.planCarrier (s.planCustody r)) with fate := none }

theorem State.planRecord_eq (s : State) (r : SheetRecord) : s.planRecord r =
    { s.planCarrier r with
      holder := (s.planCustody r).holder, routeIndex := (s.planCustody r).routeIndex, fate := none
      purgeRouted := if r.fate = some .purge then true else r.purgeRouted } := by
  unfold State.planRecord
  rw [planPurge_eq, State.planCustody_shape]
  unfold State.planCarrier
  dsimp only
  (repeat' split) <;> rfl

/-- 11 R187: a sheet that a PARK leaves with its park target (log 16). -/
def SheetRecord.parkedAt (r : SheetRecord) (d : FateDetail) : Prop :=
  r.fate = some .park ∧ d.parkTarget.isSome = true ∧ r.holder = d.parkTarget

theorem State.planCustody_moved {s : State} {r : SheetRecord} {d : FateDetail} {x : Rest} (detail : s.detail r.serial = some d)
    (rest : d.rest = some x) (fed : r.stage = .fed) (moves : ¬ r.parkedAt d) : (s.planCustody r).holder = some x.station ∧
      (s.planCustody r).routeIndex = if r.holder = some x.station then r.routeIndex else x.routeIndex := by
  have stays : (r.fate == some .park && d.parkTarget.isSome && r.holder == d.parkTarget) = false := by
    rw [Bool.eq_false_iff]
    simpa [SheetRecord.parkedAt, and_assoc] using moves
  unfold State.planCustody
  rw [detail]
  dsimp only
  rw [if_neg (by rw [stays]; decide), rest]
  dsimp only
  by_cases here : r.holder = some x.station <;> simp [fed, here]

theorem State.planCustody_kept {s : State} {r : SheetRecord}
    (h : ∀ d, s.detail r.serial = some d → d.rest = none ∨ r.stage = .announced ∨ r.parkedAt d) : s.planCustody r = r := by
  unfold State.planCustody
  split
  · rfl
  · next d detail =>
    split
    · rfl
    · next moves =>
      split
      · next x rest =>
        have announced : r.stage = .announced := by
          rcases h d detail with none | announced | parked
          · rw [none] at rest; cases rest
          · exact announced
          · exact absurd (by simpa [SheetRecord.parkedAt, and_assoc] using parked) moves
        simp [announced]
      · rfl

theorem State.planCarrier_carries {s : State} {r : SheetRecord} {e : PlanEntryFields} (release : r.fate = some .release)
    (found : (s.recovery.fates.reprint.find? fun i => i.carrier == some r.serial) = some e) : s.planCarrier r =
      { r with
        front := e.front, back := if r.duplex then some e.back else none, job := e.job, set := e.set, index := e.idx
        last := e.last, bin := e.bin, reprintOf := some e.replaced } := by
  unfold State.planCarrier
  rw [if_pos (by simp [release]), found]

theorem State.planCarrier_kept {s : State} {r : SheetRecord} (h : r.fate ≠ some .release) : s.planCarrier r = r := by
  unfold State.planCarrier
  rw [if_neg (by simpa using h)]

/-! ### The state with the results applied (11 R187, R188) -/

/-- 11 R187, R188: the final plan applied, before the station goes on. -/
def State.planEnded (s : State) (epoch : Epoch) (f : PlanFields) : State :=
  let a := { s with roster.records := s.planRecords }
  let b := a.closeStaySets.dropGone
  let c := b.mapEntries fun _ e => { e with lastReady := none, restarted := false }
  let inStep := f.escalated && !c.link.lostSinceHolding
  { c with
    roster.records := c.roster.records.map fun r => { r with fate := none }
    roster.phase := .normal, roster.stage := .notApplicable, roster.epoch := epoch, roster.planInForce := some f.firstFree
    recovery.jams := [], recovery.escalated := false, recovery.account := {}, recovery.fates := {}, recovery.revisions := []
    recovery.pendingRevs := [], recovery.firstDigest := none, recovery.mismatch := 0
    recovery.restarted := false, recovery.doorMark := false
    link.outOfStep := c.link.outOfStep && !inStep }

/-- 11 R189: a station in PLAN goes on in RESUMING. -/
def State.goOn (s : State) : State := if s.path == .plan then s.enterResuming else s

theorem State.applyFinalPlan_eq (s : State) (epoch : Epoch) (f : PlanFields) : s.applyFinalPlan epoch f =
    (State.occupancyChanged (s.planEnded epoch f).goOn (s.planEnded epoch f).goOn).rosterChanged := rfl

theorem State.planEnded_records (s : State) (epoch : Epoch) (f : PlanFields) :
    (s.planEnded epoch f).roster.records = (s.roster.records.filter s.staysInPlan).map s.planRecord := by
  unfold State.planEnded
  simp [State.planRecords, Function.comp_def, State.planRecord]

theorem State.planRecord_serial (s : State) (r : SheetRecord) : (s.planRecord r).serial = r.serial := by
  rw [State.planRecord_eq, State.planCarrier_shape]

/-- 11 R187: the sheets that are not LOST stay, but for the withdrawn ones that were not fed. -/
theorem State.planEnded_serials (s : State) (epoch : Epoch) (f : PlanFields) : (s.planEnded epoch f).roster.records.map (·.serial) =
    (s.roster.records.filter fun r =>
      !(r.fate == some .lost || (r.stage == .announced && (s.detail r.serial).any (·.withdrawn)))).map (·.serial) := by
  rw [State.planEnded_records, List.map_map]
  have stays : s.staysInPlan = fun r =>
      !(r.fate == some .lost || (r.stage == .announced && (s.detail r.serial).any (·.withdrawn))) := by
    funext r
    rw [Bool.not_or]
    rfl
  rw [stays]
  exact List.map_congr_left fun r _ => s.planRecord_serial r

/-- A serial has a record in every roster with the same serials. -/
theorem State.record_isSome_congr {s t : State} (serials : t.roster.records.map (·.serial) = s.roster.records.map (·.serial))
    (x : Serial) : (t.record x).isSome = (s.record x).isSome := by
  have listed (a : State) : (a.record x).isSome = true ↔ x ∈ a.roster.records.map (·.serial) := by
    simp [State.record]
  rw [Bool.eq_iff_iff, listed, listed, serials]

theorem State.planEnded_tracked (s : State) (epoch : Epoch) (f : PlanFields) :
    ∀ e ∈ (s.planEnded epoch f).track.queue, ((s.planEnded epoch f).record e.serial).isSome := by
  let a : State := { s with roster.records := s.planRecords }
  intro e he
  have serials : (s.planEnded epoch f).roster.records.map (·.serial) = a.closeStaySets.roster.records.map (·.serial) := by
    unfold State.planEnded
    simp [a, Function.comp_def]
  have queue : (s.planEnded epoch f).track.queue = a.closeStaySets.dropGone.track.queue := by
    unfold State.planEnded
    simp [a]
  rw [queue] at he
  rw [State.record_isSome_congr serials]
  exact (List.mem_filter.mp he).2

/-! ### RESUMING (11 R189) -/

theorem Entry.restore_place (e : Entry) : e.restore.place = e.place := by
  unfold Entry.restore
  split <;> rfl

/-- 11 R189: what the entry to RESUMING leaves. -/
theorem State.enterResuming_enters (s : State) : let t := s.enterResuming
    t.recovery.path = .resuming ∧ t.drive.gateHeld = false ∧ s.Adds t ∧ s.StaysOut t ∧
      t.track.queue.map Entry.place = s.track.queue.map Entry.place ∧
      (s.handoff.deferred = [] → t.link = s.link ∧ t.handoff.deferred = []) := by
  let u : State := { s with recovery.path := .resuming, drive.gateHeld := false }
  let v := (u.mapQueue Entry.restore).gateFollow
  have away : v.reevaluate.path ≠ .stopping := by simp [v, u, State.path]
  have linkV : v.link = s.link := by simp [v, u]
  have queueV : v.track.queue = s.track.queue.map Entry.restore := by simp [v, u, State.mapQueue]
  obtain ⟨queue, -, path⟩ := State.driveSync_away away
  have done : s.enterResuming = v.reevaluate.driveSync := rfl
  dsimp only
  rw [done]
  refine ⟨path.trans (by simp [v, u]), by simp [v, u], ?_, ?_, ?_, fun none => ?_⟩
  · exact ((State.Adds.reevaluate v).trans (.driveSync _)).from linkV
  · exact ((State.StaysOut.reevaluate v).trans (.driveSync away)).from linkV
  · rw [queue, (by simp : v.reevaluate.track.queue = v.track.queue), queueV, List.map_map]
    exact List.map_congr_left fun e _ => e.restore_place
  · have noneV : v.handoff.deferred = [] := by simpa [v, u] using none
    have request : v.driveRequest = true := by simp [State.driveRequest, v, u, State.path]
    have still : v.driveSync.link = v.link ∧ v.driveSync.handoff = v.handoff := by
      unfold State.driveSync
      split
      · unfold State.spinTest
        dsimp only
        split
        · rw [State.reevaluate_none (by exact noneV)]
          exact ⟨rfl, rfl⟩
        · exact ⟨rfl, rfl⟩
      · rw [if_pos request]; exact ⟨rfl, rfl⟩
      · rw [if_pos request]; exact ⟨rfl, rfl⟩
      · exact ⟨rfl, rfl⟩
    rw [State.reevaluate_none noneV, still.1, still.2]
    exact ⟨linkV, noneV⟩

/-- 11 R189: what the way on leaves of the state with the plan applied. -/
structure State.WentOn (s t : State) : Prop where
  adds : s.Adds t
  stays : s.StaysOut t
  exit : t.exit = s.exit
  tracked : (∀ e ∈ s.track.queue, (s.record e.serial).isSome) → ∀ e ∈ t.track.queue, (t.record e.serial).isSome
  resumes : s.path = .plan → t.recovery.path = .resuming ∧ t.drive.gateHeld = false
  path : s.path ≠ .plan → t.recovery.path = s.recovery.path
  quiet : s.path ≠ .run → s.path ≠ .runout → s.handoff.deferred = [] → t.link = s.link

theorem State.tracked_of_places {s t : State} (places : t.track.queue.map Entry.place = s.track.queue.map Entry.place)
    (roster : t.roster = s.roster) (h : ∀ e ∈ s.track.queue, (s.record e.serial).isSome) :
    ∀ e ∈ t.track.queue, (t.record e.serial).isSome := by
  intro e he
  obtain ⟨g, hg, same⟩ := List.mem_map.mp (places ▸ List.mem_map_of_mem (f := Entry.place) he)
  have serial : g.serial = e.serial := congrArg Prod.fst same
  rw [State.record, roster, ← serial]
  exact h g hg

theorem State.goOn_wentOn {s : State} (fates : s.recovery.fates = {}) (tracked : ∀ e ∈ s.track.queue, (s.record e.serial).isSome) :
    s.WentOn (State.occupancyChanged s.goOn s.goOn).rosterChanged := by
  have settles {e : State} (fates : e.recovery.fates = {}) (tracked : ∀ g ∈ e.track.queue, (e.record g.serial).isSome) :
      e.Settled (State.occupancyChanged e e).rosterChanged := by
    have first := State.occupancyChanged_settled e fates
    exact first.trans (State.rosterChanged_settled (State.tracked_of_places first.places (by simp) tracked))
  by_cases plan : s.path = .plan
  · have on : s.goOn = s.enterResuming := if_pos (by simp [plan])
    obtain ⟨path, gate, adds, stays, places, quiet⟩ := s.enterResuming_enters
    have trackedE := State.tracked_of_places places (by simp) tracked
    have settled := settles (e := s.enterResuming) (by simp [fates]) trackedE
    rw [on]
    refine ⟨adds.trans settled.adds, stays.trans settled.stays, settled.exit.trans (by simp),
      fun _ => State.tracked_of_places settled.places (by simp) trackedE,
      fun _ => ⟨settled.path.trans path, by simp [gate]⟩, fun other => absurd plan other, fun _ _ none => ?_⟩
    obtain ⟨link, deferred⟩ := quiet none
    obtain ⟨link', -⟩ := settled.quiet (by simp [State.path, path]) (by simp [State.path, path]) deferred
    exact link'.trans link
  · have on : s.goOn = s := if_neg (by simpa using plan)
    have settled := settles fates tracked
    rw [on]
    exact ⟨settled.adds, settled.stays, settled.exit, State.tracked_of_places settled.places (by simp),
      fun h => absurd h plan, fun _ => settled.path, fun run runout none => (settled.quiet run runout none).1⟩

/-! ### EXIT and LINK after the plan -/

/-- 10 R171: the bins after the plan. -/
theorem State.planEnded_bins (s : State) (epoch : Epoch) (f : PlanFields) (bins : s.exit.bins.length = 3) (k : Nat) (o : OpenSet)
    (opened : (s.bin k).openSet = some o) (stay : k ∈ s.stayBins) : (s.planEnded epoch f).bin k = (s.bin k).closed ∧
      (s.link.queue.length ≤ 4 → (s.planEnded epoch f).queued s.recovery.epoch (.setDone k o.job o.set .forfeited)) := by
  let a : State := { s with roster.records := s.planRecords }
  have high : k ≤ a.exit.bins.length := by
    refine Decidable.byContradiction fun beyond => ?_
    rw [State.bin_empty (s := s) (Nat.lt_of_not_le beyond)] at opened
    cases opened
  have low : 1 ≤ k := State.binNumbers_pos ((s.mem_stayBins k).mp stay).1
  have few : a.stayBins.length ≤ 3 := bins ▸ State.stayBins_few (s := a)
  obtain ⟨closed, sent⟩ := State.closeSets_bin low a.stayBins_nodup (show k ∈ a.stayBins from stay) a high opened
  refine ⟨(State.bin_congr (s := a.closeStaySets) ?_ k).trans closed, fun room => ?_⟩
  · unfold State.planEnded
    simp [a]
  · obtain ⟨g, hg, is⟩ := sent (Nat.add_le_add (Nat.le_trans room (by decide : 4 ≤ 5)) few)
    refine ⟨g, ?_, is⟩
    unfold State.planEnded
    simpa [a, State.closeStaySets_eq] using hg

theorem State.planEnded_bin_ne (s : State) (epoch : Epoch) (f : PlanFields) {k : Nat} (stay : k ∉ s.stayBins) :
    (s.planEnded epoch f).bin k = s.bin k := by
  let a : State := { s with roster.records := s.planRecords }
  refine (State.bin_congr (s := a.closeStaySets) ?_ k).trans (State.closeSets_bin_ne (ns := a.stayBins) a stay)
  unfold State.planEnded
  simp [a]

/-- 02 R35, 11 R188: out of step after the plan. -/
theorem State.planEnded_out (s : State) (epoch : Epoch) (f : PlanFields) :
    (s.link.outOfStep = true → f.escalated = false ∨ s.link.lostSinceHolding = true →
      (s.planEnded epoch f).link.outOfStep = true) ∧
    (f.escalated = true → s.link.lostSinceHolding = false → s.exit.bins.length = 3 → s.link.queue = [] →
      (s.planEnded epoch f).link.outOfStep = false) := by
  let a : State := { s with roster.records := s.planRecords }
  let c := a.closeSets a.stayBins
  have out : (s.planEnded epoch f).link.outOfStep = (c.link.outOfStep && !(f.escalated && !c.link.lostSinceHolding)) := by
    unfold State.planEnded
    simp [a, c, State.closeStaySets_eq]
  have stays := State.StaysOut.closeSets a.stayBins a
  rw [out]
  refine ⟨fun outOfStep again => ?_, fun escalated lost bins queue => ?_⟩
  · rw [stays.out outOfStep]
    rcases again with h | h
    · simp [h]
    · simp [c, stays.lost h]
  · have few : a.stayBins.length ≤ 3 := bins ▸ State.stayBins_few (s := a)
    obtain ⟨-, -, lost'⟩ := State.closeSets_room a.stayBins a (by
      have : a.link.queue.length = 0 := by simp [a, queue]
      omega)
    have : c.link.lostSinceHolding = false := lost'.trans lost
    simp [this, escalated]

/-- Settles O56. -/
theorem finalPlanEndsRecovery : Obligations.FinalPlanEndsRecovery := by
  unfold Obligations.FinalPlanEndsRecovery
  intro s f rest p receives clearance publishing payload count spared
  obtain ⟨rx, live, here⟩ := receives
  let v := (s.taken rest).strikeOut p.absent
  let w : State := { s.taken rest with table.entries := v.table.entries }
  have kept : v = w := State.strikeOut_spared spared
  let d := w.planEnded f.epoch p
  let t := w.applyFinalPlan f.epoch p
  have done : exec .planReceipt s = .next t := by
    refine (exec_planReceipt ⟨rx, live, here⟩ payload).trans (congrArg _ ?_)
    have struck : (s.taken rest).planReceived f p = if livePath v.path then v.applyPlan f p else v :=
      if_pos ((s.planApplies_iff rest f).mpr ⟨clearance, publishing⟩)
    rw [struck, kept]
    exact (if_pos live).trans (if_pos count)
  have on : d.WentOn t := State.goOn_wentOn rfl (w.planEnded_tracked f.epoch p)
  have rosterT : t.roster = d.roster := by
    rw [show t = _ from w.applyFinalPlan_eq f.epoch p]
    unfold State.goOn
    split <;> simp [d]
  have tableT : t.table = d.table := by
    rw [show t = _ from w.applyFinalPlan_eq f.epoch p]
    unfold State.goOn
    split <;> simp [d]
  have recoveryT : t.recovery.jams = [] ∧ t.recovery.escalated = false ∧ t.recovery.account = {} ∧ t.recovery.fates = {} ∧
      t.recovery.revisions = [] ∧ t.recovery.firstDigest = none ∧ t.recovery.mismatch = 0 ∧
      t.recovery.restarted = false := by
    rw [show t = _ from w.applyFinalPlan_eq f.epoch p]
    unfold State.goOn
    split <;> simp [State.planEnded]
  have pathD : d.recovery.path = s.recovery.path := by
    unfold d State.planEnded
    simp [w, State.taken]
  have binT (k : Nat) : t.bin k = d.bin k := State.bin_congr (by rw [on.exit]) k
  have cleared (q : Pos) : (t.entry q).lastReady = none ∧ (t.entry q).restarted = false := by
    let b := ({ w with roster.records := w.planRecords } : State).closeStaySets.dropGone
    have entry : t.entry q = (b.mapEntries fun _ e => { e with lastReady := none, restarted := false }).entry q := by
      rw [State.entry_congr (congrArg Table.entries tableT)]
      rfl
    rw [entry]
    let clear : Pos → TableEntry → TableEntry := fun _ e => { e with lastReady := none, restarted := false }
    exact ⟨b.mapEntries_cleared clear (·.lastReady) (fun _ _ => rfl) q, b.mapEntries_cleared clear (·.restarted) (fun _ _ => rfl) q⟩
  obtain ⟨jams, escalated, account, fates, revisions, digest, mismatch, restarted⟩ := recoveryT
  obtain ⟨staysOut, comesIn⟩ := w.planEnded_out f.epoch p
  refine ⟨t, done, by rw [rosterT]; rfl, by rw [rosterT]; rfl, by rw [rosterT]; rfl, by rw [rosterT]; rfl, ?_, ?_, fun q hq => ?_,
    fun shape k o number opened => ⟨fun g forfeited stay => ?_, fun eject => ?_⟩, fun k none => ?_, ?_, ?_, ?_, jams, escalated,
    account, fates, revisions, digest, mismatch, restarted, cleared, ?_, fun plan => ?_, fun other => ?_, ?_, ?_, ?_⟩
  · simp [t, w, State.taken]
  · rw [rosterT]
    exact w.planEnded_serials f.epoch p
  · rw [rosterT, show d.roster.records = _ from w.planEnded_records f.epoch p] at hq
    obtain ⟨r, hr, rfl⟩ := List.mem_map.mp hq
    have known : r ∈ s.roster.records := (List.mem_filter.mp hr).1
    have custody := w.planRecord_eq r
    rw [custody]
    refine ⟨r, known, ?_⟩
    rw [State.planCarrier_shape]
    refine ⟨rfl, rfl, rfl, rfl, rfl, rfl, rfl, fun purge => if_pos purge, fun other => if_neg other, rfl, rfl, rfl, rfl,
      fun other => ?_, fun e release found => ?_, fun e x detail rest fed moves => ?_, fun h => ?_⟩
    · rw [State.planCarrier_kept other]
      exact ⟨rfl, rfl, rfl, rfl, rfl, rfl, rfl, rfl⟩
    · rw [State.planCarrier_carries (s := w) release found]
      exact ⟨rfl, rfl, rfl, rfl, rfl, rfl, rfl, rfl⟩
    · exact State.planCustody_moved (s := w) detail rest fed moves
    · rw [State.planCustody_kept (s := w) h]
      exact ⟨rfl, rfl⟩
  · have bins : w.exit.bins.length = 3 := by
      obtain ⟨-, -, -, -, bins, -⟩ := shape
      exact bins
    have stays : k ∈ w.stayBins := (w.mem_stayBins k).mpr ⟨number, g, forfeited, stay⟩
    obtain ⟨closed, sent⟩ := w.planEnded_bins f.epoch p bins k o opened stays
    exact ⟨(binT k).trans closed, fun room _ => on.adds.queued (sent room)⟩
  · refine (binT k).trans (w.planEnded_bin_ne f.epoch p fun stays => ?_)
    obtain ⟨-, g, forfeited, stay⟩ := (w.mem_stayBins k).mp stays
    rw [eject g forfeited] at stay
    cases stay
  · refine (binT k).trans (w.planEnded_bin_ne f.epoch p fun stays => ?_)
    obtain ⟨-, g, forfeited, -⟩ := (w.mem_stayBins k).mp stays
    obtain ⟨o, opened⟩ := State.forfeitedSet_open forfeited
    exact absurd (none.symm.trans opened) nofun
  · rw [on.exit]
    unfold d State.planEnded
    simp [w, State.taken]
  · exact fun out again => on.stays.out (staysOut out again)
  · intro escalated lost paths queue slot deferred shape
    have bins : w.exit.bins.length = 3 := by
      obtain ⟨-, -, -, -, bins, -⟩ := shape
      exact bins
    have run : d.path ≠ .run := by
      rw [State.path, pathD]
      intro h
      simp [State.path, h] at paths
    have runout : d.path ≠ .runout := by
      rw [State.path, pathD]
      intro h
      simp [State.path, h] at paths
    have none : d.handoff.deferred = [] := by
      unfold d State.planEnded
      simpa [w, State.taken] using deferred
    rw [on.quiet run runout none]
    exact comesIn escalated lost bins queue
  · exact on.tracked (w.planEnded_tracked f.epoch p)
  · exact on.resumes (pathD.trans plan)
  · exact (on.path fun h => other (pathD.symm.trans h)).trans pathD
  all_goals simp [t, w, State.taken, State.sameSetup]

end Sys2Proof.Machine
end

section
/-! PROOFS. The checks of the frozen table (for O57). -/

namespace Sys2Proof.Machine

/-! ### The links of the purge paths (03 R53) -/

theorem distAt_stations (f : Pos → Option Nat) {p : Pos} (h : p ∈ stations) : distAt (stations.map f) p = f p := by
  obtain ⟨low, high⟩ := (mem_stations p).mp h
  have zero : p ≠ 0 := Nat.one_le_iff_ne_zero.mp low
  have index : p - 1 < 16 := Nat.lt_of_lt_of_le (Nat.sub_lt low Nat.one_pos) high
  have found : stations[p - 1]? = some p := by
    unfold stations
    rw [List.getElem?_map, List.getElem?_range index, Option.map_some, Nat.sub_add_cancel low]
  rw [distAt, if_neg zero, List.getElem?_map, found]
  rfl

theorem distAt_none (p : Pos) : distAt (List.replicate 16 none) p = none := by
  unfold distAt
  split
  · rfl
  · rw [List.getElem?_replicate]
    split <;> rfl

/-- A fold that keeps one of the candidates finds one when there is one. -/
theorem foldl_some_isSome {α : Type} {f : Option α → α → Option α} (some : ∀ b c, (f b c).isSome = true) :
    ∀ (xs : List α) (b : Option α), (xs.foldl f b).isSome = (b.isSome || !xs.isEmpty)
  | [], b => by simp
  | x :: xs, b => by
    rw [List.foldl_cons, foldl_some_isSome some xs, some]
    simp

/-- 03 R53: there is a purge successor when a present station of the downstream list has a chain. -/
theorem State.successor_isSome (s : State) (ds : Distances) (p : Pos) : (s.successor ds p).isSome = true ↔
    ∃ d ∈ s.downs p, s.isPresent d = true ∧ (distAt ds d).isSome = true := by
  unfold State.successor
  rw [foldl_some_isSome fun _ _ => rfl]
  simp only [Option.isSome_none, Bool.false_or, Bool.not_eq_true', List.isEmpty_eq_false_iff_exists_mem, List.mem_filterMap]
  constructor
  · rintro ⟨c, d, listed, found⟩
    by_cases present : s.isPresent d = true
    · rw [if_pos present] at found
      obtain ⟨n, at_, -⟩ := Option.map_eq_some_iff.mp found
      exact ⟨d, listed, present, by rw [at_]; rfl⟩
    · rw [if_neg present] at found
      cases found
  · rintro ⟨d, listed, present, known⟩
    obtain ⟨n, at_⟩ := Option.isSome_iff_exists.mp known
    exact ⟨(d, n), d, listed, by rw [if_pos present, at_]; rfl⟩

theorem State.isPresent_station {s : State} (size : s.table.entries.length = 16) {p : Pos} (h : s.isPresent p = true) :
    p ∈ stations := by
  rw [mem_stations]
  unfold State.isPresent State.entry at h
  split at h
  · cases h
  · next positive =>
    refine ⟨Nat.one_le_iff_ne_zero.mpr positive, Nat.le_of_not_lt fun beyond => ?_⟩
    rw [List.getElem?_eq_none (by rw [size]; exact Nat.le_sub_one_of_lt beyond)] at h
    cases h

/-- 03 R53: after `k` rounds the stations are known that a chain of less than `k` links leads to an EXIT station. -/
theorem State.rounds_known {s : State} (size : s.table.entries.length = 16) (k : Nat) : ∀ p, s.isPresent p = true →
    ((distAt (Nat.repeat s.distStep k (List.replicate 16 none)) p).isSome = true ↔
      ∃ chain, chain.length < k ∧ s.leads p chain) := by
  induction k with
  | zero =>
    intro p _
    rw [show Nat.repeat s.distStep 0 (List.replicate 16 none) = List.replicate 16 none from rfl, distAt_none]
    simp
  | succ k ih =>
    intro p present
    let ds := Nat.repeat s.distStep k (List.replicate 16 none)
    have step : distAt (Nat.repeat s.distStep (k + 1) (List.replicate 16 none)) p =
        if s.roleIs p .exit then some 0 else (s.successor ds p).map (·.2 + 1) := by
      have repeated : Nat.repeat s.distStep (k + 1) (List.replicate 16 none) = s.distStep ds := rfl
      rw [repeated, State.distStep, distAt_stations _ (State.isPresent_station size present), present]
      rfl
    rw [step]
    by_cases exit : s.roleIs p .exit = true
    · rw [if_pos exit]
      exact ⟨fun _ => ⟨[], Nat.succ_pos k, exit⟩, fun _ => rfl⟩
    · rw [if_neg exit, Option.isSome_map, State.successor_isSome]
      constructor
      · rintro ⟨d, listed, here, known⟩
        obtain ⟨chain, short, leads⟩ := (ih d here).mp known
        exact ⟨d :: chain, Nat.succ_lt_succ short, listed, here, leads⟩
      · rintro ⟨chain, short, leads⟩
        cases chain with
        | nil => exact absurd leads exit
        | cons d chain =>
          obtain ⟨listed, here, leads⟩ := leads
          exact ⟨d, listed, here, (ih d here).mpr ⟨chain, Nat.lt_of_succ_lt_succ short, leads⟩⟩

/-- 03 R53: a present station has a purge path when a chain of at most 15 links leads from it to an EXIT station. -/
theorem State.distances_known {s : State} (size : s.table.entries.length = 16) {p : Pos} (present : s.isPresent p = true) :
    (distAt s.distances p).isNone = true ↔ ∀ chain, chain.length ≤ 15 → ¬ s.leads p chain := by
  have known := State.rounds_known size 16 p present
  rw [← Option.not_isSome, Bool.not_eq_true', Bool.eq_false_iff]
  refine (not_congr known).trans ⟨fun h chain short leads => h ⟨chain, Nat.lt_succ_of_le short, leads⟩, ?_⟩
  rintro h ⟨chain, short, leads⟩
  exact h chain (Nat.le_of_lt_succ short) leads

theorem State.mem_presentList {s : State} {p : Pos} (h : p ∈ s.presentList) : s.isPresent p = true :=
  (List.mem_filter.mp h).2

/-! ### The checks in their order (03 R50) -/

theorem State.validate_congr {s t : State} (h : t.table.entries = s.table.entries) : t.validate = s.validate := by
  have ups : t.ups = s.ups := by
    funext p
    unfold State.ups
    rw [State.presentList_congr h, State.downs_congr h]
  have classes : t.classIs = s.classIs := by
    funext p c
    unfold State.classIs State.summaryOf
    rw [State.entry_congr h]
  have present : t.isPresent = s.isPresent := by
    funext p
    unfold State.isPresent
    rw [State.entry_congr h]
  unfold State.validate
  rw [h, State.presentList_congr h, State.distances_congr h, State.roleIs_congr h, State.downs_congr h, ups, classes, present]

/-- 03 R50: what the frozen table must not hold, as O57 lists it. -/
structure State.TableFaults (w : State) where
  duplicate : w.table.entries.any (·.duplicated) = true ↔ ∃ e ∈ w.table.entries, e.duplicated = true
  missingRole : (!(w.presentList.any (w.roleIs · .feed) && w.presentList.any (w.roleIs · .imaging)
      && w.presentList.any (w.roleIs · .exit))) = true ↔
    ¬ ((∃ p ∈ w.presentList, w.roleIs p .feed = true) ∧ (∃ p ∈ w.presentList, w.roleIs p .imaging = true) ∧
      ∃ p ∈ w.presentList, w.roleIs p .exit = true)
  missingDownstream : (w.presentList.any fun p => (w.downs p).any fun d => !w.isPresent d) = true ↔
    ∃ p ∈ w.presentList, ∃ d ∈ w.downs p, w.isPresent d = false
  upstreamCount : (w.presentList.any fun p => decide (3 < (w.ups p).length)) = true ↔
    ∃ p ∈ w.presentList, 3 < (w.presentList.filter fun q => (w.downs q).contains p).length
  mergeUpstream : (w.presentList.any fun p => w.roleIs p .merge && (w.ups p).any fun q => !w.classIs q .holds) = true ↔
    ∃ p ∈ w.presentList, w.roleIs p .merge = true ∧
      ∃ q ∈ w.presentList, p ∈ w.downs q ∧ w.classIs q .holds = false
  noPurgePath : (w.presentList.any fun p => !w.roleIs p .exit && (distAt w.distances p).isNone) = true ↔
    ∃ p ∈ w.presentList, w.roleIs p .exit = false ∧ ∀ chain, chain.length ≤ 15 → ¬ w.leads p chain
  feedDownstream : (w.presentList.any fun p => w.roleIs p .feed && !(w.ups p).isEmpty) = true ↔
    ∃ p ∈ w.presentList, w.roleIs p .feed = true ∧ ∃ q ∈ w.presentList, p ∈ w.downs q

theorem State.tableFaults {w : State} (size : w.table.entries.length = 16) : w.TableFaults where
  duplicate := by simp
  missingRole := by simp only [Bool.not_eq_true', Bool.and_eq_true, List.any_eq_true, ← Bool.not_eq_true, and_assoc]
  missingDownstream := by simp
  upstreamCount := by simp [State.ups]
  mergeUpstream := by simp [State.ups]
  noPurgePath := by
    simp only [List.any_eq_true, Bool.and_eq_true, Bool.not_eq_true']
    refine exists_congr fun p => and_congr_right fun listed => and_congr_right fun _ => ?_
    exact State.distances_known size (State.mem_presentList listed)
  feedDownstream := by
    simp [State.ups]

end Sys2Proof.Machine
end

section
/-! PROOFS. The timers of the roll call and of presence (O57). -/

namespace Sys2Proof.Machine

/-! ### Time passing on the station table -/

theorem State.elapse_entry (s : State) (n : Nat) (p : Pos) : (s.elapse n).entry p =
    { s.entry p with silence := (s.entry p).silence.pass n (livePath s.path) } := by
  have default : (({} : TableEntry).silence.pass n (livePath s.path)) = .stopped := by
    cases livePath s.path <;> rfl
  unfold State.entry State.elapse State.passTable
  dsimp only
  split
  · rw [default]
  · rw [List.getElem?_map]
    cases s.table.entries[p - 1]? with
    | none => simp only [Option.map_none, Option.getD_none, default]
    | some e => rfl

theorem State.elapse_isPresent (s : State) (n : Nat) (p : Pos) : (s.elapse n).isPresent p = s.isPresent p := by
  rw [State.isPresent, State.elapse_entry]
  rfl

/-! ### The freeze (03 R49) -/

/-- The entry of a position in the frozen table. -/
def freezeEntry (e : TableEntry) : TableEntry := if e.presence == .present then e else { e with presence := .absent }

theorem State.freezeTable_eq (s : State) : s.freezeTable = s.mapEntries fun _ => freezeEntry := rfl

theorem State.freezeTable_isPresent (s : State) (p : Pos) : s.freezeTable.isPresent p = s.isPresent p := by
  refine s.mapEntries_kept (fun _ => freezeEntry) (fun e => e.presence == .present) (fun _ e => ?_) p
  unfold freezeEntry
  split
  · rfl
  · next other => rw [Bool.eq_false_iff.mpr other]; rfl

theorem State.freezeTable_absent {s : State} {p : Pos} (low : 1 ≤ p) (high : p ≤ s.table.entries.length)
    (away : s.isPresent p = false) : s.freezeTable.isAbsent p = true := by
  have away' : ((s.entry p).presence == .present) = false := away
  rw [State.isAbsent, State.freezeTable_eq, s.mapEntries_entry _ p low high, freezeEntry, away']
  rfl

theorem State.freezeTable_size (s : State) : s.freezeTable.table.entries.length = s.table.entries.length := by
  rw [State.freezeTable_eq, State.mapEntries]
  simp

/-! ### RUN from the roll call (03 R54) -/

theorem State.runFromRollCall_runs (s : State) : let t := s.runFromRollCall
    t.recovery = { s.recovery with path := .run, epoch := 0 } ∧
      t.table = { s.loadSilence.table with
        presence := .running 200, rollCall := .stopped, joinDelay := .stopped } := by
  let a : State := { s with
    recovery.path := .run, recovery.epoch := 0, table.presence := .running Config.presenceMs
    table.rollCall := .stopped, table.joinDelay := .stopped, track.attributing := true }
  let u := a.loadSilence.resetFreeCounts.desyncTest.strayTest.trayStrayTest.doorTest.demandAtEntry.trayAtEntry
  have recovery : u.recovery = a.recovery := by simp [u]
  have table : u.table = a.loadSilence.table := by simp [u]
  have away : u.path ≠ .stopping := by
    rw [State.path, recovery]
    nofun
  have done : s.runFromRollCall = u.driveSync.offerTest := rfl
  dsimp only
  rw [done]
  exact ⟨((by simp : _ = u.driveSync.recovery).trans (State.driveSync_recovery away)).trans recovery,
    (by simp : _ = u.table).trans table⟩

/-- 03 R56: the silence timers at RUN entry. -/
theorem State.runFromRollCall_entry {s : State} {p : Pos} (low : 1 ≤ p) (high : p ≤ s.table.entries.length) :
    s.runFromRollCall.entry p = if (s.entry p).presence == .present && p != s.own then
      { s.entry p with silence := .running 600 } else s.entry p := by
  obtain ⟨-, table⟩ := s.runFromRollCall_runs
  rw [State.entry_congr (s := s.loadSilence) (by rw [table])]
  exact s.loadSilence_entry low high

/-! ### The close of the roll call (03 R49, R50) -/

theorem State.emptyTable_entry {s : State} (h : s.table.entries = List.replicate 16 {}) (p : Pos) : s.entry p = {} := by
  unfold State.entry
  split
  · rfl
  · rw [h, List.getElem?_replicate]
    split <;> rfl

/-- Settles O57. -/
theorem rollCallTimers : Obligations.RollCallTimers := by
  unfold Obligations.RollCallTimers
  refine ⟨fun w shape => ?_, fun s r shape => ?_⟩
  · obtain ⟨-, -, -, -, -, size, -⟩ := shape
    have faults := State.tableFaults (w := w) size
    intro duplicate missingRole missingDownstream upstreamCount mergeUpstream noPurgePath feedDownstream
    unfold State.validate
    dsimp only
    refine ⟨fun h1 => ?_, fun n1 h2 => ?_, fun n1 n2 h3 => ?_, fun n1 n2 n3 => ⟨fun h4 => ?_, fun n4 h5 => ?_, fun n4 n5 h6 => ?_,
      fun n4 n5 n6 => ⟨fun h7 => ?_, fun n7 => ?_⟩⟩⟩
    · rw [if_pos (faults.duplicate.mpr h1)]
    all_goals rw [if_neg (mt faults.duplicate.mp n1)]
    · rw [if_pos (faults.missingRole.mpr h2)]
    all_goals rw [if_neg (mt faults.missingRole.mp n2)]
    · rw [if_pos (faults.missingDownstream.mpr h3)]
    all_goals rw [if_neg (mt faults.missingDownstream.mp n3)]
    · rw [if_pos (faults.upstreamCount.mpr h4)]
    all_goals rw [if_neg (mt faults.upstreamCount.mp n4)]
    · rw [if_pos (faults.mergeUpstream.mpr h5)]
    all_goals rw [if_neg (mt faults.mergeUpstream.mp n5)]
    · rw [if_pos (faults.noPurgePath.mpr h6)]
    all_goals rw [if_neg (mt faults.noPurgePath.mp n6)]
    · rw [if_pos (faults.feedDownstream.mpr h7)]
    · rw [if_neg (mt faults.feedDownstream.mp n7)]
  · obtain ⟨-, -, -, -, -, size, -⟩ := shape
    let u := s.elapse r
    have sizeU : u.table.entries.length = 16 := by simpa [u, State.elapse, State.passTable] using size
    refine ⟨fun due => ?_, fun due room => ?_, fun due => ?_, fun due => ⟨fun empty slot => ?_, fun busy => ?_⟩,
      fun p low high other present due claim => ?_⟩
    · exact congrArg Host.Outcome.next (s.expire_runs _ _ r _ due)
    · let v : State := { u with table.joinDelay := .expired }
      refine congrArg Host.Outcome.next ((s.expire_runs _ _ r _ due).trans ?_)
      exact v.queueFrame_room v.joinFrame room
    · let v : State := { u with table.rollCall := .expired }
      let z := v.freezeTable
      have closes : exec .rollCallClose s = .next (u.closeRollCall) :=
        congrArg Host.Outcome.next (s.expire_runs _ _ r _ due)
      have present (p : Pos) : z.isPresent p = s.isPresent p :=
        (v.freezeTable_isPresent p).trans (s.elapse_isPresent r p)
      have own : z.own = s.own := rfl
      have unfolded : u.closeRollCall = if !z.isPresent z.own then z.backToListen else
        match z.validate with
        | some reason => z.enterUnfit reason
        | none => z.rebuildMap.runFromRollCall := rfl
      have validate : z.validate = u.freezeTable.validate := State.validate_congr rfl
      rw [own, present, validate] at unfolded
      let m := z.rebuildMap
      obtain ⟨recovery, table⟩ := m.runFromRollCall_runs
      refine ⟨fun away => ⟨z.backToListen, closes.trans (congrArg _ ?_), rfl, rfl, fun p => State.emptyTable_entry rfl p, rfl⟩,
        fun reason here unfit => ⟨z.enterUnfit reason, closes.trans (congrArg _ ?_), rfl, rfl, rfl, rfl, rfl, rfl, rfl⟩,
        fun here fit => ⟨m.runFromRollCall, closes.trans (congrArg _ ?_), ?_, ?_, ?_, fun p low high => ?_, ?_, ?_, ?_, ?_⟩⟩
      · rw [unfolded, away]; rfl
      · rw [unfolded, here, unfit]; rfl
      · rw [unfolded, here, fit]; rfl
      · rw [recovery]
      · rw [recovery]
      · rw [table]
      · have sizeM : m.table.entries.length = 16 := (v.freezeTable_size).trans sizeU
        have entry := State.runFromRollCall_entry (s := m) low (sizeM.symm ▸ high)
        have entryM : m.entry p = z.entry p := rfl
        rw [entryM] at entry
        have presence : (m.runFromRollCall.entry p).presence = (z.entry p).presence := by
          rw [entry]
          split <;> rfl
        refine ⟨?_, fun away => ?_, fun present' other => ?_⟩
        · rw [State.isPresent, presence]
          exact present p
        · rw [State.isAbsent, presence]
          exact State.freezeTable_absent low (sizeU.symm ▸ high) ((s.elapse_isPresent r p).trans away)
        · have here' : ((z.entry p).presence == .present) = true := (present p).trans present'
          rw [entry, here']
          exact congrArg TableEntry.silence (if_pos (by simpa using show p ≠ m.own from other))
      · simp [m, z, v, u, State.elapse]
      · simp [m, z, v, u]
      · simp [m, z, v, u]
      · simp [m, z, v, u, State.elapse]
    · let v : State := { u with table.presence := .expired }
      have queue : v.link.queue = [] := empty
      have free : (v.link.queue.isEmpty && v.link.slot.isNone) = true := by
        have slot' : v.link.slot = none := slot
        rw [queue, slot']
        rfl
      refine congrArg Host.Outcome.next ((s.expire_runs _ _ r _ due).trans ((if_pos free).trans ?_))
      rw [v.queueFrame_room _ (v.txRoom_iff.mpr (by rw [queue]; decide)), State.pushTx, queue]
      rfl
    · refine congrArg Host.Outcome.next ((s.expire_runs _ _ r _ due).trans (if_neg ?_))
      intro free
      obtain ⟨empty, slot⟩ := Bool.and_eq_true_iff.mp free
      rcases busy with h | h
      · exact h (List.isEmpty_iff.mp empty)
      · exact h (Option.isNone_iff_eq_none.mp slot)
    · obtain ⟨silence, runs⟩ := due
      let change : TableEntry → TableEntry := fun e => { e with silence := .expired }
      let v := u.setEntry p change
      let t := v.detect .peerLost 0 (some (BitVec.ofNat 16 p))
      have done : exec (.silenceTimerExpiry p) s = .next t := by
        refine congrArg Host.Outcome.next (s.expire_runs _ _ r _ ⟨silence, ?_⟩)
        simp [runs, present, other]
      have entry : t.entry = v.entry := State.entry_congr (by simp [t])
      refine ⟨t, done, v.detect_jamQueued _ _ _ claim, ?_, fun q apart => ?_, ?_, ?_⟩
      · rw [entry, u.setEntry_same p change low (sizeU.symm ▸ high)]
      · rw [entry, u.setEntry_other p q change apart]
      · simp [t, v, u, State.elapse]
      · rw [(by simp [t] : t.table.entries = v.table.entries)]
        exact v.detect_link .peerLost 0 (some (BitVec.ofNat 16 p))

end Sys2Proof.Machine
end

section
/-! PROOFS. The timers of the drive, the stop and the survey (O58). -/

namespace Sys2Proof.Machine

/-! ### The drive with the line held low by a claim (04 R62..R64, 08 R129) -/

theorem State.Adds.pulling {s t : State} (adds : s.Adds t) (h : s.pulling = true) : t.pulling = true := by
  simp only [State.pulling, Bool.or_eq_true, List.any_eq_true] at h ⊢
  rcases h with slot | ⟨f, mem, jam⟩
  · obtain ⟨f, hf⟩ := Option.isSome_iff_exists.mp slot
    exact .inl (by simp [adds.slot f hf])
  · exact .inr ⟨f, adds.queue.subset mem, jam⟩

theorem State.low_of_pulling {s : State} (h : s.pulling = true) : s.lineIsLow = true := by simp [State.lineIsLow, h]

/-- 08 R129: OFF opens no survey while the line is low. -/
theorem State.driveOff_low {s : State} (h : s.pulling = true) :
    s.driveOff.spinTest = s.driveOff ∧ s.driveOff.recovery = s.recovery := by
  let t : State := { s with drive.state := .off, drive.halt := .stopped }
  have off : s.driveOff = t.reevaluate :=
    State.surveyTest_low (State.low_of_pulling ((State.Adds.reevaluate t).pulling h))
  have low : s.driveOff.lineIsLow = true := State.low_of_pulling ((State.Adds.driveOff s).pulling h)
  exact ⟨State.spinTest_low low, by rw [off]; simp [t]⟩

theorem State.driveHalt_recovery_low {s : State} (h : s.pulling = true) : s.driveHalt.recovery = s.recovery := by
  let t := s.endPick
  let u : State := { t with
    drive.state := .halting, drive.spin := .stopped, drive.fresh := false, drive.halt := .running Config.haltMs }
  have kept : u.reevaluate.recovery = s.recovery := by simp [u, t]
  have low : u.reevaluate.pulling = true := ((State.Adds.reevaluate u).from (by simp [u, t] : u.link = s.link)).pulling h
  have done : s.driveHalt = if s.reads .drdy then u.reevaluate else u.reevaluate.driveOff.spinTest := rfl
  rw [done]
  split
  · exact kept
  · obtain ⟨still, recovery⟩ := State.driveOff_low low
    rw [still, recovery, kept]

/-- 04 R62, R64: with the line held low the drive halts and does not spin again. -/
theorem State.driveHalt_stops {s : State} (h : s.pulling = true) : s.driveHalt.den = false ∧ s.driveHalt.drive.spin = .stopped := by
  cases drdy : s.reads .drdy with
  | true =>
    obtain ⟨state, spin, -⟩ := State.driveHalt_drdy drdy
    exact ⟨State.den_off (by simp [state]) (by simp [state]), spin⟩
  | false =>
    obtain ⟨state, spin, -⟩ := State.driveHalt_low drdy h
    exact ⟨State.den_off (by simp [state]) (by simp [state]), spin⟩

/-! ### The first frame of the report (08 R130) -/

theorem markLast_ne_nil {α : Type} : ∀ {xs : List α}, xs ≠ [] → markLast xs ≠ []
  | [_], _ => List.cons_ne_nil _ _
  | _ :: _ :: _, _ => List.cons_ne_nil _ _

/-- 08 R131: the report ends with a HOLDING, whatever the segment holds. -/
theorem State.report_ne_nil (s : State) : s.report ≠ [] := by
  have frames (n : Nat) : s.holdingFrames n ≠ [] := by
    unfold State.holdingFrames
    rw [ne_eq, List.map_eq_nil_iff]
    refine markLast_ne_nil ?_
    split
    · exact List.cons_ne_nil _ _
    · next some => simpa using some
  unfold State.report
  exact List.append_ne_nil_of_right_ne_nil _ (frames _)

theorem State.openSurvey_reports {s : State} (room : s.txRoom = true) :
    ∃ f ∈ s.openSurvey.link.queue, f.tag = .report ∧ f.epoch = s.recovery.epoch := by
  let a := s.mapQueue fun e => { e with release := false, deferred := false }
  let u : State := { a with
    track.expected := [], track.pickCandidate := none
    recovery.path := .survey, recovery.claim := .stopped, recovery.lineHeld := .stopped
    recovery.survey := .running (Config.surveyMs + Config.surveyRankMs * s.rank s.own) }
  have done : s.openSurvey = u.sendReport u.report := rfl
  cases frames : u.report with
  | nil => exact absurd frames u.report_ne_nil
  | cons p more =>
    rw [done, frames, State.sendReport_next (s := u) room]
    exact ⟨u.newFrame .report (u.stamped p), List.mem_append_right _ List.mem_cons_self, rfl, rfl⟩

/-! ### The survey opens at the end of a timer (08 R129) -/

theorem State.elapse_rank (s : State) (n : Nat) (p : Pos) : (s.elapse n).rank p = s.rank p := by
  have present : (s.elapse n).presentList = s.presentList := by
    unfold State.presentList
    congr 1
    funext q
    exact s.elapse_isPresent n q
  rw [State.rank, State.rank, present]

/-- Settles O58. -/
theorem driveAndStopTimers : Obligations.DriveAndStopTimers := by
  unfold Obligations.DriveAndStopTimers
  intro s r u
  refine ⟨fun due claim => ?_, fun due claim => ?_, fun due => ⟨fun path released drive => ?_, fun waits => ?_⟩,
    fun due => ⟨fun path => ?_, fun away => ?_⟩, fun due => ⟨fun stage epoch fresh room => ?_, fun stays => ?_⟩⟩
  · let v := u.detectDrive
    have jam : v.jamQueued .drive 0 none := (State.Adds.of rfl).detected claim
    have pulling := State.pulling_of_jamQueued jam
    have done : exec .spinTimerExpiry s = .next v.driveHalt := congrArg Host.Outcome.next (s.expire_runs _ _ r _ due)
    have recovery := State.driveHalt_recovery_low pulling
    obtain ⟨den, spin⟩ := State.driveHalt_stops pulling
    have reads : v.reads .drdy = u.reads .drdy := by simp [v, State.reads]
    refine ⟨v.driveHalt, done, (State.Adds.driveHalt v).jamQueued jam, by rw [recovery]; rfl, den, spin,
      fun high => ?_, fun low => ?_, ?_, ?_, ?_, ?_, ?_⟩
    · obtain ⟨state, -, halt⟩ := State.driveHalt_drdy (reads.trans high)
      exact ⟨state, halt⟩
    · obtain ⟨state, -, halt⟩ := State.driveHalt_low (reads.trans low) pulling
      exact ⟨state, halt⟩
    · rw [recovery]; simp [v, u, State.elapse, State.passRecovery]
    all_goals simp [v, u, State.elapse]
  · let v := u.detectDrive
    have jam : v.jamQueued .drive 0 none := (State.Adds.of rfl).detected claim
    have pulling := State.pulling_of_jamQueued jam
    obtain ⟨still, recovery⟩ := State.driveOff_low pulling
    have done : exec .haltTimerExpiry s = .next v.driveOff :=
      congrArg Host.Outcome.next ((s.expire_runs _ _ r _ due).trans still)
    obtain ⟨state, halt⟩ := v.driveOff_drive
    refine ⟨v.driveOff, done, (State.Adds.driveOff v).jamQueued jam, by rw [recovery]; rfl, state, halt, ?_, ?_, ?_, ?_, ?_⟩
    · rw [recovery]; simp [v, u, State.elapse, State.passRecovery]
    all_goals simp [v, u, State.elapse]
  · let v : State := { u with recovery.claim := .expired }
    have opens : v.surveyTest = v.openSurvey := State.surveyTest_opens path drive released rfl
    have done : exec .claimWindowExpiry s = .next v.openSurvey :=
      congrArg Host.Outcome.next ((s.expire_runs _ _ r _ due).trans opens)
    obtain ⟨path', timer, expected, candidate⟩ := State.openSurvey_opens (s := v) (t := v) rfl rfl
    have rank : v.rank v.own = s.rank s.own := s.elapse_rank r s.own
    refine ⟨v.openSurvey, done, path', rank ▸ timer, expected, candidate, fun room => State.openSurvey_reports (s := v) room,
      ?_, ?_, ?_, ?_⟩
    all_goals simp [v, u, State.elapse, State.passRecovery]
  · let v : State := { u with recovery.claim := .expired }
    refine congrArg Host.Outcome.next ((s.expire_runs _ _ r _ due).trans (if_neg ?_ : v.surveyTest = v))
    intro h
    simp only [Bool.and_eq_true, Bool.or_eq_true, beq_iff_eq, Bool.not_eq_true'] at h
    obtain ⟨⟨⟨path, drive⟩, released⟩, -⟩ := h
    rcases waits with away | low | ⟨on, noJam⟩
    · exact away path
    · exact absurd (low.symm.trans released) nofun
    · rcases drive with off | jam
      · exact on off
      · exact absurd (jam.symm.trans noJam) nofun
  · let v : State := { u with recovery.lineHeld := .expired }
    have done : exec .lineHeldTimerExpiry s = .next v.openSurvey :=
      congrArg Host.Outcome.next ((s.expire_runs _ _ r _ due).trans (if_pos (beq_iff_eq.mpr path)))
    obtain ⟨path', timer, expected, candidate⟩ := State.openSurvey_opens (s := v) (t := v) rfl rfl
    have rank : v.rank v.own = s.rank s.own := s.elapse_rank r s.own
    refine ⟨v.openSurvey, done, path', rank ▸ timer, expected, candidate, ?_, ?_, ?_, ?_⟩
    all_goals simp [v, u, State.elapse, State.passRecovery]
  · exact congrArg Host.Outcome.next ((s.expire_runs _ _ r _ due).trans (if_neg (mt beq_iff_eq.mp away)))
  · let v : State := { u with recovery.survey := .expired }
    have closes : (v.roster.stage == .open && v.roster.epoch == v.recovery.epoch && !v.recovery.restarted) = true := by
      simp only [Bool.and_eq_true, beq_iff_eq, Bool.not_eq_true']
      exact ⟨⟨stage, epoch⟩, fresh⟩
    refine congrArg Host.Outcome.next ((s.expire_runs _ _ r _ ?_).trans ((if_pos closes).trans (v.queueFrame_room _ room)))
    exact due
  · let v : State := { u with recovery.survey := .expired }
    refine congrArg Host.Outcome.next ((s.expire_runs _ _ r _ due).trans (if_neg ?_))
    intro closes
    simp only [Bool.and_eq_true, beq_iff_eq, Bool.not_eq_true'] at closes
    obtain ⟨⟨stage, epoch⟩, fresh⟩ := closes
    rcases stays with h | h | h
    · exact h stage
    · exact h epoch
    · exact absurd (h.symm.trans fresh) nofun

end Sys2Proof.Machine
end

section
/-! PROOFS. The timers of sheets, offers, picks and finishers (O59). -/

namespace Sys2Proof.Machine

/-! ### Time passing on offers, entries and bins -/

theorem State.elapse_offerTo (s : State) (n : Nat) (dest : Pos) : (s.elapse n).offerTo dest =
    (s.offerTo dest).map fun o => { o with answer := o.answer.pass n s.offersRun, reoffer := o.reoffer.pass n s.offersRun } := by
  unfold State.offerTo State.elapse State.passHandoff
  dsimp only
  rw [List.find?_map]
  rfl

theorem State.elapse_occupant (s : State) (n : Nat) (x : Serial) :
    (s.elapse n).occupant x = (s.occupant x).map (s.passEntry n) := by
  unfold State.occupant State.elapse State.passTrack
  dsimp only
  rw [List.find?_map]
  rfl

theorem State.elapse_bin (s : State) (n k : Nat) :
    (s.elapse n).bin k = { s.bin k with finish := (s.bin k).finish.pass n (movingPath s.path) } := by
  have default : (({} : Bin).finish.pass n (movingPath s.path)) = .stopped := by
    cases movingPath s.path <;> rfl
  unfold State.bin State.elapse State.passExit
  dsimp only
  split
  · rw [default]
  · rw [List.getElem?_map]
    cases s.exit.bins[k - 1]? with
    | none => simp only [Option.map_none, Option.getD_none, default]
    | some b => rfl

/-! ### Jams of the pace (05 R86) -/

theorem State.setOccupant_eq (s : State) (x : Serial) (f : Entry → Entry) : s.setOccupant x f =
    { s with track.queue := s.track.queue.map fun e => if e.serial = x then f e else e } := by
  simp [State.setOccupant, State.mapQueue]

theorem State.paceJam_eq (s : State) (k : JamKind) (e : Entry) :
    s.paceJam k e = if s.isHolds = false ∧ e.deferred = true then .blocked else k := by
  simp [State.paceJam]

/-! ### A re-offer that falls due (06 R99) -/

theorem State.offerTest_offerTo_isSome (s : State) (dest : Pos) : (s.offerTest.offerTo dest).isSome = (s.offerTo dest).isSome := by
  rcases s.offerTest_cases with ⟨-, handoff, -⟩ | ⟨o, e, post, offers⟩
  · rw [State.offerTo, handoff]
    rfl
  · rw [offers.made]
    cases room : s.txRoom with
    | false =>
      rw [State.offerTo, State.makeOffer_full s o _ room]
      rfl
    | true =>
      by_cases same : o.dest = dest
      · have set := State.offerTo_setOffer s o.dest (fun q : OfferRecord => { q with
          state := .awaiting, offered := s.offerSerials o (e :: post), answer := .stopped, reoffer := .stopped
          retryMet := false }) fun _ => rfl
        rw [State.offerTo, State.makeOffer_offers s o _ room, ← same]
        exact (congrArg Option.isSome set).trans (by simp)
      · rw [State.makeOffer_otherOffer s o _ same]

/-- 06 R99, log 63: a record in RETRY whose re-offer condition is met, after the test for an offer. -/
theorem State.offerTest_retry {s : State} {dest : Pos} {o : OfferRecord} (found : s.offerTo dest = some o)
    (retry : o.state = .retry) (met : o.retryMet = true) : ∃ q, s.offerTest.offerTo dest = some q ∧
      (q.state = .retry ∧ q.retryMet = true ∨
        q.state = .awaiting ∧ ∃ x w sp, q.offered = [x] ∧ s.offerTest.queued s.recovery.epoch (.offer dest [x] w sp)) := by
  have known : (s.offerTest.offerTo dest).isSome = true := by rw [State.offerTest_offerTo_isSome, found]; rfl
  obtain ⟨q, hq⟩ := Option.isSome_iff_exists.mp known
  refine ⟨q, hq, ?_⟩
  rcases State.offerTest_offerTo hq with before | ⟨d, e, post, offers, same, -, rfl, w, sp, queued⟩
  · obtain rfl := Option.some.inj (found.symm.trans before)
    exact .inl ⟨retry, met⟩
  · have record := offers.record
    rw [same, found] at record
    obtain rfl := Option.some.inj record
    have single := State.offerSerials_retry (post := post) retry offers.first
    refine .inr ⟨rfl, e.serial, w, sp, single, ?_⟩
    rw [← single]
    exact queued

/-! ### The pick timer (05 R88) -/

/-- 07 R114: the pick conditions tested while no pick is under way. -/
theorem State.pickTest_issues (s : State) : s.pickTest = s ∨ ∃ x, s.pickTest = { s with
    feed.pick := .picking, feed.pickOut := true, feed.retries := s.prof.pickRetries
    track.pickCandidate := some x, track.pickTimer := .running s.prof.pickAllowance } := by
  unfold State.pickTest
  split
  · exact .inl rfl
  · next x _ => exact .inr ⟨x, rfl⟩

/-- Settles O59. -/
theorem sheetTimers : Obligations.SheetTimers := by
  unfold Obligations.SheetTimers
  intro s r shape u
  refine ⟨fun dest o found due claim => ?_, fun dest o found due retry => ?_, fun x i found due claim => ?_,
    fun x e found due claim => ?_, fun x e found due claim => ?_, fun due => ⟨fun left => ?_, fun last claim => ?_⟩,
    fun n low high due claim => ?_, fun runs => ?_⟩
  · let v := u.setOffer dest fun o => { o with answer := .expired }
    have due' : (s.answerTimer dest).runsOutIn s.offersRun r := by
      rw [State.answerTimer, found]
      exact due
    have done : exec (.answerTimerExpiry dest) s = .next (v.detect .noAnswer 0 none) :=
      congrArg Host.Outcome.next (s.expire_runs _ _ r _ due')
    refine ⟨_, done, v.detect_jamQueued _ _ _ claim, by simp [v, u, State.setOffer, State.elapse], ?_⟩
    rw [v.detect_link]
    simp [v, State.setOffer]
  · let change : OfferRecord → OfferRecord := fun o => { o with reoffer := .expired, retryMet := true }
    let v := u.setOffer dest change
    have due' : (s.reofferTimer dest).runsOutIn s.offersRun r := by
      rw [State.reofferTimer, found]
      exact due
    have done : exec (.reOfferTimerExpiry dest) s = .next v.offerTest :=
      congrArg Host.Outcome.next (s.expire_runs _ _ r _ due')
    have set : v.offerTo dest = (u.offerTo dest).map change := u.offerTo_setOffer dest change fun _ => rfl
    rw [State.elapse_offerTo, found, Option.map_some, Option.map_some] at set
    obtain ⟨q, hq, stands⟩ := State.offerTest_retry set retry rfl
    exact ⟨v.offerTest, q, done, hq, stands, v.offerTest_motion, by simp [v, State.setOffer], by simp [v, u, State.setOffer, State.elapse],
      by simp [v, State.setOffer], by simp [v, u, State.setOffer, State.elapse], by simp [v, State.setOffer, u, State.elapse], by simp [v, State.setOffer]⟩
  · let v : State := { u with
      track.expected := u.track.expected.map fun j => if j.serial == x then { j with timer := .expired } else j }
    have due' : Timer.runsOutIn (((s.item x).map ExpItem.timer).getD .stopped) (s.paced x) r := by
      rw [found]
      exact due
    have done : exec (.arrivalTimerExpiry x) s = .next (v.detect .late 0 (some x)) :=
      congrArg Host.Outcome.next (s.expire_runs _ _ r _ due')
    refine ⟨_, done, v.detect_jamQueued _ _ _ claim, by simp [v, u, State.elapse], ?_⟩
    rw [v.detect_link]
    simp [v]
  · let v := u.setOccupant x fun f => { f with lead := .expired }
    have due' : Timer.runsOutIn (((s.occupant x).map Entry.lead).getD .stopped) (s.entryRuns x) r := by
      rw [found]
      exact due
    have occupant : u.occupant x = some (s.passEntry r e) := by rw [State.elapse_occupant, found]; rfl
    have jam : u.leadJam x = v.detect (u.paceJam .late (s.passEntry r e)) e.leadZone (some x) := by
      rw [State.leadJam, occupant]
      rfl
    have kind : u.paceJam .late (s.passEntry r e) = if s.isHolds = false ∧ e.deferred = true then .blocked else .late :=
      u.paceJam_eq .late (s.passEntry r e)
    have done : exec (.leadTimerExpiry x) s = .next (u.leadJam x) := congrArg Host.Outcome.next (s.expire_runs _ _ r _ due')
    rw [jam, kind] at done
    refine ⟨_, done, v.detect_jamQueued _ _ _ claim, by simp [v, u, State.setOccupant, State.elapse], ?_⟩
    rw [v.detect_link]
    simp [v, State.setOccupant_eq]
  · let v := u.setOccupant x fun f => { f with trail := .expired }
    have due' : Timer.runsOutIn (((s.occupant x).map Entry.trail).getD .stopped) (s.entryRuns x) r := by
      rw [found]
      exact due
    have occupant : u.occupant x = some (s.passEntry r e) := by rw [State.elapse_occupant, found]; rfl
    have jam : u.trailJam x = v.detect (u.paceJam .stall (s.passEntry r e)) e.trailSensor (some x) := by
      rw [State.trailJam, occupant]
      rfl
    have kind : u.paceJam .stall (s.passEntry r e) = if s.isHolds = false ∧ e.deferred = true then .blocked else .stall :=
      u.paceJam_eq .stall (s.passEntry r e)
    have done : exec (.trailTimerExpiry x) s = .next (u.trailJam x) := congrArg Host.Outcome.next (s.expire_runs _ _ r _ due')
    rw [jam, kind] at done
    refine ⟨_, done, v.detect_jamQueued _ _ _ claim, by simp [v, u, State.setOccupant, State.elapse], ?_⟩
    rw [v.detect_link]
    simp [v, State.setOccupant_eq]
  · exact congrArg Host.Outcome.next ((s.expire_runs _ _ r _ due).trans (if_pos left))
  · let j := u.detect .misfeed 0 s.track.pickCandidate
    let v : State := { j.endPick with track.pickCandidate := none }
    have spent : ¬ 0 < u.feed.retries := by
      rw [show u.feed.retries = 0 from last]
      decide
    have done : exec .pickTimerExpiry s = .next v.pickTest :=
      congrArg Host.Outcome.next ((s.expire_runs _ _ r _ due).trans (if_neg spent))
    have jam : j.jamQueued .misfeed 0 s.track.pickCandidate := u.detect_jamQueued _ _ _ claim
    refine ⟨v.pickTest, done, (State.Adds.pickTest v).jamQueued jam, ?_, ?_, ?_, ?_⟩
    · rcases v.pickTest_issues with same | ⟨x, issued⟩
      · rw [same]
        exact .inl ⟨rfl, rfl, rfl, rfl⟩
      · rw [issued]
        exact .inr ⟨rfl, by simp [v, j, u, State.prof, State.elapse], rfl⟩
    · simp [v, j]
    · simp [v, j, u, State.elapse]
    · exact State.eq_of_blocks (by simp [v, j])
  · let v := (u.setBin n Bin.timeout).detect .finish n none
    have done : exec (.finishTimerExpiry n) s = .next v.reevaluate := congrArg Host.Outcome.next (s.expire_runs _ _ r _ due)
    have bins : n ≤ u.exit.bins.length := by
      obtain ⟨-, -, -, -, bins, -⟩ := shape
      simpa [u, State.elapse, State.passExit, bins] using high
    have bin (m : Nat) : v.reevaluate.bin m = (u.setBin n Bin.timeout).bin m := State.bin_congr (by simp [v]) m
    have changed : v.reevaluate.bin n = (u.bin n).timeout := (bin n).trans (u.bin_setBin _ low bins)
    have passed := s.elapse_bin r n
    refine ⟨v.reevaluate, done, (State.Adds.reevaluate v).jamQueued ((u.setBin n Bin.timeout).detect_jamQueued _ _ _ claim),
      fun finishing => ?_, fun ejecting => ?_, fun m _ other => (bin m).trans (u.bin_setBin_ne _ other), ?_, ?_, ?_, ?_, ?_, ?_⟩
    · rw [changed, passed]
      simp [Bin.timeout, finishing]
    · rw [changed, passed]
      simp [Bin.timeout, ejecting]
    all_goals simp [v, u, State.setBin, State.elapse, State.passExit]
  · exact ⟨_, congrArg Host.Outcome.next (s.expire_runs _ _ r _ ⟨runs, rfl⟩), rfl, rfl⟩

end Sys2Proof.Machine
end

section
/-! PROOFS. Modular order, and the lists of the reprint computation (for O60). -/

namespace Sys2Proof.Machine

/-! ### Modular order (01 R1, 09 R150) -/

/-- 01 R1: two serials are not each at or after the other, unless they are one. -/
theorem atOrAfter_antisymm {a b : BitVec 16} (h : atOrAfter a b = true) (k : atOrAfter b a = true) : a = b := by
  refine Decidable.byContradiction fun apart => ?_
  have far : (b - a).toNat + (a - b).toNat = 65536 := by
    have : a.toNat ≠ b.toNat := fun same => apart (BitVec.eq_of_toNat_eq same)
    rw [BitVec.toNat_sub, BitVec.toNat_sub]
    omega
  simp only [atOrAfter, precedes, Bool.or_eq_true, beq_iff_eq, Bool.and_eq_true, decide_eq_true_eq, apart, Ne.symm apart,
    false_or] at h k
  omega

theorem atOrAfter_iff (h x : BitVec 16) : atOrAfter h x = true ↔ x = h ∨ precedes h x = true := by
  simp [atOrAfter]

/-- The serial that every other of the list equals or follows. -/
def FirstOf (xs : List Serial) (x : Serial) : Prop := x ∈ xs ∧ ∀ y ∈ xs, atOrAfter x y = true

theorem firstOf_eq {xs : List Serial} {x : Serial} (h : FirstOf xs x) : firstOf xs = some x := by
  obtain ⟨listed, first⟩ := h
  unfold firstOf
  cases found : xs.find? fun f => xs.all fun y => atOrAfter f y with
  | none =>
    have := List.find?_eq_none.mp found x listed
    exact absurd (List.all_eq_true.mpr first) (by simpa using this)
  | some f =>
    have every : ∀ y ∈ xs, atOrAfter f y = true := by simpa using List.find?_some found
    rw [atOrAfter_antisymm (every x listed) (first f (List.mem_of_find?_eq_some found))]

theorem orderKey_first {xs : List Serial} {x : Serial} (h : FirstOf xs x) (y : Serial) : orderKey xs y = (y - x).toNat := by
  rw [orderKey, firstOf_eq h]

/-! ### Sorting by a key -/

theorem insertByKey_sorted {α : Type} (key : α → Nat) (a : α) : ∀ {xs : List α}, xs.Pairwise (fun b c => key b ≤ key c) →
    (insertByKey key a xs).Pairwise fun b c => key b ≤ key c
  | [], _ => List.pairwise_singleton _ _
  | b :: bs, sorted => by
    unfold insertByKey
    obtain ⟨least, sorted'⟩ := List.pairwise_cons.mp sorted
    split
    · next small =>
      refine List.pairwise_cons.mpr ⟨fun c hc => ?_, sorted⟩
      rcases List.mem_cons.mp hc with rfl | later
      · exact small
      · exact Nat.le_trans small (least c later)
    · next large =>
      refine List.pairwise_cons.mpr ⟨fun c hc => ?_, insertByKey_sorted key a sorted'⟩
      rcases List.mem_cons.mp ((insertByKey_perm key a bs).mem_iff.mp hc) with rfl | later
      · exact Nat.le_of_not_le large
      · exact least c later

theorem sortByKey_sorted {α : Type} (key : α → Nat) : ∀ xs : List α, (sortByKey key xs).Pairwise fun b c => key b ≤ key c
  | [] => List.Pairwise.nil
  | a :: as => insertByKey_sorted key a (sortByKey_sorted key as)

/-- 09 R147: the earliest serial of a list. -/
theorem earliest_eq {xs : List Serial} {x : Serial} (h : FirstOf xs x) : earliest xs = some x := by
  have sorted := sortByKey_sorted (fun a => orderKey (xs.map id) (id a)) xs
  have listed : x ∈ sortBySerial id xs := (sortBySerial_perm id xs).mem_iff.mpr h.1
  unfold earliest
  unfold sortBySerial at listed ⊢
  cases list : sortByKey (fun a => orderKey (xs.map id) (id a)) xs with
  | nil => rw [list] at listed; cases listed
  | cons y ys =>
    rw [list] at listed sorted
    have least : orderKey xs y ≤ orderKey xs x := by
      rcases List.mem_cons.mp listed with rfl | later
      · exact Nat.le_refl _
      · simpa using (List.pairwise_cons.mp sorted).1 x later
    rw [orderKey_first h, orderKey_first h, BitVec.sub_self] at least
    have zero : y - x = 0#16 := BitVec.eq_of_toNat_eq (Nat.le_zero.mp least)
    have same : y = x := by rw [← BitVec.sub_add_cancel y x, zero, BitVec.zero_add]
    rw [same]
    rfl

theorem earliest_none {xs : List Serial} (h : earliest xs = none) : xs = [] := by
  unfold earliest at h
  have empty := List.head?_eq_none_iff.mp h
  have perm := sortBySerial_perm id xs
  rw [empty] at perm
  exact perm.symm.eq_nil

theorem earliest_mem {xs : List Serial} {x : Serial} (h : earliest xs = some x) : x ∈ xs :=
  (sortBySerial_perm id xs).mem_iff.mp (List.mem_of_head? h)

/-- 09 R150: a list of different serials in modular order from the first. -/
theorem sortBySerial_strict {α : Type} (serial : α → Serial) {xs : List α} (nodup : (xs.map serial).Nodup) {x : Serial}
    (h : FirstOf (xs.map serial) x) :
    (sortBySerial serial xs).Pairwise fun a b => (serial a - x).toNat < (serial b - x).toNat := by
  have sorted := sortByKey_sorted (fun a => orderKey (xs.map serial) (serial a)) xs
  have apart : (sortBySerial serial xs).Pairwise fun a b => serial a ≠ serial b :=
    List.pairwise_map.mp ((((sortBySerial_perm serial xs).map serial).nodup_iff).mpr nodup)
  refine (List.Pairwise.and sorted apart).imp fun {a b} => ?_
  rintro ⟨le, other⟩
  rw [orderKey_first h, orderKey_first h] at le
  refine Nat.lt_of_le_of_ne le fun same => other ?_
  have diff : serial a - x = serial b - x := BitVec.eq_of_toNat_eq same
  calc serial a = serial a - x + x := (BitVec.sub_add_cancel _ _).symm
    _ = serial b - x + x := by rw [diff]
    _ = serial b := BitVec.sub_add_cancel _ _

/-! ### One item for each serial (09 R150, log 55) -/

/-- Log 55: of several items of one serial one of the first part stands. -/
theorem onePerSerial_stands : ∀ (xs ys : List PlanEntryFields), ∀ e ∈ xs,
    ∃ f ∈ xs, f.replaced = e.replaced ∧ f ∈ onePerSerial (xs ++ ys)
  | a :: as, ys, e, h => by
    rcases List.mem_cons.mp h with rfl | later
    · exact ⟨e, List.mem_cons_self, rfl, List.mem_cons_self⟩
    · obtain ⟨f, hf, same, stands⟩ := onePerSerial_stands as ys e later
      by_cases first : f.replaced = a.replaced
      · exact ⟨a, List.mem_cons_self, first.symm.trans same, List.mem_cons_self⟩
      · refine ⟨f, List.mem_cons_of_mem _ hf, same, List.mem_cons_of_mem _ (List.mem_filter.mpr ⟨stands, ?_⟩)⟩
        simpa using first

/-! ### The numbers of the entries (09 R150) -/

theorem numbered_getElem : ∀ (n : Nat) (xs : List PlanEntryFields) (i : Nat), (numbered n xs)[i]? =
    xs[i]?.map fun e => { e with index := n + i, carrier := none, lastEntry := decide (i + 1 = xs.length) }
  | _, [], _ => rfl
  | _, [_], 0 => rfl
  | _, [_], _ + 1 => rfl
  | _, _ :: _ :: _, 0 => by simp [numbered]
  | n, e :: f :: rest, i + 1 => by
    have step : (numbered n (e :: f :: rest))[i + 1]? = (numbered (n + 1) (f :: rest))[i]? := rfl
    rw [step, numbered_getElem (n + 1) (f :: rest) i, List.getElem?_cons_succ]
    refine congrFun (congrArg Option.map (funext fun x => ?_)) _
    simp only [List.length_cons, Nat.add_right_cancel_iff, Nat.add_right_comm n 1 i, Nat.add_assoc]

/-! ### The carriers (09 R151) -/

/-- The entry without its carrier. -/
def PlanEntryFields.bare (e : PlanEntryFields) : PlanEntryFields := { e with carrier := none }

/-- 09 R151: a binding changes the carriers alone. -/
theorem bindCarriers_bare : ∀ (rs : List SheetRecord) (es : List PlanEntryFields),
    (bindCarriers rs es).map PlanEntryFields.bare = es.map PlanEntryFields.bare
  | [], _ => rfl
  | _ :: _, [] => rfl
  | r :: rs, e :: es => by
    unfold bindCarriers
    split
    · rw [List.map_cons, bindCarriers_bare rs es]
      rfl
    · rfl

/-- 09 R151: the carriers are the first of the records, in their order, and stand at the first entries. -/
theorem bindCarriers_bound : ∀ (rs : List SheetRecord) (es : List PlanEntryFields), (∀ e ∈ es, e.carrier = none) →
    ∃ bound free, bindCarriers rs es = bound ++ free ∧ (∀ e ∈ bound, e.carrier.isSome = true) ∧ (∀ e ∈ free, e.carrier = none) ∧
      ∃ k, bound.filterMap (·.carrier) = (rs.take k).map (·.serial)
  | [], es, unbound => ⟨[], es, rfl, nofun, unbound, 0, rfl⟩
  | _ :: _, [], _ => ⟨[], [], rfl, nofun, nofun, 0, rfl⟩
  | r :: rs, e :: es, unbound => by
    unfold bindCarriers
    split
    · obtain ⟨bound, free, parts, carried, rest, k, carriers⟩ :=
        bindCarriers_bound rs es fun e he => unbound e (List.mem_cons_of_mem _ he)
      refine ⟨{ e with carrier := some r.serial } :: bound, free, by rw [parts]; rfl, fun f hf => ?_, rest, k + 1, ?_⟩
      · rcases List.mem_cons.mp hf with rfl | later
        · rfl
        · exact carried f later
      · simp [carriers]
    · exact ⟨[], e :: es, rfl, nofun, unbound, 0, rfl⟩

/-! ### The purge space (09 R152) -/

/-- 09 R152: claims that fit together all fit. -/
theorem fitting_all : ∀ {space : Nat} {cs : List PurgeClaim}, (cs.map (·.size)).sum ≤ space → fitting space cs = cs
  | _, [], _ => rfl
  | space, c :: cs, fits => by
    rw [List.map_cons, List.sum_cons] at fits
    rw [fitting, if_pos (by omega), fitting_all (by omega)]

end Sys2Proof.Machine
end

section
/-! PROOFS. The rows of a survey close, and what the state that holds them says (for O60). -/

namespace Sys2Proof.Machine

/-! ### The rows, one for each record (09 R146..R153) -/

/-- 09 R146: the records LOST by the first six conditions. -/
def State.lostNow (s : State) : List Serial := (s.roster.records.filter fun r => s.lostAtRest r (s.place r)).map (·.serial)

/-- 09 R146: LOST by physical condition, for a record of the roster. -/
def State.goneAtClose (s : State) (r : SheetRecord) : Bool :=
  s.lostNow.contains r.serial || (!(s.place r).tray && (s.place r).rest.any fun rest =>
    s.classIs rest.station .clearsDown && s.unusable s.lostNow rest.station (s.firstRunout r rest))

def State.row1 (s : State) (r : SheetRecord) : FateRow :=
  if s.goneAtClose r then { sheet := r, d := s.place r, fate := some .lost } else { sheet := r, d := s.place r }

theorem State.step1_rows (s : State) : s.step1 false = s.roster.records.map s.row1 := by
  have lost : ((s.roster.records.map fun r => ({ sheet := r, d := s.place r } : FateRow)).filter fun w =>
      s.lostAtRest w.sheet w.d).map (·.sheet.serial) = s.lostNow := by
    rw [List.filter_map, List.map_map]
    rfl
  unfold State.step1
  simp only [Bool.false_eq_true, if_false, lost, List.map_map]
  refine List.map_congr_left fun r _ => ?_
  rfl

theorem State.row1_shape (s : State) (r : SheetRecord) : (s.row1 r).sheet = r ∧ (s.row1 r).d = s.place r := by
  unfold State.row1
  split <;> exact ⟨rfl, rfl⟩

theorem State.lostFirst_rows (s : State) : s.lostFirst (s.step1 false) = s.lostNow := by
  rw [State.step1_rows, State.lostFirst, List.filter_map, List.map_map]
  have same : ((fun w : FateRow => s.lostAtRest w.sheet w.d) ∘ s.row1) = fun r => s.lostAtRest r (s.place r) := by
    funext r
    obtain ⟨sheet, d⟩ := s.row1_shape r
    rw [Function.comp_apply, sheet, d]
  rw [same]
  refine List.map_congr_left fun r _ => ?_
  rw [Function.comp_apply, (s.row1_shape r).1]

/-- 09 R147: what the horizons of a survey close are found from. -/
def State.foundAtClose (s : State) : List (Horizon × Option ForfeitedSet) :=
  (lostDestinations (s.step1 false)).filterMap (s.horizonAt (s.step1 false))

def State.closeHorizons (s : State) : List Horizon := s.foundAtClose.map (·.1)

/-- 09 R147: the forfeited sets of a survey close. -/
def State.closeForfeits (s : State) : List ForfeitedSet := s.foundAtClose.filterMap (·.2) ++ s.ejectedSets

def State.row4 (s : State) (r : SheetRecord) : FateRow := s.steps34 false s.closeHorizons s.lostNow (s.row1 r)

/-- 09 R150: the items of a survey close. -/
def State.closeItems (s : State) : List PlanEntryFields := s.reprintItems (s.roster.records.map s.row4) s.closeForfeits

/-- 09 R151: the RELEASE records before the binding. -/
def State.releases (s : State) : List SheetRecord := s.roster.records.filter fun r => (s.row4 r).fate == some .release

/-- 09 R150, R151: the reprint list of a survey close. -/
def State.closeReprint (s : State) : List PlanEntryFields := bindCarriers s.releases (numbered 1 (s.closeItems.take 64))

def State.row6 (s : State) (r : SheetRecord) : FateRow := s.step6 s.closeReprint (s.row4 r)
def State.row7 (s : State) (r : SheetRecord) : FateRow := s.step7 (s.roster.records.map s.row6) s.closeForfeits (s.row6 r)
def State.row8 (s : State) (r : SheetRecord) : FateRow := step8 s.closeHorizons (s.row7 r)

theorem State.row4_sheet (s : State) (r : SheetRecord) : (s.row4 r).sheet = r :=
  (s.steps34_sheet _ _ _ _).trans (s.row1_shape r).1

theorem State.row6_sheet (s : State) (r : SheetRecord) : (s.row6 r).sheet = r := (s.step6_sheet _ _).trans (s.row4_sheet r)
theorem State.row7_sheet (s : State) (r : SheetRecord) : (s.row7 r).sheet = r := (s.step7_sheet _ _ _).trans (s.row6_sheet r)
theorem State.row8_sheet (s : State) (r : SheetRecord) : (s.row8 r).sheet = r := (step8_sheet _ _).trans (s.row7_sheet r)

theorem State.steppedResults_rows (s : State) : s.steppedResults false = (s.roster.records.map s.row8,
    s.results (s.roster.records.map s.row8) s.closeHorizons
      (s.closeForfeits.map (s.ejectMark false (s.roster.records.map s.row6) s.closeForfeits)) s.closeReprint
      (s.closeItems.drop 64)) := by
  have rows4 : (s.step1 false).map (s.steps34 false s.closeHorizons (s.lostFirst (s.step1 false))) =
      s.roster.records.map s.row4 := by
    rw [State.lostFirst_rows, State.step1_rows, List.map_map]
    rfl
  have releases : ((s.roster.records.map s.row4).filter fun w => w.fate == some .release).map (·.sheet) = s.releases := by
    rw [List.filter_map, List.map_map]
    refine (List.map_congr_left fun r _ => ?_).trans (List.map_id _)
    exact s.row4_sheet r
  have unfolded : s.steppedResults false =
      let rows4 := (s.step1 false).map (s.steps34 false s.closeHorizons (s.lostFirst (s.step1 false)))
      let items := s.reprintItems rows4 s.closeForfeits
      let es := bindCarriers ((rows4.filter fun w => w.fate == some .release).map (·.sheet)) (numbered 1 (items.take 64))
      let rows6 := rows4.map (s.step6 es)
      let rows8 := (rows6.map (s.step7 rows6 s.closeForfeits)).map (step8 s.closeHorizons)
      (rows8, s.results rows8 s.closeHorizons (s.closeForfeits.map (s.ejectMark false rows6 s.closeForfeits)) es
        (items.drop 64)) := rfl
  rw [unfolded]
  simp only [rows4, releases, List.map_map]
  rfl

/-! ### What no step changes of a detail -/

/-- The detail `e` places the sheet as `d` does. -/
def FateDetail.SamePlace (d e : FateDetail) : Prop :=
  e.serial = d.serial ∧ e.tray = d.tray ∧ e.picked = d.picked ∧ e.rest = d.rest

theorem FateDetail.SamePlace.trans {a b c : FateDetail} (h : a.SamePlace b) (k : b.SamePlace c) : a.SamePlace c := by
  obtain ⟨serial, tray, picked, rest⟩ := h
  obtain ⟨serial', tray', picked', rest'⟩ := k
  exact ⟨serial'.trans serial, tray'.trans tray, picked'.trans picked, rest'.trans rest⟩

theorem State.steps34_place (s : State) (again : Bool) (hs : List Horizon) (lost : List Serial) (w : FateRow) :
    w.d.SamePlace (s.steps34 again hs lost w).d := by
  unfold State.steps34 State.step3 State.step4 State.heldPurge
  dsimp only
  repeat' split
  all_goals exact ⟨rfl, rfl, rfl, rfl⟩

theorem State.step6_place (s : State) (es : List PlanEntryFields) (w : FateRow) : w.d.SamePlace (s.step6 es w).d := by
  unfold State.step6 State.heldPurge
  repeat' split
  all_goals exact ⟨rfl, rfl, rfl, rfl⟩

theorem State.step7_place (s : State) (rows : List FateRow) (sets : List ForfeitedSet) (w : FateRow) :
    w.d.SamePlace (s.step7 rows sets w).d := by
  unfold State.step7
  dsimp only
  repeat' split
  all_goals exact ⟨rfl, rfl, rfl, rfl⟩

theorem step8_place (hs : List Horizon) (w : FateRow) : w.d.SamePlace (step8 hs w).d := by
  unfold step8
  split <;> exact ⟨rfl, rfl, rfl, rfl⟩

theorem State.row8_place (s : State) (r : SheetRecord) : (s.place r).SamePlace (s.row8 r).d := by
  have first := s.steps34_place false s.closeHorizons s.lostNow (s.row1 r)
  rw [(s.row1_shape r).2] at first
  exact ((first.trans (s.step6_place _ _)).trans (s.step7_place _ _ _)).trans (step8_place _ _)

/-- 09 R145: what step 1 holds of a record, but for where it rests. -/
theorem State.place_fresh (s : State) (r : SheetRecord) : (s.place r).serial = r.serial ∧ (s.place r).moving = false ∧
    (s.place r).withdrawn = false := by
  unfold State.place
  dsimp only
  repeat' split
  all_goals exact ⟨rfl, rfl, rfl⟩

/-! ### The state that holds the results -/

/-- `t` holds the results of a survey close computed in `s`, in which the reports had been counted. -/
structure State.ClosedFrom (s t : State) : Prop where
  entries : t.table.entries = s.table.entries
  map : t.table.map = s.table.map
  record : t.recovery.record = s.recovery.record
  jams : t.recovery.jams = s.recovery.jams
  revisions : t.recovery.revisions = s.recovery.revisions
  account : t.recovery.account = s.recovery.account
  escalated : t.recovery.escalated = s.recovery.escalated
  records : t.roster.records = (s.computeFates false).1.map fun w => { w.sheet with fate := some (w.fate.getD .keep) }
  fates : t.recovery.fates = (s.computeFates false).2
  nodup : (s.roster.records.map (·.serial)).Nodup

section
variable {s t : State} (h : s.ClosedFrom t)
include h

theorem State.ClosedFrom.isAbsent : t.isAbsent = s.isAbsent := by
  funext p
  rw [State.isAbsent, State.isAbsent, State.entry_congr h.entries]

theorem State.ClosedFrom.summaryOf : t.summaryOf = s.summaryOf := by
  funext p
  rw [State.summaryOf, State.summaryOf, State.entry_congr h.entries]

theorem State.ClosedFrom.classIs : t.classIs = s.classIs := by
  funext p c
  rw [State.classIs, State.classIs, h.summaryOf]

theorem State.ClosedFrom.mapOf : t.mapOf = s.mapOf := by
  funext p
  rw [State.mapOf, State.mapOf, h.map]

theorem State.ClosedFrom.purgeAfter : t.purgeAfter = s.purgeAfter := by
  funext p
  rw [State.purgeAfter, State.purgeAfter, h.mapOf]

theorem State.ClosedFrom.positionReport : t.positionReport = s.positionReport :=
  State.positionReport_congr h.record h.isAbsent

theorem State.ClosedFrom.entriesAt : t.entriesAt = s.entriesAt := by
  funext p
  rw [State.entriesAt, State.entriesAt, h.positionReport, State.revisedZones, State.revisedZones, h.revisions]

end

/-! ### The conditions of R146 -/

theorem JamEntryKind.physical_iff (k : JamEntryKind) : k.physical = true ↔
    ∃ j ∈ [JamKind.late, .stall, .short, .blocked, .stray, .misfeed], k = .jam j := by
  cases k with
  | jam j => cases j <;> decide
  | _ => simp [JamEntryKind.physical]

theorem State.mem_revisedSerials (s : State) (x : Serial) : x ∈ s.revisedSerials ↔ Revision.removed x ∈ s.recovery.revisions := by
  unfold State.revisedSerials
  rw [List.mem_filterMap]
  constructor
  · rintro ⟨v, listed, found⟩
    cases v with
    | removed y => exact Option.some.inj found ▸ listed
    | unknown q z => cases found
  · exact fun listed => ⟨_, listed, rfl⟩

/-- 09 R146: the first six conditions. -/
theorem State.ClosedFrom.lostAtRest_iff {s t : State} (h : s.ClosedFrom t) (r : SheetRecord) (d : FateDetail) :
    s.lostAtRest r d = true ↔ t.lostOnTheSpot r d := by
  have named : s.namedLost r.serial = true ↔ (∃ j ∈ t.recovery.jams, r.serial ∈ j.named ∧
      ∃ k ∈ [JamKind.late, .stall, .short, .blocked, .stray, .misfeed], j.kind = .jam k) ∨
      Revision.removed r.serial ∈ t.recovery.revisions := by
    rw [h.jams, h.revisions, ← State.mem_revisedSerials]
    simp only [State.namedLost, Bool.or_eq_true, List.any_eq_true, Bool.and_eq_true, List.contains_iff_mem,
      JamEntryKind.physical_iff]
    exact or_congr (exists_congr fun j => and_congr_right fun _ => and_comm) Iff.rfl
  unfold State.lostOnTheSpot
  rw [h.classIs, h.isAbsent, h.purgeAfter, ← or_assoc, ← named]
  unfold State.lostAtRest
  rw [Bool.and_eq_true, Bool.not_eq_true', Bool.or_eq_true]
  refine and_congr_right fun _ => or_congr_right ?_
  cases d.rest with
  | none => simp
  | some x => simp [State.wayAfter, or_assoc]

end Sys2Proof.Machine
end

section
/-! PROOFS. The records and the details of a survey close, and the conditions of 09 R146 (for O60). -/

namespace Sys2Proof.Machine

/-- The only element of its key is the one found by it. -/
theorem find?_key {α β : Type} [BEq β] [LawfulBEq β] (key : α → β) : ∀ {xs : List α}, (xs.map key).Nodup → ∀ {r : α}, r ∈ xs →
    xs.find? (fun a => key a == key r) = some r
  | a :: as, nodup, r, hr => by
    obtain ⟨fresh, nodup⟩ := List.nodup_cons.mp nodup
    rcases List.mem_cons.mp hr with rfl | later
    · exact List.find?_cons_of_pos (beq_self_eq_true _)
    · have other : key a ≠ key r := fun same => fresh (same ▸ List.mem_map_of_mem later)
      rw [List.find?_cons_of_neg (by simpa using other)]
      exact find?_key key nodup later

/-- The record with its fate. -/
def State.fated (s : State) (r : SheetRecord) : SheetRecord := { r with fate := some ((s.row8 r).fate.getD .keep) }

theorem State.computeFates_calm {s : State} (calm : s.recovery.escalated = false) :
    s.computeFates false = s.steppedResults false := if_neg (by simp [calm])

section
variable {s t : State} (h : s.ClosedFrom t) (calm : s.recovery.escalated = false)
include h calm

theorem State.ClosedFrom.recordsFated : t.roster.records = s.roster.records.map s.fated := by
  rw [h.records, State.computeFates_calm calm, State.steppedResults_rows, List.map_map]
  refine List.map_congr_left fun r _ => ?_
  rw [Function.comp_apply, State.row8_sheet]
  rfl

theorem State.ClosedFrom.details : t.recovery.fates.details = s.roster.records.map fun r => (s.row8 r).d := by
  rw [h.fates, State.computeFates_calm calm, State.steppedResults_rows]
  exact List.map_map

theorem State.ClosedFrom.counted : t.recovery.fates.counted = s.recovery.fates.counted := by
  rw [h.fates, State.computeFates_calm calm, State.steppedResults_rows]
  rfl

theorem State.ClosedFrom.horizons : t.recovery.fates.horizons = s.closeHorizons := by
  rw [h.fates, State.computeFates_calm calm, State.steppedResults_rows]
  rfl

theorem State.ClosedFrom.forfeited : t.recovery.fates.forfeited =
    s.closeForfeits.map (s.ejectMark false (s.roster.records.map s.row6) s.closeForfeits) := by
  rw [h.fates, State.computeFates_calm calm, State.steppedResults_rows]
  rfl

theorem State.ClosedFrom.reprint : t.recovery.fates.reprint = s.closeReprint ∧
    t.recovery.fates.omitted = (s.closeItems.drop 64).length := by
  rw [h.fates, State.computeFates_calm calm, State.steppedResults_rows]
  exact ⟨rfl, rfl⟩

theorem State.ClosedFrom.digest : t.recovery.fates.digest = some (digestOf false (s.roster.records.map s.row8) s.closeReprint) := by
  rw [h.fates, State.computeFates_calm calm, State.steppedResults_rows, State.results, calm]

/-- 09 R143: the detail of a record of the roster. -/
theorem State.ClosedFrom.detail {r : SheetRecord} (hr : r ∈ s.roster.records) : t.detail r.serial = some (s.row8 r).d := by
  have keyed : (fun d : FateDetail => d.serial == r.serial) ∘ (fun r => (s.row8 r).d) = fun a => a.serial == r.serial := by
    funext a
    obtain ⟨serial, -⟩ := s.row8_place a
    obtain ⟨fresh, -⟩ := s.place_fresh a
    rw [Function.comp_apply, serial, fresh]
  rw [State.detail, h.details calm, List.find?_map, keyed, find?_key (·.serial) h.nodup hr]
  rfl

end

/-! ### LOST by physical condition (09 R146) -/

theorem State.ClosedFrom.firstRunout_eq {s t : State} (h : s.ClosedFrom t) (r : SheetRecord) (x : Rest) :
    s.firstRunout r x = t.firstPath r x := by
  unfold State.firstPath State.firstRunout
  rw [h.classIs, h.purgeAfter]

theorem State.lostAtRest_place {s : State} {d e : FateDetail} (h : d.SamePlace e) (r : SheetRecord) :
    s.lostAtRest r e = s.lostAtRest r d := by
  obtain ⟨-, tray, picked, rest⟩ := h
  unfold State.lostAtRest
  rw [tray, picked, rest]

theorem State.mem_lostNow (s : State) (x : Serial) : x ∈ s.lostNow ↔
    ∃ r ∈ s.roster.records, s.lostAtRest r (s.place r) = true ∧ r.serial = x := by
  simp [State.lostNow, and_assoc]

/-- 09 R146: of one serial there is one record. -/
theorem State.ClosedFrom.lostNow_own {s t : State} (h : s.ClosedFrom t) {r : SheetRecord} (hr : r ∈ s.roster.records) :
    s.lostNow.contains r.serial = s.lostAtRest r (s.place r) := by
  rw [Bool.eq_iff_iff, List.contains_iff_mem, State.mem_lostNow]
  refine ⟨fun ⟨q, hq, lost, same⟩ => ?_, fun lost => ⟨r, hr, lost, rfl⟩⟩
  exact eq_of_nodup_map (·.serial) h.nodup hq hr same ▸ lost

section
variable {s t : State} (h : s.ClosedFrom t) (calm : s.recovery.escalated = false)
include h calm

theorem State.ClosedFrom.lostNow_iff (x : Serial) : x ∈ s.lostNow ↔
    ∃ r ∈ t.roster.records, r.serial = x ∧ ∃ d ∈ t.detail x, t.lostOnTheSpot r d := by
  rw [State.mem_lostNow, h.recordsFated calm]
  constructor
  · rintro ⟨r, hr, lost, rfl⟩
    refine ⟨s.fated r, List.mem_map_of_mem hr, rfl, (s.row8 r).d, h.detail calm hr, ?_⟩
    rw [← h.lostAtRest_iff, State.lostAtRest_place (s.row8_place r)]
    exact lost
  · rintro ⟨q, hq, rfl, d, hd, lost⟩
    obtain ⟨r, hr, rfl⟩ := List.mem_map.mp hq
    obtain rfl := Option.some.inj ((h.detail calm hr).symm.trans hd)
    rw [← h.lostAtRest_iff, State.lostAtRest_place (s.row8_place r)] at lost
    exact ⟨r, hr, lost, rfl⟩

/-- 09 R146: the station is obstructed. -/
theorem State.ClosedFrom.obstructed_iff (last : Option Pos) (q : Pos) :
    s.obstructed s.lostNow last q = true ↔ t.obstructs last q := by
  have entry (e : ReportEntry) : (match e.serial with
      | none => true
      | some x => s.foreign q x || s.lostNow.contains x) = true ↔ e.serial = none ∨
        ∃ x ∈ e.serial, (x, q) ∉ t.recovery.fates.counted ∨
          ∃ r ∈ t.roster.records, r.serial = x ∧ ∃ d ∈ t.detail x, t.lostOnTheSpot r d := by
    cases e.serial with
    | none => simp
    | some x =>
      rw [h.counted calm, Bool.or_eq_true, List.contains_iff_mem, h.lostNow_iff calm x]
      simp [State.foreign]
  unfold State.obstructs
  rw [h.classIs, h.entriesAt]
  unfold State.obstructed
  rw [Bool.or_eq_true, Bool.and_eq_true, List.any_eq_true]
  refine or_congr (and_congr_right fun _ => exists_congr fun e => and_congr_right fun _ => entry e) ?_
  simp [and_assoc]

/-- 09 R146, seventh condition. -/
theorem State.ClosedFrom.unusable_iff (start : Pos) (path : List Pos) :
    s.unusable s.lostNow start path = true ↔ t.pathFails start path := by
  unfold State.pathFails State.unusable
  rw [h.classIs, h.isAbsent, Bool.or_eq_true, List.any_eq_true, List.any_eq_true]
  exact or_congr (exists_congr fun q => and_congr_right fun _ => Bool.or_eq_true _ _ ▸ Iff.rfl)
    (exists_congr fun q => and_congr_right fun _ => h.obstructed_iff calm _ q)

/-- 09 R146: LOST by physical condition. -/
theorem State.ClosedFrom.gone_iff {r : SheetRecord} (hr : r ∈ s.roster.records) :
    s.goneAtClose r = true ↔ t.lostByCondition r (s.row8 r).d := by
  obtain ⟨-, tray, -, rest⟩ := s.row8_place r
  unfold State.lostByCondition
  rw [← h.lostAtRest_iff, State.lostAtRest_place (s.row8_place r), tray, rest]
  unfold State.goneAtClose
  rw [Bool.or_eq_true, h.lostNow_own hr, Bool.and_eq_true, Bool.not_eq_true', h.classIs]
  refine or_congr_right (and_congr_right fun _ => ?_)
  rw [Option.any_eq_true]
  refine exists_congr fun x => and_congr_right fun _ => ?_
  rw [Bool.and_eq_true, h.unusable_iff calm, h.firstRunout_eq]

end

end Sys2Proof.Machine
end

section
/-! PROOFS. The fates of a survey close (09 R146..R153; for O60). -/

namespace Sys2Proof.Machine

/-! ### The horizons, one for each destination (09 R147) -/

def Horizon.dest (h : Horizon) : Pos × Nat := (h.exit, h.bin)

theorem State.horizonAt_dest {s : State} {rows : List FateRow} {dest : Pos × Nat} {f : Horizon × Option ForfeitedSet}
    (h : s.horizonAt rows dest = some f) : f.1.dest = dest := by
  unfold State.horizonAt at h
  dsimp only at h
  split at h
  · cases h
  · rw [← Option.some.inj h]
    rfl

theorem nodup_eraseDups {α : Type} [BEq α] [LawfulBEq α] : ∀ xs : List α, xs.eraseDups.Nodup
  | [] => List.nodup_nil
  | x :: xs => by
    have smaller := List.length_filter_le (fun b => !b == x) xs
    rw [List.eraseDups_cons, List.nodup_cons, List.mem_eraseDups, List.mem_filter]
    exact ⟨by simp, nodup_eraseDups (xs.filter fun b => !b == x)⟩
termination_by xs => xs.length

theorem State.foundAtClose_dests (s : State) : (s.foundAtClose.map fun f => f.1.dest).Nodup := by
  unfold State.foundAtClose
  have nodup : (lostDestinations (s.step1 false)).Nodup := nodup_eraseDups _
  generalize lostDestinations (s.step1 false) = dests at nodup
  rw [List.map_filterMap]
  refine List.Pairwise.filterMap _ (fun a b other c hc d hd same => other ?_) nodup
  obtain ⟨f, hf, rfl⟩ := Option.map_eq_some_iff.mp hc
  obtain ⟨g, hg, rfl⟩ := Option.map_eq_some_iff.mp hd
  rw [← State.horizonAt_dest hf, ← State.horizonAt_dest hg, same]

theorem State.closeHorizons_find {s : State} {h : Horizon} (hh : h ∈ s.closeHorizons) :
    s.closeHorizons.find? (fun g => g.exit == h.exit && g.bin == h.bin) = some h := by
  have nodup : (s.closeHorizons.map Horizon.dest).Nodup := by
    rw [State.closeHorizons, List.map_map]
    exact s.foundAtClose_dests
  exact find?_key Horizon.dest nodup hh

/-- 09 R148, R153: the horizon that applies to a sheet. -/
theorem State.horizonOf_any {s : State} (r : SheetRecord) (p : Serial → Bool) :
    (horizonOf s.closeHorizons r).any p = true ↔
      r.purgeRouted = false ∧ ∃ h ∈ s.closeHorizons, h.exit = r.exit ∧ h.bin = r.bin ∧ p h.serial = true := by
  unfold horizonOf
  cases r.purgeRouted with
  | true => simp
  | false =>
    rw [if_neg (by decide), Option.any_map]
    constructor
    · intro any
      obtain ⟨h, found, holds⟩ := (Option.any_eq_true _ _).mp any
      have fits := List.find?_some found
      simp only [Bool.and_eq_true, beq_iff_eq] at fits
      exact ⟨rfl, h, List.mem_of_find?_eq_some found, fits.1, fits.2, holds⟩
    · rintro ⟨-, h, listed, exit, bin, holds⟩
      rw [← exit, ← bin, State.closeHorizons_find listed]
      exact holds

/-! ### The steps on one row -/

theorem State.step6_other {s : State} {es : List PlanEntryFields} {w : FateRow} (h : w.fate ≠ some .release) : s.step6 es w = w := by
  unfold State.step6
  split
  · next release _ => exact absurd release h
  · rfl

theorem State.step7_other {s : State} {rows : List FateRow} {sets : List ForfeitedSet} {w : FateRow}
    (h : w.fate ≠ some .purge) : s.step7 rows sets w = w := by
  unfold State.step7
  rw [if_neg (by simpa using h)]

/-- 09 R152: a PURGE row keeps its claim, or is LOST where it rests. -/
theorem State.step7_purge (s : State) (rows : List FateRow) (sets : List ForfeitedSet) (w : FateRow) :
    s.step7 rows sets w = w ∨ (s.step7 rows sets w).fate = some .lost ∧ (s.step7 rows sets w).d.moving = false := by
  unfold State.step7
  dsimp only
  (repeat' split) <;> simp

/-- 09 R148: a held purge, whatever the row's fate was. -/
theorem State.heldPurge_fate (s : State) (x : Rest) (w : FateRow) (f : Option Fate) :
    s.heldPurge x { w with fate := f } = s.heldPurge x w := by
  unfold State.heldPurge
  split <;> rfl

section
variable {s t : State} (h : s.ClosedFrom t) (calm : s.recovery.escalated = false)
include h calm

theorem State.ClosedFrom.follows_iff (r : SheetRecord) : follows s.closeHorizons r = true ↔ t.pastHorizon r := by
  unfold follows State.pastHorizon
  rw [State.horizonOf_any, h.horizons calm]
  simp only [atOrAfter_iff]

/-- 09 R152: a claim that fits with every other. -/
theorem State.ClosedFrom.purge_fits {r : SheetRecord} (hr : r ∈ s.roster.records) {p : Pos}
    (purge : (s.row6 r).fate = some .purge) (exit : (s.row6 r).d.purgeExit = s.purgeExitOf p) (space : t.purgeSpaceFor p) :
    s.row7 r = s.row6 r := by
  obtain ⟨q, hq, room⟩ := space
  rw [h.mapOf] at hq
  have last : s.purgeExitOf p = some q := hq
  let rows := s.roster.records.map s.row6
  let sheets := (rows.filter fun w => w.fate == some .purge && w.d.purgeExit == some q).map fun w =>
    ({ serial := w.sheet.serial, size := 1 } : PurgeClaim)
  let lists := (s.closeForfeits.filter fun f => f.exit == q && !f.ejected).map fun f =>
    ({ serial := ((f.entries.head?).map (·.serial)).getD 0, size := f.entries.length, set := some f.bin } : PurgeClaim)
  have sizes : ((sheets ++ lists).map (·.size)).sum ≤ (s.positionReport q).purgeSpace := by
    have few : (sheets.map (·.size)).sum ≤ s.roster.records.length := by
      have ones : sheets.map (·.size) = List.replicate sheets.length 1 := by
        rw [List.eq_replicate_iff]
        exact ⟨by simp, fun n hn => by simp [sheets] at hn; omega⟩
      rw [ones, List.sum_replicate_nat, Nat.mul_one]
      simpa [sheets, rows] using List.length_filter_le _ (s.roster.records.map s.row6)
    have marked : lists.map (·.size) =
        (t.recovery.fates.forfeited.filter fun f => f.exit == q && !f.ejected).map (·.entries.length) := by
      have kept (f : ForfeitedSet) : let g := s.ejectMark false rows s.closeForfeits f
          g.exit = f.exit ∧ g.ejected = f.ejected ∧ g.entries = f.entries := by
        unfold State.ejectMark
        dsimp only
        split <;> exact ⟨rfl, rfl, rfl⟩
      rw [h.forfeited calm, List.filter_map, List.map_map, List.map_map]
      have keyed : (fun f : ForfeitedSet => f.exit == q && !f.ejected) ∘ s.ejectMark false rows s.closeForfeits =
          fun f => f.exit == q && !f.ejected := by
        funext f
        rw [Function.comp_apply, (kept f).1, (kept f).2.1]
      rw [keyed]
      exact List.map_congr_left fun f _ => (congrArg List.length (kept f).2.2).symm
    rw [h.recordsFated calm, List.length_map, h.positionReport, ← marked] at room
    rw [List.map_append, List.sum_append]
    omega
  have all : s.fittingAt rows s.closeForfeits q = sortBySerial (·.serial) (sheets ++ lists) := by
    refine fitting_all ?_
    rw [((sortBySerial_perm _ _).map _).sum_nat]
    exact sizes
  have claimed : ({ serial := r.serial, size := 1 } : PurgeClaim) ∈ s.fittingAt rows s.closeForfeits q := by
    rw [all, (sortBySerial_perm _ _).mem_iff]
    refine List.mem_append_left _ (List.mem_map.mpr ⟨s.row6 r, List.mem_filter.mpr ⟨List.mem_map_of_mem hr, ?_⟩, ?_⟩)
    · simp [purge, exit, last]
    · rw [s.row6_sheet]
  have fits : ((s.row6 r).d.purgeExit.any fun x => (s.fittingAt rows s.closeForfeits x).any fun c =>
      c.set.isNone && c.serial == (s.row6 r).sheet.serial) = true := by
    rw [exit, last, Option.any_some, List.any_eq_true]
    exact ⟨_, claimed, by simp [s.row6_sheet]⟩
  unfold State.row7 State.step7
  rw [if_pos (by simp [purge])]
  exact if_pos fits

end

/-! ### The fate of one record -/

theorem State.row1_spared {s : State} {r : SheetRecord} (h : s.goneAtClose r = false) :
    s.row1 r = { sheet := r, d := s.place r } := if_neg (by simp [h])

/-- A row that lies in no tray after its purge claim has been tested. -/
theorem State.row8_moved {s : State} {r : SheetRecord} (h : (s.place r).tray = false) : s.row8 r = s.row7 r := by
  refine step8_moved _ ?_
  obtain ⟨-, tray, -⟩ := s.row8_place r
  obtain ⟨-, same, -⟩ := step8_place s.closeHorizons (s.row7 r)
  exact (same.symm.trans tray).trans h

theorem State.fated_fate {s : State} {r : SheetRecord} {f : Fate} (h : (s.row8 r).fate = some f) : (s.fated r).fate = some f := by
  rw [State.fated, h]
  rfl

section
variable {s t : State} (h : s.ClosedFrom t) (calm : s.recovery.escalated = false)
include h calm

/-- 09 R148, R151, R152: a record that is purged where it rests. -/
theorem State.ClosedFrom.held_stands {r : SheetRecord} (hr : r ∈ s.roster.records) (tray : (s.place r).tray = false)
    (spared : s.goneAtClose r = false) {x : Rest} (held : s.row6 r = s.heldPurge x (s.row1 r)) :
    t.purgedAtRest (s.fated r) x ∧ (s.row8 r).d.moving = false := by
  have still : (s.place r).moving = false := (s.place_fresh r).2.1
  rw [State.row1_spared spared] at held
  unfold State.purgedAtRest
  rw [h.purgeAfter, h.isAbsent]
  by_cases crossed : (s.purgeAfter x.station).any s.isAbsent = true
  · have lost : s.row6 r = { sheet := r, d := s.place r, fate := some .lost } := held.trans (if_pos crossed)
    have last : s.row8 r = s.row6 r :=
      (State.row8_moved tray).trans (State.step7_other (by rw [lost]; nofun))
    obtain ⟨p, hp, absent⟩ := List.any_eq_true.mp crossed
    refine ⟨⟨fun _ => State.fated_fate (by rw [last, lost]), fun clear => ?_, fun clear => ?_⟩, by rw [last, lost]; exact still⟩
    all_goals exact absurd (absent.symm.trans (clear p hp)) nofun
  · have purge : s.row6 r =
        { sheet := r, d := { s.place r with purgeExit := s.purgeExitOf x.station }, fate := some .purge } :=
      held.trans (if_neg crossed)
    have last : s.row8 r = s.row7 r := State.row8_moved tray
    have either : s.row7 r = s.row6 r ∨ (s.row7 r).fate = some .lost ∧ (s.row7 r).d.moving = false := s.step7_purge _ _ _
    refine ⟨⟨fun ⟨p, hp, absent⟩ => absurd (List.any_eq_true.mpr ⟨p, hp, absent⟩) crossed, fun _ => ?_, fun _ space => ?_⟩, ?_⟩
    · rcases either with same | ⟨lost, -⟩
      · exact .inl (State.fated_fate (by rw [last, same, purge]))
      · exact .inr (State.fated_fate (by rw [last, lost]))
    · have fits := h.purge_fits calm hr (by rw [purge]) (by rw [purge]) space
      exact State.fated_fate (by rw [last, fits, purge])
    · rcases either with same | ⟨-, moving⟩
      · rw [last, same, purge]
        exact still
      · rw [last, moving]

/-- 09 R149, R152: a record that is purged along a path. -/
theorem State.ClosedFrom.moved_stands {r : SheetRecord} (hr : r ∈ s.roster.records) (tray : (s.place r).tray = false)
    {x : Rest} {path : List Pos} {w : FateRow} (moved : s.row6 r = w.move .purge path none (s.purgeExitOf x.station)) :
    t.purgedMoving (s.fated r) (s.row8 r).d x path := by
  have last : s.row8 r = s.row7 r := State.row8_moved tray
  unfold State.purgedMoving
  refine ⟨?_, fun space => ?_⟩
  · rcases s.step7_purge (s.roster.records.map s.row6) s.closeForfeits (s.row6 r) with same | ⟨lost, -⟩
    · have kept : s.row8 r = s.row6 r := last.trans same
      exact .inr ⟨State.fated_fate (by rw [kept, moved]; rfl), by rw [kept, moved]; rfl, by rw [kept, moved]; rfl⟩
    · exact .inl (State.fated_fate (last ▸ lost))
  · have fits := h.purge_fits calm hr (by rw [moved]; rfl) (by rw [moved]; rfl) space
    exact State.fated_fate (by rw [last, fits, moved]; rfl)

end

end Sys2Proof.Machine
end

section
/-! PROOFS. Every record has the fate of its resting place (09 R146..R149, R153; for O60). -/

namespace Sys2Proof.Machine

/-! ### Withdrawn sheets lie in the tray (09 R153) -/

theorem State.steps34_withdrawn (s : State) (again : Bool) (hs : List Horizon) (lost : List Serial) (w : FateRow) :
    (s.steps34 again hs lost w).d.withdrawn = w.d.withdrawn := by
  unfold State.steps34 State.step3 State.step4 State.heldPurge
  dsimp only
  (repeat' split) <;> rfl

theorem State.step6_withdrawn (s : State) (es : List PlanEntryFields) (w : FateRow) :
    (s.step6 es w).d.withdrawn = w.d.withdrawn := by
  unfold State.step6 State.heldPurge
  (repeat' split) <;> rfl

theorem State.step7_withdrawn (s : State) (rows : List FateRow) (sets : List ForfeitedSet) (w : FateRow) :
    (s.step7 rows sets w).d.withdrawn = w.d.withdrawn := by
  unfold State.step7
  dsimp only
  (repeat' split) <;> rfl

theorem State.row7_withdrawn (s : State) (r : SheetRecord) : (s.row7 r).d.withdrawn = false := by
  obtain ⟨-, -, fresh⟩ := s.place_fresh r
  rw [State.row7, State.step7_withdrawn, State.row6, State.step6_withdrawn, State.row4, State.steps34_withdrawn,
    (s.row1_shape r).2, fresh]

/-! ### The rows of the four kinds of record -/

/-- 09 R146: a record LOST by physical condition. -/
theorem State.ClosedFrom.gone_row {s t : State} (h : s.ClosedFrom t) {r : SheetRecord} (hr : r ∈ s.roster.records)
    (gone : s.goneAtClose r = true) :
    (s.place r).tray = false ∧ s.row8 r = { sheet := r, d := s.place r, fate := some .lost } := by
  have out : (s.place r).tray = false := by
    unfold State.goneAtClose at gone
    rw [h.lostNow_own hr, State.lostAtRest] at gone
    cases tray : (s.place r).tray with
    | false => rfl
    | true => simp [tray] at gone
  have first : s.row1 r = { sheet := r, d := s.place r, fate := some .lost } := if_pos gone
  have seven : s.row7 r = s.row1 r := State.lost_kept (by rw [first]) false _ _ _ _ _
  exact ⟨out, (State.row8_moved out).trans (seven.trans first)⟩

/-- 09 R153: a record whose sheet lies in the tray. -/
theorem State.ClosedFrom.tray_row {s t : State} (h : s.ClosedFrom t) {r : SheetRecord} (hr : r ∈ s.roster.records)
    (tray : (s.place r).tray = true) : s.row4 r = { sheet := r, d := s.place r } ∧ s.row8 r =
      { sheet := r, d := { s.place r with withdrawn := (horizonOf s.closeHorizons r).isSome }, fate := some .keep } := by
  have spared : s.goneAtClose r = false := by
    rw [Bool.eq_false_iff]
    intro gone
    exact absurd ((h.gone_row hr gone).1.symm.trans tray) nofun
  have four : s.row4 r = { sheet := r, d := s.place r } := by
    rw [State.row4, State.row1_spared spared, State.steps34]
    exact if_pos (by simp [tray])
  have six : s.row6 r = s.row4 r := State.step6_other (by rw [four]; nofun)
  have seven : s.row7 r = s.row6 r := State.step7_other (by rw [six, four]; nofun)
  refine ⟨four, ?_⟩
  rw [State.row8, seven, six, four]
  exact if_pos tray

/-- 09 R148, R149: a record that step 1 spares, resting at `x`. -/
theorem State.row4_resting {s : State} {r : SheetRecord} (spared : s.goneAtClose r = false) (tray : (s.place r).tray = false)
    {x : Rest} (rest : (s.place r).rest = some x) : s.row4 r =
      if s.classIs x.station .holds then s.step3 s.closeHorizons x (s.row1 r)
      else s.step4 false s.closeHorizons s.lostNow x (s.row1 r) := by
  unfold State.row4 State.steps34
  rw [State.row1_spared spared, if_neg (by simp [tray])]
  dsimp only
  rw [rest]

section
variable {s t : State} (h : s.ClosedFrom t) (calm : s.recovery.escalated = false)
include h calm

/-- 09 R148, R151, R152: a record resting in a HOLDS segment. -/
theorem State.ClosedFrom.holds_stands {r : SheetRecord} (hr : r ∈ s.roster.records) (tray : (s.place r).tray = false)
    (spared : s.goneAtClose r = false) {x : Rest} (rest : (s.place r).rest = some x)
    (holds : s.classIs x.station .holds = true) : (s.row8 r).d.moving = false ∧
      (r.purgeRouted = true → t.purgedAtRest (s.fated r) x) ∧
      (r.purgeRouted = false → ¬ t.pastHorizon r → (s.fated r).fate = some .keep) ∧
      (t.pastHorizon r → r.sides ≠ 0 → t.purgedAtRest (s.fated r) x) ∧
      (t.pastHorizon r → r.sides = 0 →
        ((∃ e ∈ t.recovery.fates.reprint, e.carrier = some r.serial) → (s.fated r).fate = some .release) ∧
        ((∀ e ∈ t.recovery.fates.reprint, e.carrier ≠ some r.serial) → t.purgedAtRest (s.fated r) x)) := by
  have four : s.row4 r = s.step3 s.closeHorizons x (s.row1 r) := (State.row4_resting spared tray rest).trans (if_pos holds)
  have sheet := (s.row1_shape r).1
  have last : s.row8 r = s.row7 r := State.row8_moved tray
  have past := h.follows_iff calm r
  have still : (s.row1 r).d.moving = false := by rw [(s.row1_shape r).2]; exact (s.place_fresh r).2.1
  have step : s.step3 s.closeHorizons x (s.row1 r) =
      if r.purgeRouted then s.heldPurge x (s.row1 r)
      else if !follows s.closeHorizons r then { s.row1 r with fate := some .keep }
      else if r.sides = 0 then { s.row1 r with fate := some .release }
      else s.heldPurge x (s.row1 r) := by
    rw [State.row1_spared spared]
    rfl
  have unreleased (held : s.row4 r = s.heldPurge x (s.row1 r)) : s.row6 r = s.heldPurge x (s.row1 r) := by
    refine (State.step6_other ?_).trans held
    rw [held]
    unfold State.heldPurge
    split <;> nofun
  have purged (held : s.row4 r = s.heldPurge x (s.row1 r)) := h.held_stands calm hr tray spared (unreleased held)
  rw [step] at four
  by_cases routed : r.purgeRouted = true
  · have stands := purged (four.trans (if_pos routed))
    have unpast : ¬ t.pastHorizon r := fun ⟨free, _⟩ => absurd (routed.symm.trans free) nofun
    exact ⟨stands.2, fun _ => stands.1, fun free => absurd (routed.symm.trans free) nofun, fun p => absurd p unpast,
      fun p => absurd p unpast⟩
  · rw [if_neg routed] at four
    by_cases ahead : t.pastHorizon r
    · rw [if_neg (by rw [past.mpr ahead]; decide)] at four
      by_cases sides : r.sides = 0
      · rw [if_pos sides] at four
        have six : s.row6 r = if bound s.closeReprint r.serial then s.row4 r else s.heldPurge x (s.row4 r) := by
          have resting : (s.row1 r).d.rest = some x := by rw [(s.row1_shape r).2]; exact rest
          unfold State.row6 State.step6
          rw [four]
          dsimp only
          rw [resting, sheet]
        have bound_iff : bound s.closeReprint r.serial = true ↔ ∃ e ∈ t.recovery.fates.reprint, e.carrier = some r.serial := by
          rw [(h.reprint calm).1]
          simp [bound]
        by_cases carrier : bound s.closeReprint r.serial = true
        · have kept : s.row6 r = { s.row1 r with fate := some .release } := (six.trans (if_pos carrier)).trans four
          have seven : s.row7 r = s.row6 r := State.step7_other (by rw [kept]; nofun)
          refine ⟨by rw [last, seven, kept]; exact still, fun p => absurd p routed, fun _ no => absurd ahead no,
            fun _ no => absurd sides no, fun _ _ => ⟨fun _ => State.fated_fate (by rw [last, seven, kept]), fun unbound => ?_⟩⟩
          obtain ⟨e, he, carries⟩ := bound_iff.mp carrier
          exact absurd carries (unbound e he)
        · have held : s.row6 r = s.heldPurge x (s.row1 r) :=
            (six.trans (if_neg carrier)).trans ((congrArg _ four).trans (s.heldPurge_fate x (s.row1 r) _))
          have stands := h.held_stands calm hr tray spared held
          exact ⟨stands.2, fun p => absurd p routed, fun _ no => absurd ahead no, fun _ no => absurd sides no,
            fun _ _ => ⟨fun carries => absurd (bound_iff.mpr carries) carrier, fun _ => stands.1⟩⟩
      · have stands := purged (four.trans (if_neg sides))
        exact ⟨stands.2, fun p => absurd p routed, fun _ no => absurd ahead no, fun _ _ => stands.1, fun _ no => absurd no sides⟩
    · have unfollowed : follows s.closeHorizons r = false := Bool.eq_false_iff.mpr fun f => ahead (past.mp f)
      rw [if_pos (by rw [unfollowed]; decide)] at four
      have six : s.row6 r = s.row4 r := State.step6_other (by rw [four]; nofun)
      have seven : s.row7 r = s.row6 r := State.step7_other (by rw [six, four]; nofun)
      have keep : s.row8 r = { s.row1 r with fate := some .keep } := last.trans (seven.trans (six.trans four))
      exact ⟨by rw [keep]; exact still, fun p => absurd p routed, fun _ _ => State.fated_fate (by rw [keep]),
        fun p => absurd p ahead, fun p => absurd p ahead⟩

/-- 09 R149, R152: a record resting in a CLEARS_DOWN segment. -/
theorem State.ClosedFrom.clears_stands {r : SheetRecord} (hr : r ∈ s.roster.records) (tray : (s.place r).tray = false)
    (spared : s.goneAtClose r = false) {x : Rest} (rest : (s.place r).rest = some x)
    (clears : s.classIs x.station .clearsDown = true) : let first := t.firstPath r x
      (r.purgeRouted = true → t.purgedMoving (s.fated r) (s.row8 r).d x first) ∧
      (r.purgeRouted = false → ¬ t.pastHorizon r → (s.row8 r).d.moving = true ∧ (s.row8 r).d.runPath = first ∧
        (∀ q ∈ first.getLast?, t.classIs q .holds = true → q ≠ r.exit →
          (s.fated r).fate = some .park ∧ (s.row8 r).d.parkTarget = some q) ∧
        ((∀ q ∈ first.getLast?, t.classIs q .holds = true → q = r.exit) → (s.fated r).fate = some .deliver)) ∧
      (t.pastHorizon r →
        (t.pathFails x.station (t.purgeAfter x.station) → (s.fated r).fate = some .lost) ∧
        (¬ t.pathFails x.station (t.purgeAfter x.station) →
          t.purgedMoving (s.fated r) (s.row8 r).d x (t.purgeAfter x.station))) := by
  intro first
  have firstEq : s.firstRunout r x = first := h.firstRunout_eq r x
  have notHolds : s.classIs x.station .holds = false := by
    unfold State.classIs at clears ⊢
    cases summary : s.summaryOf x.station with
    | none => rfl
    | some m =>
      rw [summary, Option.any_some, beq_iff_eq] at clears
      rw [Option.any_some, clears]
      rfl
  have four : s.row4 r = s.step4 false s.closeHorizons s.lostNow x (s.row1 r) :=
    (State.row4_resting spared tray rest).trans (if_neg (by simp [notHolds]))
  have step : s.step4 false s.closeHorizons s.lostNow x (s.row1 r) =
      if r.purgeRouted then (s.row1 r).move .purge first none (s.purgeExitOf x.station)
      else if !follows s.closeHorizons r then
        match first.getLast? with
        | some q => if s.classIs q .holds && q != r.exit then (s.row1 r).move .park first (some q) none
            else (s.row1 r).move .deliver first none none
        | none => (s.row1 r).move .deliver first none none
      else if s.unusable s.lostNow x.station (s.purgeAfter x.station) then { s.row1 r with fate := some .lost }
      else (s.row1 r).move .purge (s.purgeAfter x.station) none (s.purgeExitOf x.station) := by
    rw [State.row1_spared spared, ← firstEq]
    rfl
  rw [step] at four
  have last : s.row8 r = s.row7 r := State.row8_moved tray
  have past := h.follows_iff calm r
  have done {w : FateRow} (is : s.row4 r = w) (notRelease : w.fate ≠ some .release) : s.row6 r = w :=
    (State.step6_other (is ▸ notRelease)).trans is
  have settled {w : FateRow} (is : s.row4 r = w) (notRelease : w.fate ≠ some .release) (notPurge : w.fate ≠ some .purge) :
      s.row8 r = w := by
    have six := done is notRelease
    have seven : s.row7 r = s.row6 r := State.step7_other (six.symm ▸ notPurge)
    exact last.trans (seven.trans six)
  rw [h.classIs, h.purgeAfter, ← h.unusable_iff calm]
  by_cases routed : r.purgeRouted = true
  · have six := done (four.trans (if_pos routed)) nofun
    have unpast : ¬ t.pastHorizon r := fun ⟨free, _⟩ => absurd (routed.symm.trans free) nofun
    exact ⟨fun _ => h.moved_stands calm hr tray six, fun free => absurd (routed.symm.trans free) nofun, fun p => absurd p unpast⟩
  · rw [if_neg routed] at four
    refine ⟨fun p => absurd p routed, fun _ behind => ?_, fun ahead => ?_⟩
    · have unfollowed : follows s.closeHorizons r = false := Bool.eq_false_iff.mpr fun f => behind (past.mp f)
      rw [if_pos (by rw [unfollowed]; decide)] at four
      cases ends : first.getLast? with
      | none =>
        rw [ends] at four
        have final := settled four nofun nofun
        exact ⟨by rw [final]; rfl, by rw [final]; rfl, nofun, fun _ => State.fated_fate (by rw [final]; rfl)⟩
      | some q =>
        rw [ends] at four
        by_cases parks : (s.classIs q .holds && q != r.exit) = true
        · have final := settled (four.trans (if_pos parks)) nofun nofun
          obtain ⟨holds, other⟩ := Bool.and_eq_true_iff.mp parks
          refine ⟨by rw [final]; rfl, by rw [final]; rfl, fun p hp _ _ => ?_, fun only => ?_⟩
          · obtain rfl := Option.some.inj hp
            exact ⟨State.fated_fate (by rw [final]; rfl), by rw [final]; rfl⟩
          · exact absurd (only q rfl holds) (by simpa using other)
        · have final := settled (four.trans (if_neg parks)) nofun nofun
          refine ⟨by rw [final]; rfl, by rw [final]; rfl, fun p hp holds other => ?_,
            fun _ => State.fated_fate (by rw [final]; rfl)⟩
          obtain rfl := Option.some.inj hp
          exact absurd (by simp [holds, other]) parks
    · rw [if_neg (by rw [past.mpr ahead]; decide)] at four
      refine ⟨fun fails => ?_, fun usable => ?_⟩
      · have final := settled (four.trans (if_pos fails)) nofun nofun
        exact State.fated_fate (by rw [final])
      · exact h.moved_stands calm hr tray (done (four.trans (if_neg usable)) nofun)

/-- 09 R146, R148, R149, R153: the fate of a record stands. -/
theorem State.ClosedFrom.fate_stands {r : SheetRecord} (hr : r ∈ s.roster.records) :
    t.fateStands (s.fated r) (s.row8 r).d := by
  obtain ⟨-, tray, -, rest⟩ := s.row8_place r
  have gone : s.goneAtClose r = true ↔ t.lostByCondition (s.fated r) (s.row8 r).d := h.gone_iff calm hr
  refine ⟨fun inTray => ?_, fun out => ?_, fun lost => ?_, fun x hx out kept => ?_⟩
  · obtain ⟨-, final⟩ := h.tray_row hr (tray.symm.trans inTray)
    refine ⟨State.fated_fate (by rw [final]), ?_⟩
    have any : (horizonOf s.closeHorizons r).isSome = (horizonOf s.closeHorizons r).any fun _ => true := by
      cases horizonOf s.closeHorizons r <;> rfl
    rw [final, any, State.horizonOf_any, h.horizons calm]
    simp [State.fated]
  · rw [State.row8_moved (tray.symm.trans out)]
    exact s.row7_withdrawn r
  · obtain ⟨-, final⟩ := h.gone_row hr (gone.mpr lost)
    exact State.fated_fate (by rw [final])
  · have spared : s.goneAtClose r = false := Bool.eq_false_iff.mpr fun lost => kept (gone.mp lost)
    have moved : (s.place r).tray = false := tray.symm.trans out
    have resting : (s.place r).rest = some x := rest.symm.trans hx
    refine ⟨fun holds => ?_, fun clears => ?_⟩
    · exact h.holds_stands calm hr moved spared resting (h.classIs ▸ holds)
    · exact h.clears_stands calm hr moved spared resting (h.classIs ▸ clears)

end

end Sys2Proof.Machine
end

section
/-! PROOFS. The horizons and the forfeited sets of a survey close (09 R147; for O60). -/

namespace Sys2Proof.Machine

/-- 09 R147: the records LOST in step 1 that give the destination a horizon. -/
def State.lostFor (s : State) (dest : Pos × Nat) : List SheetRecord :=
  s.roster.records.filter fun r => s.goneAtClose r && !r.purgeRouted && (r.exit, r.bin) == dest

theorem State.mem_lostFor (s : State) (dest : Pos × Nat) (r : SheetRecord) : r ∈ s.lostFor dest ↔
    r ∈ s.roster.records ∧ s.goneAtClose r = true ∧ r.purgeRouted = false ∧ (r.exit, r.bin) = dest := by
  simp only [State.lostFor, List.mem_filter, Bool.and_eq_true, Bool.not_eq_true', beq_iff_eq, and_assoc]

theorem State.row1_lost (s : State) (r : SheetRecord) : ((s.row1 r).fate == some .lost) = s.goneAtClose r := by
  unfold State.row1
  cases s.goneAtClose r <;> rfl

theorem State.lostFor_rows (s : State) (dest : Pos × Nat) :
    ((s.step1 false).filter fun w => w.fate == some .lost && !w.sheet.purgeRouted && (w.sheet.exit, w.sheet.bin) == dest) =
      (s.lostFor dest).map s.row1 := by
  rw [State.step1_rows, List.filter_map, State.lostFor]
  refine congrArg (List.map s.row1) (List.filter_congr fun r _ => ?_)
  rw [Function.comp_apply, State.row1_lost, (s.row1_shape r).1]

/-- 09 R147: the set that the horizon record with this serial forfeits. -/
def State.forfeitAt (s : State) (dest : Pos × Nat) (x : Serial) : Option ForfeitedSet :=
  ((s.lostFor dest).find? fun r => r.serial == x).bind fun r => s.forfeitOf dest.1 dest.2 r

/-- 09 R147: the horizon of a destination whose earliest LOST serial is `x`. -/
def State.horizonFrom (s : State) (dest : Pos × Nat) (x : Serial) : Horizon :=
  { exit := dest.1, bin := dest.2
    serial := (s.recovery.account.ejected.filter fun f => f.exit == dest.1 && f.bin == dest.2).foldl (fun a f => backTo f a)
      (match s.forfeitAt dest x with | some f => backTo f x | none => x) }

theorem State.horizonAt_eq (s : State) (dest : Pos × Nat) : s.horizonAt (s.step1 false) dest =
    (earliest ((s.lostFor dest).map (·.serial))).map fun x => (s.horizonFrom dest x, s.forfeitAt dest x) := by
  have serials : ((s.lostFor dest).map s.row1).map (·.sheet.serial) = (s.lostFor dest).map (·.serial) := by
    rw [List.map_map]
    refine List.map_congr_left fun r _ => ?_
    rw [Function.comp_apply, (s.row1_shape r).1]
  have forfeit (x : Serial) : ((((s.lostFor dest).map s.row1).find? fun w => w.sheet.serial == x).bind fun w =>
      s.forfeitOf dest.1 dest.2 w.sheet) = s.forfeitAt dest x := by
    have keyed : (fun w : FateRow => w.sheet.serial == x) ∘ s.row1 = fun r => r.serial == x := by
      funext r
      rw [Function.comp_apply, (s.row1_shape r).1]
    rw [List.find?_map, keyed, Option.bind_map, State.forfeitAt]
    refine congrArg _ (funext fun r => ?_)
    rw [Function.comp_apply, (s.row1_shape r).1]
  unfold State.horizonAt
  dsimp only
  rw [State.lostFor_rows, serials]
  cases earliest ((s.lostFor dest).map (·.serial)) with
  | none => rfl
  | some x =>
    dsimp only
    rw [forfeit]
    rfl

theorem State.mem_lostDestinations (s : State) (dest : Pos × Nat) :
    dest ∈ lostDestinations (s.step1 false) ↔ ∃ r, r ∈ s.lostFor dest := by
  unfold lostDestinations
  rw [List.mem_eraseDups, State.step1_rows, List.filter_map, List.map_map, List.mem_map]
  refine exists_congr fun r => ?_
  rw [State.mem_lostFor, List.mem_filter, Function.comp_apply, Function.comp_apply, State.row1_lost, (s.row1_shape r).1,
    Bool.and_eq_true, Bool.not_eq_true', and_assoc, and_assoc]

/-- 09 R147: a destination and the earliest of its LOST serials. -/
theorem State.mem_foundAtClose (s : State) (f : Horizon × Option ForfeitedSet) : f ∈ s.foundAtClose ↔
    ∃ dest x, earliest ((s.lostFor dest).map (·.serial)) = some x ∧ f = (s.horizonFrom dest x, s.forfeitAt dest x) := by
  unfold State.foundAtClose
  rw [List.mem_filterMap]
  refine exists_congr fun dest => ?_
  rw [State.horizonAt_eq, Option.map_eq_some_iff]
  constructor
  · rintro ⟨-, x, first, rfl⟩
    exact ⟨x, first, rfl⟩
  · rintro ⟨x, first, rfl⟩
    obtain ⟨r, hr, -⟩ := List.mem_map.mp (earliest_mem first)
    exact ⟨(s.mem_lostDestinations dest).mpr ⟨r, hr⟩, x, first, rfl⟩

/-- 09 R147: the set of an exit station's report that `r` forfeits. -/
def SheetRecord.forfeit (r : SheetRecord) (l : SurveySet) : ForfeitedSet :=
  { exit := r.exit, bin := r.bin, job := l.job, set := l.set, media := r.media, entries := l.entries }

section
variable {s t : State} (h : s.ClosedFrom t)
include h

theorem State.ClosedFrom.forfeitOf_iff (r : SheetRecord) (g : ForfeitedSet) : s.forfeitOf r.exit r.bin r = some g ↔
    ∃ l, t.forfeits r l ∧ g = r.forfeit l := by
  unfold State.forfeits State.forfeitOf
  rw [h.summaryOf, h.positionReport, h.account]
  cases s.summaryOf r.exit with
  | none => simp
  | some m =>
    cases (s.positionReport r.exit).sets.find? fun x => x.bin == r.bin && x.complete with
    | none => simp
    | some l =>
      dsimp only
      have conditions : (r.bin != 0 && m.bins[r.bin - 1]? == some .finishing && m.policy == .forfeit && l.job == r.job
          && l.set == r.set && !s.recovery.account.ejected.any fun f =>
            f.exit == r.exit && f.bin == r.bin && f.job == l.job && f.set == l.set) = true ↔
          (m.policy = .forfeit ∧ 1 ≤ r.bin ∧ m.bins[r.bin - 1]? = some .finishing) ∧ l.job = r.job ∧ l.set = r.set ∧
            ∀ f ∈ s.recovery.account.ejected, ¬ (f.exit = r.exit ∧ f.bin = r.bin ∧ f.job = l.job ∧ f.set = l.set) := by
        simp only [Bool.and_eq_true, bne_iff_ne, beq_iff_eq, Bool.not_eq_true', List.any_eq_false, ← Nat.one_le_iff_ne_zero,
          and_assoc]
        grind
      split
      · next holds =>
        obtain ⟨⟨policy, bin, finishing⟩, job, set, free⟩ := conditions.mp holds
        constructor
        · intro found
          exact ⟨l, ⟨⟨m, rfl, policy, bin, finishing⟩, rfl, job, set, free⟩, (Option.some.inj found).symm⟩
        · rintro ⟨k, ⟨-, same, -⟩, rfl⟩
          obtain rfl := Option.some.inj same
          rfl
      · next fails =>
        refine ⟨nofun, ?_⟩
        rintro ⟨k, ⟨⟨n, hn, policy, bin, finishing⟩, same, job, set, free⟩, -⟩
        obtain rfl := Option.some.inj same
        obtain rfl := Option.some.inj hn
        exact absurd (conditions.mpr ⟨⟨policy, bin, finishing⟩, job, set, free⟩) fails

end

theorem State.ejectMark_kept (s : State) (again : Bool) (rows : List FateRow) (sets : List ForfeitedSet) (f : ForfeitedSet) :
    let g := s.ejectMark again rows sets f
    g.exit = f.exit ∧ g.bin = f.bin ∧ g.job = f.job ∧ g.set = f.set ∧ g.media = f.media ∧ g.entries = f.entries ∧
      g.ejected = f.ejected ∧ (f.ejected = true → g = f) := by
  unfold State.ejectMark
  dsimp only
  split
  · exact ⟨rfl, rfl, rfl, rfl, rfl, rfl, rfl, fun _ => rfl⟩
  · next live => exact ⟨rfl, rfl, rfl, rfl, rfl, rfl, rfl, fun ejected => absurd ejected live⟩

theorem State.ClosedFrom.forfeitAt_own {s t : State} (h : s.ClosedFrom t) {r : SheetRecord} (listed : r ∈ s.lostFor (r.exit, r.bin)) :
    s.forfeitAt (r.exit, r.bin) r.serial = s.forfeitOf r.exit r.bin r := by
  have nodup : ((s.lostFor (r.exit, r.bin)).map (·.serial)).Nodup := h.nodup.sublist (List.filter_sublist.map _)
  rw [State.forfeitAt, find?_key (·.serial) nodup listed]
  rfl

section
variable {s t : State} (h : s.ClosedFrom t) (calm : s.recovery.escalated = false)
include h calm

theorem State.ClosedFrom.setsHorizon_iff {r : SheetRecord} (hr : r ∈ s.roster.records) (exit : Pos) (bin : Nat) :
    t.setsHorizon exit bin (s.fated r) ↔ r ∈ s.lostFor (exit, bin) := by
  have gone : s.goneAtClose r = true ↔ t.lostByCondition (s.fated r) (s.row8 r).d := h.gone_iff calm hr
  have own : t.detail (s.fated r).serial = some (s.row8 r).d := h.detail calm hr
  rw [State.mem_lostFor, gone, Prod.mk.injEq]
  constructor
  · rintro ⟨-, free, here, bins, d, found, lost⟩
    obtain rfl := Option.some.inj (own.symm.trans found)
    exact ⟨hr, lost, free, here, bins⟩
  · rintro ⟨-, lost, free, here, bins⟩
    exact ⟨h.recordsFated calm ▸ List.mem_map_of_mem hr, free, here, bins, _, own, lost⟩

theorem State.ClosedFrom.mem_records {q : SheetRecord} (hq : q ∈ t.roster.records) : ∃ r ∈ s.roster.records, s.fated r = q :=
  List.mem_map.mp (h.recordsFated calm ▸ hq)

/-- 09 R147: a forfeited set of the computation, with its mark. -/
theorem State.ClosedFrom.marked {f : ForfeitedSet} (hf : f ∈ s.closeForfeits) : ∃ g ∈ t.recovery.fates.forfeited,
    g.exit = f.exit ∧ g.bin = f.bin ∧ g.job = f.job ∧ g.set = f.set ∧ g.media = f.media ∧ g.entries = f.entries ∧
      g.ejected = f.ejected := by
  obtain ⟨exit, bin, job, set, media, entries, ejected, -⟩ :=
    s.ejectMark_kept false (s.roster.records.map s.row6) s.closeForfeits f
  exact ⟨_, h.forfeited calm ▸ List.mem_map_of_mem hf, exit, bin, job, set, media, entries, ejected⟩

/-- 09 R147: the horizon record of a destination. -/
theorem State.ClosedFrom.horizonRecord_first {r : SheetRecord} (hr : r ∈ s.roster.records)
    (first : t.horizonRecord r.exit r.bin (s.fated r)) : FirstOf ((s.lostFor (r.exit, r.bin)).map (·.serial)) r.serial := by
  obtain ⟨sets, least⟩ := first
  refine ⟨List.mem_map_of_mem ((h.setsHorizon_iff calm hr _ _).mp sets), fun x hx => ?_⟩
  obtain ⟨q, hq, rfl⟩ := List.mem_map.mp hx
  have known := ((s.mem_lostFor _ q).mp hq).1
  have setsQ := (h.setsHorizon_iff calm known r.exit r.bin).mpr hq
  exact (atOrAfter_iff _ _).mpr (least (s.fated q) (h.recordsFated calm ▸ List.mem_map_of_mem known) setsQ)

/-- 09 R147: the horizons and the forfeited sets stand. -/
theorem State.ClosedFrom.horizons_stand : t.horizonsStand := by
  have mem_found {dest : Pos × Nat} {x : Serial} (first : earliest ((s.lostFor dest).map (·.serial)) = some x) :
      (s.horizonFrom dest x, s.forfeitAt dest x) ∈ s.foundAtClose := (s.mem_foundAtClose _).mpr ⟨dest, x, first, rfl⟩
  refine ⟨fun g hg => ?_, fun q hq sets => ?_, fun f hf => ?_⟩
  · rw [h.horizons calm] at hg
    obtain ⟨f, hf, rfl⟩ := List.mem_map.mp hg
    obtain ⟨dest, x, first, rfl⟩ := (s.mem_foundAtClose f).mp hf
    obtain ⟨r, hr, -⟩ := List.mem_map.mp (earliest_mem first)
    have known := ((s.mem_lostFor dest r).mp hr).1
    exact ⟨s.fated r, h.recordsFated calm ▸ List.mem_map_of_mem known, (h.setsHorizon_iff calm known dest.1 dest.2).mpr hr⟩
  · obtain ⟨r, hr, rfl⟩ := h.mem_records calm hq
    let dest : Pos × Nat := (r.exit, r.bin)
    have listed : r ∈ s.lostFor dest := (h.setsHorizon_iff calm hr _ _).mp sets
    have some : ∃ x, earliest ((s.lostFor dest).map (·.serial)) = some x := by
      cases first : earliest ((s.lostFor dest).map (·.serial)) with
      | none => rw [List.map_eq_nil_iff.mp (earliest_none first)] at listed; cases listed
      | some x => exact ⟨x, rfl⟩
    obtain ⟨x, first⟩ := some
    have found := mem_found first
    refine ⟨s.horizonFrom dest x, h.horizons calm ▸ List.mem_map_of_mem found, rfl, rfl, fun record => ?_⟩
    obtain rfl : x = r.serial :=
      Option.some.inj (first.symm.trans (earliest_eq (h.horizonRecord_first calm hr record)))
    have own : s.forfeitAt dest r.serial = s.forfeitOf r.exit r.bin r := h.forfeitAt_own listed
    refine ⟨fun unforfeited => ?_, fun l hl forfeits => ⟨?_, fun unejected e he => ?_⟩⟩
    · have none : s.forfeitAt dest r.serial = none := by
        cases forfeit : s.forfeitAt dest r.serial with
        | none => rfl
        | some g =>
          obtain ⟨l, -, rfl⟩ := (h.forfeitOf_iff r g).mp (own ▸ forfeit)
          have mem : r.forfeit l ∈ s.closeForfeits :=
            List.mem_append_left _ (List.mem_filterMap.mpr ⟨_, found, forfeit⟩)
          obtain ⟨m, hm, exit, bin, -⟩ := h.marked calm mem
          exact absurd ⟨exit, bin⟩ (unforfeited m hm)
      have noneEjected : (s.recovery.account.ejected.filter fun f => f.exit == dest.1 && f.bin == dest.2) = [] := by
        rw [List.filter_eq_nil_iff]
        intro g hg fits
        simp only [Bool.and_eq_true, beq_iff_eq] at fits
        have mem : { g with eject := true, ejected := true, complete := true } ∈ s.closeForfeits :=
          List.mem_append_right _ (List.mem_map_of_mem hg)
        obtain ⟨m, hm, exit, bin, -⟩ := h.marked calm mem
        exact absurd ⟨exit.trans fits.1, bin.trans fits.2⟩ (unforfeited m hm)
      rw [State.horizonFrom, noneEjected, none]
      rfl
    · have forfeit := (h.forfeitOf_iff r (r.forfeit l)).mpr ⟨l, forfeits, rfl⟩
      have mem : r.forfeit l ∈ s.closeForfeits :=
        List.mem_append_left _ (List.mem_filterMap.mpr ⟨_, found, own.trans forfeit⟩)
      obtain ⟨m, hm, exit, bin, job, set, media, entries, ejected⟩ := h.marked calm mem
      exact ⟨m, hm, exit, bin, job, set, media, entries, ejected⟩
    · have forfeit := (h.forfeitOf_iff r (r.forfeit l)).mpr ⟨l, forfeits, rfl⟩
      have noneEjected : (s.recovery.account.ejected.filter fun f => f.exit == dest.1 && f.bin == dest.2) = [] := by
        rw [List.filter_eq_nil_iff]
        intro g hg fits
        simp only [Bool.and_eq_true, beq_iff_eq] at fits
        exact unejected g (h.account ▸ hg) fits
      rw [State.horizonFrom, noneEjected, own.trans forfeit]
      have head : l.entries.head? = .some e := he
      unfold backTo SheetRecord.forfeit
      dsimp only [List.foldl_nil]
      rw [head]
      rfl
  · rw [h.forfeited calm] at hf
    obtain ⟨g, hg, rfl⟩ := List.mem_map.mp hf
    obtain ⟨exit, bin, job, set, media, entries, ejected, same⟩ :=
      s.ejectMark_kept false (s.roster.records.map s.row6) s.closeForfeits g
    rcases List.mem_append.mp hg with found | account
    · right
      obtain ⟨f, hf, forfeit⟩ := List.mem_filterMap.mp found
      obtain ⟨dest, x, first, rfl⟩ := (s.mem_foundAtClose f).mp hf
      obtain ⟨r, found, forfeitOf⟩ := Option.bind_eq_some_iff.mp forfeit
      have listed := List.mem_of_find?_eq_some found
      obtain ⟨known, -, -, rfl⟩ := (s.mem_lostFor dest r).mp listed
      obtain ⟨l, forfeits, rfl⟩ := (h.forfeitOf_iff r g).mp forfeitOf
      have reported : l ∈ (t.positionReport r.exit).sets := by
        obtain ⟨-, found, -⟩ := forfeits
        exact List.mem_of_find?_eq_some found
      rw [exit, bin, entries, job, set, ejected]
      exact ⟨rfl, s.fated r, h.recordsFated calm ▸ List.mem_map_of_mem known,
        (h.setsHorizon_iff calm known r.exit r.bin).mpr listed, l, reported, forfeits, rfl, rfl, rfl⟩
    · left
      obtain ⟨k, hk, rfl⟩ := List.mem_map.mp account
      rw [same rfl]
      exact ⟨rfl, k, h.account ▸ hk, rfl⟩

end

end Sys2Proof.Machine
end

section
/-! PROOFS. The reprint list, as the state that holds it shows it (09 R150, R151; for O60). -/

namespace Sys2Proof.Machine

/-! ### The items that a state shows -/

/-- 09 R150: the items of the records given up, of the account and of the forfeited sets. -/
def State.reprintable (t : State) : List PlanEntryFields :=
  (t.roster.records.filter fun r => decide r.givenUp).map SheetRecord.reprintItem ++ t.recovery.account.purged ++
    t.recovery.fates.forfeited.flatMap fun f => f.entries.map f.reprintItem

/-- 09 R150: the items, one for each serial, in modular order. -/
def State.items (t : State) : List PlanEntryFields := sortBySerial (·.replaced) (onePerSerial t.reprintable)

/-- 09 R150, R151: the reprint list is the first `k` of the items, with the carriers `rs`. -/
structure State.Reprinted (t : State) (rs : List SheetRecord) (k : Nat) : Prop where
  list : t.recovery.fates.reprint = bindCarriers rs (numbered 1 (t.items.take k))
  omitted : t.recovery.fates.omitted = (t.items.drop k).length
  nodup : (t.roster.records.map (·.serial)).Nodup

theorem State.mem_items (t : State) (i : PlanEntryFields) : i ∈ t.items ↔ i ∈ onePerSerial t.reprintable :=
  (sortBySerial_perm _ _).mem_iff

theorem State.items_nodup (t : State) : (t.items.map (·.replaced)).Nodup :=
  (((sortBySerial_perm _ _).map _).nodup_iff).mpr (onePerSerial_nodup _)

/-- 09 R150: where an item comes from. -/
theorem State.mem_reprintable {t : State} {i : PlanEntryFields} (h : i ∈ t.reprintable) :
    (∃ r ∈ t.roster.records, r.givenUp ∧ r.reprintItem = i) ∨ i ∈ t.recovery.account.purged ∨
      ∃ f ∈ t.recovery.fates.forfeited, ∃ x ∈ f.entries, f.reprintItem x = i := by
  rcases List.mem_append.mp h with first | sets
  · rcases List.mem_append.mp first with listed | account
    · obtain ⟨r, hr, rfl⟩ := List.mem_map.mp listed
      obtain ⟨known, given⟩ := List.mem_filter.mp hr
      exact .inl ⟨r, known, of_decide_eq_true given, rfl⟩
    · exact .inr (.inl account)
  · obtain ⟨f, hf, hi⟩ := List.mem_flatMap.mp sets
    obtain ⟨x, hx, rfl⟩ := List.mem_map.mp hi
    exact .inr (.inr ⟨f, hf, x, hx, rfl⟩)

theorem State.item_of_items {t : State} {i : PlanEntryFields} (h : i ∈ t.items) : i ∈ t.reprintable :=
  (onePerSerial_sublist _).subset ((t.mem_items i).mp h)

/-- Log 55: the item of a record stands. -/
theorem State.Reprinted.record_item {t : State} {rs : List SheetRecord} {k : Nat} (h : t.Reprinted rs k) {r : SheetRecord}
    (hr : r ∈ t.roster.records) (given : r.givenUp) : r.reprintItem ∈ t.items := by
  rw [State.mem_items, State.reprintable, List.append_assoc]
  refine onePerSerial_first _ _ ?_ _ (List.mem_map_of_mem (List.mem_filter.mpr ⟨hr, decide_eq_true given⟩))
  rw [List.map_map]
  exact h.nodup.sublist (List.filter_sublist.map _)

/-- Log 55: of two items of one sheet that of its record stands, then that of the account. -/
theorem State.account_item {t : State} {a : PlanEntryFields} (ha : a ∈ t.recovery.account.purged)
    (free : ∀ r ∈ t.roster.records, r.givenUp → r.serial ≠ a.replaced) :
    ∃ b ∈ t.recovery.account.purged, b.replaced = a.replaced ∧ b ∈ t.items := by
  obtain ⟨b, hb, same, stands⟩ := onePerSerial_stands
    ((t.roster.records.filter fun r => decide r.givenUp).map SheetRecord.reprintItem ++ t.recovery.account.purged)
    (t.recovery.fates.forfeited.flatMap fun f => f.entries.map f.reprintItem) a (List.mem_append_right _ ha)
  rcases List.mem_append.mp hb with listed | account
  · obtain ⟨r, hr, rfl⟩ := List.mem_map.mp listed
    obtain ⟨known, given⟩ := List.mem_filter.mp hr
    exact absurd same (free r known (of_decide_eq_true given))
  · exact ⟨b, account, same, (t.mem_items b).mpr stands⟩

theorem State.set_item {t : State} {f : ForfeitedSet} {x : SetEntry} (hf : f ∈ t.recovery.fates.forfeited) (hx : x ∈ f.entries)
    (free : ∀ r ∈ t.roster.records, r.givenUp → r.serial ≠ x.serial)
    (unpurged : ∀ a ∈ t.recovery.account.purged, a.replaced ≠ x.serial) :
    ∃ g ∈ t.recovery.fates.forfeited, ∃ y ∈ g.entries, y.serial = x.serial ∧ g.reprintItem y ∈ t.items := by
  have listed : f.reprintItem x ∈ t.reprintable :=
    List.mem_append_right _ (List.mem_flatMap.mpr ⟨f, hf, List.mem_map_of_mem hx⟩)
  obtain ⟨b, stands, same⟩ := onePerSerial_covers t.reprintable _ listed
  have item := (t.mem_items b).mpr stands
  rcases State.mem_reprintable (State.item_of_items item) with ⟨r, hr, given, rfl⟩ | account | ⟨g, hg, y, hy, rfl⟩
  · exact absurd same (free r hr given)
  · exact absurd same (unpurged b account)
  · exact ⟨g, hg, y, hy, same, item⟩

/-! ### The list -/

/-- Two entries with the same bare entry differ in their carriers alone. -/
theorem PlanEntryFields.eq_of_bare {e f : PlanEntryFields} (h : PlanEntryFields.bare e = PlanEntryFields.bare f) :
    e = { f with carrier := e.carrier } :=
  congrArg (fun g : PlanEntryFields => { g with carrier := e.carrier }) h

section
variable {t : State} {rs : List SheetRecord} {k : Nat} (h : t.Reprinted rs k)
include h

/-- 09 R150: the entry at a place of the list. -/
theorem State.Reprinted.entry (i : Nat) : t.recovery.fates.reprint[i]?.map PlanEntryFields.bare =
    (t.items.take k)[i]?.map fun e =>
      { e with index := 1 + i, carrier := none, lastEntry := decide (i + 1 = (t.items.take k).length) } := by
  have bare := congrArg (fun xs : List PlanEntryFields => xs[i]?) (bindCarriers_bare rs (numbered 1 (t.items.take k)))
  rw [← h.list, List.getElem?_map, List.getElem?_map, numbered_getElem, Option.map_map] at bare
  exact bare

theorem State.Reprinted.length : t.recovery.fates.reprint.length = (t.items.take k).length := by
  have sizes (xs ys : List PlanEntryFields) (same : ∀ i : Nat, xs[i]?.isSome = ys[i]?.isSome) : xs.length = ys.length := by
    refine Nat.le_antisymm (Nat.le_of_not_lt fun more => ?_) (Nat.le_of_not_lt fun more => ?_)
    · have := same ys.length
      simp [more] at this
    · have := same xs.length
      simp [more] at this
  refine sizes _ _ fun i => ?_
  have entry := congrArg Option.isSome (h.entry i)
  rwa [Option.isSome_map, Option.isSome_map] at entry

/-- An entry of the list carries an item. -/
theorem State.Reprinted.item_of_entry {i : Nat} {e : PlanEntryFields} (he : t.recovery.fates.reprint[i]? = some e) :
    ∃ x, (t.items.take k)[i]? = some x ∧ e = { x with index := 1 + i, carrier := e.carrier, lastEntry := e.lastEntry } ∧
      (e.lastEntry = true ↔ i + 1 = t.recovery.fates.reprint.length) := by
  have entry := h.entry i
  rw [he, Option.map_some] at entry
  obtain ⟨x, hx, same⟩ := Option.map_eq_some_iff.mp entry.symm
  have whole := PlanEntryFields.eq_of_bare (e := e)
    (f := { x with index := 1 + i, carrier := none, lastEntry := decide (i + 1 = (t.items.take k).length) }) same.symm
  have last : e.lastEntry = decide (i + 1 = (t.items.take k).length) := congrArg PlanEntryFields.lastEntry same.symm
  refine ⟨x, hx, ?_, ?_⟩
  · rw [last]
    exact whole
  · rw [last, decide_eq_true_eq, h.length]

theorem State.Reprinted.mem_item {e : PlanEntryFields} (he : e ∈ t.recovery.fates.reprint) :
    ∃ x ∈ t.items, e = { x with index := e.index, carrier := e.carrier, lastEntry := e.lastEntry } := by
  obtain ⟨i, hi⟩ := List.mem_iff_getElem?.mp he
  obtain ⟨x, hx, same, -⟩ := h.item_of_entry hi
  refine ⟨x, List.mem_of_mem_take (List.mem_of_getElem? hx), ?_⟩
  have index : e.index = 1 + i := congrArg PlanEntryFields.index same
  rw [index]
  exact same

/-- 09 R150: with no entry omitted every item is in the list. -/
theorem State.Reprinted.reprints {x : PlanEntryFields} (whole : t.recovery.fates.omitted = 0) (hx : x ∈ t.items) :
    t.reprints x := by
  have all : t.items.take k = t.items := by
    rw [h.omitted, List.length_drop] at whole
    exact List.take_of_length_le (Nat.le_of_sub_eq_zero whole)
  obtain ⟨i, hi⟩ := List.mem_iff_getElem?.mp hx
  have entry := h.entry i
  rw [all, hi, Option.map_some] at entry
  obtain ⟨e, he, -⟩ := Option.map_eq_some_iff.mp entry
  obtain ⟨y, hy, same, -⟩ := h.item_of_entry he
  rw [all, hi] at hy
  obtain rfl := Option.some.inj hy
  refine ⟨e, List.mem_of_getElem? he, ?_⟩
  have index : e.index = 1 + i := congrArg PlanEntryFields.index same
  rw [index]
  exact same

theorem State.Reprinted.replaced : t.recovery.fates.reprint.map (·.replaced) = (t.items.take k).map (·.replaced) := by
  refine List.ext_getElem? fun i => ?_
  rw [List.getElem?_map, List.getElem?_map]
  have entry := congrArg (Option.map PlanEntryFields.replaced) (h.entry i)
  rwa [Option.map_map, Option.map_map] at entry

theorem State.Reprinted.list_nodup : (t.recovery.fates.reprint.map (·.replaced)).Nodup := by
  rw [h.replaced]
  exact t.items_nodup.sublist ((List.take_sublist _ _).map _)

/-- 09 R150: the list is in modular order from its first serial. -/
theorem State.Reprinted.ordered (whole : t.recovery.fates.omitted = 0) {first : PlanEntryFields}
    (hf : first ∈ t.recovery.fates.reprint)
    (least : ∀ e ∈ t.recovery.fates.reprint, e.replaced = first.replaced ∨ precedes first.replaced e.replaced = true) :
    t.recovery.fates.reprint.Pairwise fun a b =>
      (a.replaced - first.replaced).toNat < (b.replaced - first.replaced).toNat := by
  have all : t.items.take k = t.items := by
    rw [h.omitted, List.length_drop] at whole
    exact List.take_of_length_le (Nat.le_of_sub_eq_zero whole)
  have serials : t.recovery.fates.reprint.map (·.replaced) = t.items.map (·.replaced) := by rw [h.replaced, all]
  have perm : (t.items.map PlanEntryFields.replaced).Perm ((onePerSerial t.reprintable).map PlanEntryFields.replaced) :=
    (sortBySerial_perm _ _).map _
  have firstOf : FirstOf ((onePerSerial t.reprintable).map (·.replaced)) first.replaced := by
    refine ⟨perm.mem_iff.mp (serials ▸ List.mem_map_of_mem hf), fun x hx => ?_⟩
    obtain ⟨e, he, rfl⟩ := List.mem_map.mp (serials.symm ▸ perm.mem_iff.mpr hx)
    exact (atOrAfter_iff _ _).mpr (least e he)
  have sorted := sortBySerial_strict PlanEntryFields.replaced (onePerSerial_nodup t.reprintable) firstOf
  let before (a b : Serial) : Prop := (a - first.replaced).toNat < (b - first.replaced).toNat
  have keys : (t.items.map (·.replaced)).Pairwise before := List.pairwise_map.mpr sorted
  rw [← serials] at keys
  exact List.Pairwise.of_map (R := fun a b => before a.replaced b.replaced) PlanEntryFields.replaced (fun _ _ lt => lt) keys

/-- 09 R151: the carriers, in the order of the records they are. -/
theorem State.Reprinted.carriers : ∃ bound free, t.recovery.fates.reprint = bound ++ free ∧ (∀ e ∈ bound, e.carrier.isSome = true) ∧
    (∀ e ∈ free, e.carrier = none) ∧
      ∃ n, t.recovery.fates.reprint.filterMap (·.carrier) = (rs.take n).map (·.serial) := by
  have unbound : ∀ e ∈ numbered 1 (t.items.take k), e.carrier = none := by
    intro e he
    obtain ⟨i, hi⟩ := List.mem_iff_getElem?.mp he
    rw [numbered_getElem] at hi
    obtain ⟨x, -, rfl⟩ := Option.map_eq_some_iff.mp hi
    rfl
  obtain ⟨bound, free, parts, carried, rest, n, carriers⟩ := bindCarriers_bound rs _ unbound
  rw [← h.list] at parts
  refine ⟨bound, free, parts, carried, rest, n, ?_⟩
  have none : free.filterMap (·.carrier) = [] := List.filterMap_eq_nil_iff.mpr rest
  rw [parts, List.filterMap_append, carriers, none, List.append_nil]

end

end Sys2Proof.Machine
end

section
/-! PROOFS. The reprint list of a survey close is the list that its state shows (09 R150, R151, R154, R156; for O60). -/

namespace Sys2Proof.Machine

/-- 09 R150: a fate that gives the sheet up. -/
def givenFate (f : Option Fate) : Bool := f == some .lost || f == some .purge || f == some .release

theorem SheetRecord.givenUp_iff (r : SheetRecord) : r.givenUp ↔ (!r.purgeRouted && givenFate r.fate) = true := by
  simp [SheetRecord.givenUp, givenFate, or_assoc]

/-! ### The items (09 R150) -/

theorem ForfeitedSet.items_eq (f : ForfeitedSet) : f.items = f.entries.map f.reprintItem := by
  refine List.map_congr_left fun x _ => ?_
  have duplex : (x.back != 0) = decide (x.back ≠ 0) := by
    rw [Bool.eq_iff_iff, bne_iff_ne, decide_eq_true_eq]
  rw [ForfeitedSet.reprintItem, ← duplex]

/-- 09 R150: rows and records that give up the same sheets make the same items. -/
theorem State.items_of_rows {s t : State} {rs : List SheetRecord} {row : SheetRecord → FateRow} {last : SheetRecord → Option Fate}
    {sets : List ForfeitedSet} (account : t.recovery.account = s.recovery.account) (sheet : ∀ r, (row r).sheet = r)
    (records : t.roster.records = rs.map fun r => { r with fate := last r })
    (given : ∀ r ∈ rs, givenFate (last r) = givenFate (row r).fate)
    (lists : sets.flatMap ForfeitedSet.items = t.recovery.fates.forfeited.flatMap ForfeitedSet.items) :
    s.reprintItems (rs.map row) sets = t.items := by
  have listed : ((rs.map row).filter fun w => !w.sheet.purgeRouted &&
        (w.fate == some .lost || w.fate == some .purge || w.fate == some .release)).map (·.sheet.item) =
      (t.roster.records.filter fun r => decide r.givenUp).map SheetRecord.reprintItem := by
    rw [records, List.filter_map, List.filter_map, List.map_map, List.map_map]
    have same : rs.filter ((fun w : FateRow => !w.sheet.purgeRouted &&
          (w.fate == some .lost || w.fate == some .purge || w.fate == some .release)) ∘ row) =
        rs.filter ((fun r : SheetRecord => decide r.givenUp) ∘ fun r => { r with fate := last r }) := by
      refine List.filter_congr fun r hr => ?_
      rw [Bool.eq_iff_iff, Function.comp_apply, Function.comp_apply, decide_eq_true_eq, SheetRecord.givenUp_iff, given r hr, sheet]
      exact Iff.rfl
    rw [same]
    refine List.map_congr_left fun r _ => ?_
    rw [Function.comp_apply, sheet]
    rfl
  have sheets : t.recovery.fates.forfeited.flatMap ForfeitedSet.items =
      t.recovery.fates.forfeited.flatMap fun f => f.entries.map f.reprintItem :=
    congrArg (fun g => List.flatMap g _) (funext ForfeitedSet.items_eq)
  unfold State.items State.reprintable
  rw [← listed, account, ← sheets, ← lists]
  rfl

/-! ### The rows after the carriers were bound (09 R151, R152) -/

theorem State.heldPurge_given (s : State) (x : Rest) (w : FateRow) :
    (s.heldPurge x w).fate = some .lost ∨ (s.heldPurge x w).fate = some .purge := by
  unfold State.heldPurge
  split <;> simp

/-- 09 R148: a sheet to be released rests somewhere. -/
theorem State.row4_release {s : State} {r : SheetRecord} (release : (s.row4 r).fate = some .release) :
    ∃ x, (s.row4 r).d.rest = some x := by
  obtain ⟨-, -, -, place⟩ := s.steps34_place false s.closeHorizons s.lostNow (s.row1 r)
  cases rest : (s.row1 r).d.rest with
  | some x => exact ⟨x, place.trans rest⟩
  | none =>
    exfalso
    have first : (s.row1 r).fate ≠ some .release := by
      unfold State.row1
      split <;> nofun
    unfold State.row4 State.steps34 at release
    rw [rest] at release
    split at release
    · exact first release
    · cases release

section
variable {s : State}

/-- 09 R151: the row of a RELEASE record keeps its fate when a carrier binds it, and is purged otherwise. -/
theorem State.row6_release {r : SheetRecord} (release : (s.row4 r).fate = some .release) :
    (bound s.closeReprint r.serial = true ∧ s.row6 r = s.row4 r) ∨
      (bound s.closeReprint r.serial = false ∧ ((s.row6 r).fate = some .lost ∨ (s.row6 r).fate = some .purge)) := by
  obtain ⟨x, rest⟩ := State.row4_release release
  have six : s.row6 r = if bound s.closeReprint r.serial then s.row4 r else s.heldPurge x (s.row4 r) := by
    unfold State.row6 State.step6
    rw [release, rest, s.row4_sheet]
  cases carried : bound s.closeReprint r.serial with
  | true => exact .inl ⟨rfl, six.trans (if_pos carried)⟩
  | false =>
    rw [if_neg (by simp [carried])] at six
    rw [six]
    exact .inr ⟨rfl, s.heldPurge_given x _⟩

theorem State.row6_given (r : SheetRecord) : givenFate (s.row6 r).fate = givenFate (s.row4 r).fate := by
  by_cases release : (s.row4 r).fate = some .release
  · rcases State.row6_release release with ⟨-, same⟩ | ⟨-, lost | purge⟩
    · rw [same]
    · rw [lost, release]
      rfl
    · rw [purge, release]
      rfl
  · exact congrArg (fun w => givenFate w.fate) (State.step6_other release)

theorem State.row7_given (r : SheetRecord) : givenFate (s.row7 r).fate = givenFate (s.row6 r).fate := by
  by_cases purge : (s.row6 r).fate = some .purge
  · rcases s.step7_purge (s.roster.records.map s.row6) s.closeForfeits (s.row6 r) with same | ⟨lost, -⟩
    · exact congrArg (fun w => givenFate w.fate) same
    · rw [purge, State.row7, lost]
      rfl
  · exact congrArg (fun w => givenFate w.fate) (State.step7_other purge)

theorem State.row7_release (r : SheetRecord) : (s.row7 r).fate = some .release ↔
    (s.row4 r).fate = some .release ∧ bound s.closeReprint r.serial = true := by
  have seven : (s.row7 r).fate = some .release ↔ (s.row6 r).fate = some .release := by
    by_cases purge : (s.row6 r).fate = some .purge
    · rcases s.step7_purge (s.roster.records.map s.row6) s.closeForfeits (s.row6 r) with same | ⟨lost, -⟩
      · rw [State.row7, same]
      · rw [State.row7, lost, purge]
        simp
    · rw [State.row7, State.step7_other purge]
  rw [seven]
  by_cases release : (s.row4 r).fate = some .release
  · rcases State.row6_release release with ⟨carried, same⟩ | ⟨free, lost | purge⟩
    · simp [same, release, carried]
    · simp [lost, free]
    · simp [purge, free]
  · have same : s.row6 r = s.row4 r := State.step6_other release
    simp [same, release]

end

/-! ### The list (09 R150, R151) -/

/-- The elements with the keys of the first `n` are the first `n`. -/
theorem filter_take_key {α β : Type} [BEq β] [LawfulBEq β] (key : α → β) {xs : List α} (nodup : (xs.map key).Nodup) (n : Nat) :
    xs.filter (fun a => ((xs.take n).map key).contains (key a)) = xs.take n := by
  have kept : (xs.take n).filter (fun a => ((xs.take n).map key).contains (key a)) = xs.take n :=
    List.filter_eq_self.mpr fun a ha => List.contains_iff_mem.mpr (List.mem_map_of_mem ha)
  have apart : (xs.drop n).filter (fun a => ((xs.take n).map key).contains (key a)) = [] := by
    have parts : ((xs.take n).map key ++ (xs.drop n).map key).Nodup := by
      rw [← List.map_append, List.take_append_drop]
      exact nodup
    refine List.filter_eq_nil_iff.mpr fun a ha listed => ?_
    obtain ⟨-, -, apart⟩ := List.nodup_append.mp parts
    exact apart _ (List.contains_iff_mem.mp listed) _ (List.mem_map_of_mem ha) rfl
  calc xs.filter (fun a => ((xs.take n).map key).contains (key a))
      = (xs.take n ++ xs.drop n).filter (fun a => ((xs.take n).map key).contains (key a)) := by rw [List.take_append_drop]
    _ = xs.take n := by rw [List.filter_append, kept, apart, List.append_nil]

theorem bound_eq (es : List PlanEntryFields) (x : Serial) : bound es x = (es.filterMap (·.carrier)).contains x := by
  rw [Bool.eq_iff_iff, List.contains_iff_mem]
  simp [bound]

section
variable {s t : State} (h : s.ClosedFrom t)
include h

/-- 09 R143: the record serials stay. -/
theorem State.ClosedFrom.serials_nodup : (t.roster.records.map (·.serial)).Nodup := by
  have serials : t.roster.records.map (·.serial) = s.roster.records.map (·.serial) := by
    rw [h.records, ← s.computeFates_sheets false, List.map_map, List.map_map]
    rfl
  rw [serials]
  exact h.nodup

theorem State.ClosedFrom.given_fate {r : SheetRecord} (hr : r ∈ s.roster.records) :
    givenFate (s.fated r).fate = givenFate (s.row4 r).fate := by
  cases tray : (s.place r).tray with
  | true =>
    obtain ⟨four, final⟩ := h.tray_row hr tray
    rw [State.fated_fate (by rw [final]), four]
    rfl
  | false =>
    have same : givenFate (s.row8 r).fate = givenFate (s.row4 r).fate := by
      rw [State.row8_moved tray, State.row7_given, State.row6_given]
    rw [← same, State.fated]
    cases (s.row8 r).fate <;> rfl

/-- 09 R151: a record is released when a carrier binds it. -/
theorem State.ClosedFrom.released_iff {r : SheetRecord} (hr : r ∈ s.roster.records) : (s.fated r).fate = some .release ↔
    (s.row4 r).fate = some .release ∧ bound s.closeReprint r.serial = true := by
  cases tray : (s.place r).tray with
  | true =>
    obtain ⟨four, final⟩ := h.tray_row hr tray
    rw [State.fated_fate (by rw [final]), four]
    simp
  | false =>
    rw [← State.row7_release, ← State.row8_moved tray, State.fated]
    cases (s.row8 r).fate <;> simp

variable (calm : s.recovery.escalated = false)
include calm

/-- 09 R150, R151: the reprint list of a survey close. -/
theorem State.ClosedFrom.reprinted : t.Reprinted s.releases 64 := by
  obtain ⟨list, omitted⟩ := h.reprint calm
  have items : s.closeItems = t.items := by
    refine State.items_of_rows h.account s.row4_sheet (h.recordsFated calm) (fun r hr => h.given_fate hr) ?_
    rw [h.forfeited calm, List.flatMap_map]
    refine congrArg (fun g => List.flatMap g _) (funext fun f => ?_)
    obtain ⟨exit, bin, job, set, media, entries, -⟩ :=
      s.ejectMark_kept false (s.roster.records.map s.row6) s.closeForfeits f
    unfold ForfeitedSet.items
    rw [exit, bin, job, set, media, entries]
  refine ⟨?_, items ▸ omitted, h.serials_nodup⟩
  rw [list, ← items]
  rfl

/-- 09 R151: the carriers are the released records. -/
theorem State.ClosedFrom.carriers : t.recovery.fates.reprint.filterMap (·.carrier) =
    (t.roster.records.filter fun r => r.fate == some .release).map (·.serial) := by
  obtain ⟨-, -, -, -, -, n, carriers⟩ := (h.reprinted calm).carriers
  have nodup : (s.releases.map (·.serial)).Nodup := h.nodup.sublist (List.filter_sublist.map _)
  have bound_iff (r : SheetRecord) : bound s.closeReprint r.serial = ((s.releases.take n).map (·.serial)).contains r.serial := by
    rw [bound_eq, ← (h.reprint calm).1, carriers]
  have released : (t.roster.records.filter fun r => r.fate == some .release) = (s.releases.take n).map s.fated := by
    rw [h.recordsFated calm, List.filter_map, ← filter_take_key (·.serial) nodup n, State.releases, List.filter_filter]
    refine congrArg (List.map s.fated) (List.filter_congr fun r hr => ?_)
    rw [Bool.eq_iff_iff, Function.comp_apply, beq_iff_eq, h.released_iff hr, bound_iff, Bool.and_eq_true, beq_iff_eq, and_comm]
    exact Iff.rfl
  rw [carriers, released, List.map_map]
  rfl

/-- 09 R156: the fate code of a record. -/
theorem State.ClosedFrom.code {r : SheetRecord} (hr : r ∈ s.roster.records) :
    Fate.code ((s.row8 r).fate.getD .keep) (s.row8 r).d.withdrawn = t.fateCode (s.fated r) := by
  have own : t.detail (s.fated r).serial = some (s.row8 r).d := h.detail calm hr
  unfold State.fateCode
  rw [own, State.fated]
  dsimp only
  cases (s.row8 r).fate.getD .keep <;> rfl

/-- 09 R156: the digest of a survey close. -/
theorem State.ClosedFrom.digest_eq : t.recovery.fates.digest = some (crc16
    ((t.roster.records.flatMap fun r => be16 r.serial ++ [t.fateCode r]) ++
      (t.recovery.fates.reprint.flatMap fun e => match e.carrier with
        | some x => be16 x ++ [BitVec.ofNat 8 e.index]
        | none => []) ++ [BitVec.ofNat 8 t.recovery.fates.reprint.length])) := by
  have fates : (s.roster.records.map s.row8).flatMap (fun w =>
      be16 w.sheet.serial ++ [Fate.code (w.fate.getD .keep) w.d.withdrawn]) =
        t.roster.records.flatMap fun r => be16 r.serial ++ [t.fateCode r] := by
    rw [h.recordsFated calm, List.flatMap_map, List.flatMap_map]
    rw [List.flatMap_def, List.flatMap_def]
    refine congrArg List.flatten (List.map_congr_left fun r hr => ?_)
    rw [s.row8_sheet, h.code calm hr]
    rfl
  rw [h.digest calm, ← fates, (h.reprint calm).1]
  rfl

end

end Sys2Proof.Machine
end

section
/-! PROOFS. An escalated recovery, and what a survey close shows (09 R154, R156; for O60). -/

namespace Sys2Proof.Machine

/-! ### An escalated recovery (09 R154) -/

/-- 09 R154: the row of a record in an escalated recovery. -/
def State.escalatedOf (s : State) (r : SheetRecord) : FateRow := escalatedRow { sheet := r, d := s.place r }

theorem State.escalatedOf_sheet (s : State) (r : SheetRecord) : (s.escalatedOf r).sheet = r := by
  unfold State.escalatedOf escalatedRow
  split <;> rfl

theorem State.escalatedOf_tray {s : State} {r : SheetRecord} (tray : (s.place r).tray = true) : s.escalatedOf r =
    { sheet := r, d := { s.place r with withdrawn := true }, fate := some .keep } := if_pos tray

theorem State.escalatedOf_out {s : State} {r : SheetRecord} (out : (s.place r).tray = false) : s.escalatedOf r =
    { sheet := r, d := s.place r, fate := some .lost } := if_neg (by simp [out])

theorem State.escalatedOf_place (s : State) (r : SheetRecord) : (s.place r).SamePlace (s.escalatedOf r).d := by
  cases tray : (s.place r).tray with
  | true =>
    rw [State.escalatedOf_tray tray]
    exact ⟨rfl, rfl, rfl, rfl⟩
  | false =>
    rw [State.escalatedOf_out tray]
    exact ⟨rfl, rfl, rfl, rfl⟩

/-- 09 R154: an escalated record is kept in its tray, or LOST. -/
theorem State.escalatedOf_fate (s : State) (r : SheetRecord) :
    (s.escalatedOf r).fate = some .keep ∨ (s.escalatedOf r).fate = some .lost := by
  unfold State.escalatedOf escalatedRow
  split
  · exact .inl rfl
  · exact .inr rfl

theorem State.computeFates_escalated {s : State} (escalated : s.recovery.escalated = true) : s.computeFates false =
    (s.roster.records.map s.escalatedOf, s.results (s.roster.records.map s.escalatedOf) [] (s.escalatedSets ++ s.ejectedSets) []
      (s.reprintItems (s.roster.records.map s.escalatedOf) (s.escalatedSets ++ s.ejectedSets))) := by
  have rows : ((s.step1 false).map fun w => escalatedRow { w with fate := none }) = s.roster.records.map s.escalatedOf := by
    rw [State.step1_rows, List.map_map]
    refine List.map_congr_left fun r _ => ?_
    obtain ⟨sheet, d⟩ := s.row1_shape r
    rw [Function.comp_apply, sheet, d]
    rfl
  rw [State.computeFates, if_pos escalated, State.escalatedResults, rows]

section
variable {s t : State} (h : s.ClosedFrom t) (escalated : s.recovery.escalated = true)
include h escalated

theorem State.ClosedFrom.recordsEscalated :
    t.roster.records = s.roster.records.map fun r => { r with fate := some ((s.escalatedOf r).fate.getD .keep) } := by
  rw [h.records, State.computeFates_escalated escalated, List.map_map]
  refine List.map_congr_left fun r _ => ?_
  rw [Function.comp_apply, State.escalatedOf_sheet]

/-- 09 R154: no horizon and no reprint list. -/
theorem State.ClosedFrom.escalated_lists : t.recovery.fates.horizons = [] ∧ t.recovery.fates.reprint = [] ∧
    t.recovery.fates.digest = some (crc16 [0]) := by
  rw [h.fates, State.computeFates_escalated escalated, State.results, escalated]
  exact ⟨rfl, rfl, rfl⟩

theorem State.ClosedFrom.detail_escalated {r : SheetRecord} (hr : r ∈ s.roster.records) :
    t.detail r.serial = some (s.escalatedOf r).d := by
  have details : t.recovery.fates.details = s.roster.records.map fun r => (s.escalatedOf r).d := by
    rw [h.fates, State.computeFates_escalated escalated]
    exact List.map_map
  have keyed : (fun d : FateDetail => d.serial == r.serial) ∘ (fun r => (s.escalatedOf r).d) = fun a => a.serial == r.serial := by
    funext a
    obtain ⟨serial, -⟩ := s.escalatedOf_place a
    obtain ⟨fresh, -⟩ := s.place_fresh a
    rw [Function.comp_apply, serial, fresh]
  rw [State.detail, details, List.find?_map, keyed, find?_key (·.serial) h.nodup hr]
  rfl

/-- 09 R154: the fates of an escalated recovery. -/
theorem State.ClosedFrom.escalated_stands {q : SheetRecord} (hq : q ∈ t.roster.records) : ∃ d, t.detail q.serial = some d ∧
    (d.tray = true → q.fate = some .keep ∧ d.withdrawn = true) ∧ (d.tray = false → q.fate = some .lost) := by
  rw [h.recordsEscalated escalated] at hq
  obtain ⟨r, hr, rfl⟩ := List.mem_map.mp hq
  refine ⟨(s.escalatedOf r).d, h.detail_escalated escalated hr, ?_⟩
  cases tray : (s.place r).tray with
  | true =>
    rw [State.escalatedOf_tray tray]
    exact ⟨fun _ => ⟨rfl, rfl⟩, fun out => absurd (tray.symm.trans out) nofun⟩
  | false =>
    rw [State.escalatedOf_out tray]
    exact ⟨fun inTray => absurd (tray.symm.trans inTray) nofun, fun _ => rfl⟩

/-- 09 R150, R154: every item of an escalated recovery is omitted. -/
theorem State.ClosedFrom.reprinted_escalated : t.Reprinted [] 0 := by
  have items : s.reprintItems (s.roster.records.map s.escalatedOf) (s.escalatedSets ++ s.ejectedSets) = t.items := by
    refine State.items_of_rows h.account s.escalatedOf_sheet (h.recordsEscalated escalated) (fun r _ => ?_) ?_
    · rcases s.escalatedOf_fate r with keep | lost
      · rw [keep]
        rfl
      · rw [lost]
        rfl
    · rw [h.fates, State.computeFates_escalated escalated]
      rfl
  refine ⟨(h.escalated_lists escalated).2.1, ?_, h.serials_nodup⟩
  rw [← items, h.fates, State.computeFates_escalated escalated]
  rfl

theorem State.ClosedFrom.none_released : (t.roster.records.filter fun r => r.fate == some .release) = [] := by
  rw [h.recordsEscalated escalated]
  refine List.filter_eq_nil_iff.mpr fun q hq => ?_
  obtain ⟨r, -, rfl⟩ := List.mem_map.mp hq
  rcases s.escalatedOf_fate r with keep | lost
  · simp [keep]
  · simp [lost]

end

/-! ### What a survey close shows -/

section
variable {s t : State} (h : s.ClosedFrom t)
include h

/-- 09 R150: the list that the state shows has no more than 64 entries, and 64 when an entry is omitted. -/
theorem State.ClosedFrom.shows_list : ∃ rs k, t.Reprinted rs k ∧ k ≤ 64 ∧ (t.recovery.escalated = false → k = 64) := by
  rw [h.escalated]
  cases escalated : s.recovery.escalated with
  | true => exact ⟨[], 0, h.reprinted_escalated escalated, by omega, nofun⟩
  | false => exact ⟨_, 64, h.reprinted escalated, Nat.le_refl _, fun _ => rfl⟩

/-- 09 R151: the carriers are the released records. -/
theorem State.ClosedFrom.shows_carriers : t.recovery.fates.reprint.filterMap (·.carrier) =
    (t.roster.records.filter fun r => r.fate == some .release).map (·.serial) := by
  cases escalated : s.recovery.escalated with
  | true =>
    obtain ⟨-, list, -⟩ := h.escalated_lists escalated
    rw [list, h.none_released escalated]
    rfl
  | false => exact h.carriers escalated

theorem State.ClosedFrom.shows_digest : t.recovery.fates.digest = some (if t.recovery.escalated then crc16 [0] else crc16
    ((t.roster.records.flatMap fun r => be16 r.serial ++ [t.fateCode r]) ++
      (t.recovery.fates.reprint.flatMap fun e => match e.carrier with
        | some x => be16 x ++ [BitVec.ofNat 8 e.index]
        | none => []) ++ [BitVec.ofNat 8 t.recovery.fates.reprint.length])) := by
  rw [h.escalated]
  cases escalated : s.recovery.escalated with
  | true => exact (h.escalated_lists escalated).2.2
  | false => exact h.digest_eq escalated

theorem State.ClosedFrom.shows_fates : (t.recovery.escalated = false → t.horizonsStand ∧
      ∀ r ∈ t.roster.records, ∃ d, t.detail r.serial = some d ∧ t.fateStands r d) ∧
    (t.recovery.escalated = true → t.recovery.fates.horizons = [] ∧ t.recovery.fates.reprint = [] ∧
      ∀ r ∈ t.roster.records, ∃ d, t.detail r.serial = some d ∧
        (d.tray = true → r.fate = some .keep ∧ d.withdrawn = true) ∧ (d.tray = false → r.fate = some .lost)) := by
  rw [h.escalated]
  refine ⟨fun calm => ⟨h.horizons_stand calm, fun q hq => ?_⟩, fun escalated => ?_⟩
  · obtain ⟨r, hr, rfl⟩ := h.mem_records calm hq
    exact ⟨(s.row8 r).d, h.detail calm hr, h.fate_stands calm hr⟩
  · obtain ⟨horizons, reprint, -⟩ := h.escalated_lists escalated
    exact ⟨horizons, reprint, fun q hq => h.escalated_stands escalated hq⟩

end

/-! ### What the list says of the sheets (09 R150) -/

section
variable {t : State} {rs : List SheetRecord} {k : Nat} (h : t.Reprinted rs k)
include h

theorem State.Reprinted.numbers {i : Nat} {e : PlanEntryFields} (he : t.recovery.fates.reprint[i]? = some e) :
    e.index = i + 1 ∧ (e.lastEntry = true ↔ i + 1 = t.recovery.fates.reprint.length) := by
  obtain ⟨x, -, same, last⟩ := h.item_of_entry he
  refine ⟨?_, last⟩
  rw [same, Nat.add_comm]

/-- 09 R150: an entry replaces a sheet given up. -/
theorem State.Reprinted.replaces {e : PlanEntryFields} (he : e ∈ t.recovery.fates.reprint) :
    (∃ r ∈ t.roster.records, r.givenUp ∧ r.serial = e.replaced) ∨ (∃ a ∈ t.recovery.account.purged, a.replaced = e.replaced) ∨
      ∃ f ∈ t.recovery.fates.forfeited, ∃ x ∈ f.entries, x.serial = e.replaced := by
  obtain ⟨i, hi, same⟩ := h.mem_item he
  have serial : e.replaced = i.replaced := by rw [same]
  rw [serial]
  rcases State.mem_reprintable (State.item_of_items hi) with ⟨r, hr, given, rfl⟩ | account | ⟨f, hf, x, hx, rfl⟩
  · exact .inl ⟨r, hr, given, rfl⟩
  · exact .inr (.inl ⟨i, account, rfl⟩)
  · exact .inr (.inr ⟨f, hf, x, hx, rfl⟩)

/-- 09 R150: with no entry omitted every sheet given up is reprinted. -/
theorem State.Reprinted.complete (whole : t.recovery.fates.omitted = 0) :
    (∀ r ∈ t.roster.records, r.givenUp → t.reprints r.reprintItem) ∧
    (∀ a ∈ t.recovery.account.purged, (∀ r ∈ t.roster.records, r.givenUp → r.serial ≠ a.replaced) →
      ∃ b ∈ t.recovery.account.purged, b.replaced = a.replaced ∧ t.reprints b) ∧
    ∀ f ∈ t.recovery.fates.forfeited, ∀ x ∈ f.entries, (∀ r ∈ t.roster.records, r.givenUp → r.serial ≠ x.serial) →
      (∀ a ∈ t.recovery.account.purged, a.replaced ≠ x.serial) →
      ∃ g ∈ t.recovery.fates.forfeited, ∃ y ∈ g.entries, y.serial = x.serial ∧ t.reprints (g.reprintItem y) := by
  refine ⟨fun r hr given => h.reprints whole (h.record_item hr given), fun a ha free => ?_, fun f hf x hx free unpurged => ?_⟩
  · obtain ⟨b, hb, same, item⟩ := State.account_item ha free
    exact ⟨b, hb, same, h.reprints whole item⟩
  · obtain ⟨g, hg, y, hy, same, item⟩ := State.set_item hf hx free unpurged
    exact ⟨g, hg, y, hy, same, h.reprints whole item⟩

theorem State.Reprinted.length_le : t.recovery.fates.reprint.length ≤ k := by
  rw [h.length]
  exact List.length_take_le _ _

theorem State.Reprinted.full (more : t.recovery.fates.omitted ≠ 0) : t.recovery.fates.reprint.length = k := by
  rw [h.omitted, List.length_drop] at more
  rw [h.length, List.length_take]
  omega

end

end Sys2Proof.Machine
end

section
/-! PROOFS. The receipts that close a survey (08 R137, R140; settles O60). -/

namespace Sys2Proof.Machine

/-! ### The close of a survey -/

/-- 08 R140, 09 R143: a survey close holds the results that it computed. -/
theorem State.closeSurvey_closedFrom (s : State) (nodup : (s.roster.records.map (·.serial)).Nodup) :
    ∃ b : State, b.ClosedFrom s.closeSurvey := by
  let a := (s.withdrawFrames Payload.isClose).mapEntries fun _ e => { e with lastReady := none }
  let u : State := { a with
    roster.stage := .closed, recovery.survey := .stopped, recovery.following := false
    recovery.clearanceEpoch := s.roster.epoch, recovery.firstDigest := none }
  let v := u.storeFates false
  have closed : s.closeSurvey =
      if v.path == .survey then (if v.runoutOutstanding then v.enterRunout else v.enterClearance) else v := rfl
  have serials : u.countReports.roster.records = s.roster.records := by simp [u, a]
  have computed : u.countReports.ClosedFrom v :=
    { entries := by simp [v], map := by simp [v], record := by simp [v], jams := by simp [v], revisions := by simp [v]
      account := by simp [v], escalated := by simp [v], records := rfl, fates := rfl, nodup := serials ▸ nodup }
  have entered (w : State) (roster : w.roster = v.roster) (table : w.table = v.table) (record : w.recovery.record = v.recovery.record)
      (jams : w.recovery.jams = v.recovery.jams) (revisions : w.recovery.revisions = v.recovery.revisions)
      (account : w.recovery.account = v.recovery.account) (escalated : w.recovery.escalated = v.recovery.escalated)
      (fates : w.recovery.fates = v.recovery.fates) : u.countReports.ClosedFrom w :=
    { entries := table ▸ computed.entries, map := table ▸ computed.map, record := record ▸ computed.record
      jams := jams ▸ computed.jams, revisions := revisions ▸ computed.revisions, account := account ▸ computed.account
      escalated := escalated ▸ computed.escalated, records := roster ▸ computed.records, fates := fates ▸ computed.fates
      nodup := computed.nodup }
  refine ⟨u.countReports, ?_⟩
  rw [closed]
  repeat' split
  · exact entered _ (by simp) (by simp) (by simp) (by simp) (by simp) (by simp) (by simp) (by simp)
  · exact entered _ (by simp) (by simp) (by simp) (by simp) (by simp) (by simp) (by simp) (by simp)
  · exact computed

/-! ### The receipts -/

/-- A receipt that closes an open survey is taken live. -/
theorem State.receive_closes {s t : State} {kind : Payload → Bool} {live : RxFrame → State → State} (h : s.receive kind live = t)
    (opened : s.roster.stage = .open) (closed : t.roster.stage = .closed) :
    ∃ f rest, s.receives f rest ∧ kind f.payload = true ∧ t = live f (s.taken rest) := by
  have changed : t.roster ≠ s.roster := fun same => by
    rw [same, opened] at closed
    cases closed
  unfold State.receive at h
  split at h
  · exact absurd (congrArg State.roster h).symm changed
  · next f rest rx =>
    dsimp only at h
    split at h
    · exact absurd (congrArg State.roster h).symm changed
    · next taken =>
      split at h
      · next alive =>
        split at h
        · exact absurd (congrArg State.roster h).symm changed
        · next here =>
          refine ⟨f, rest, ⟨rx, alive, Bool.eq_false_iff.mpr here⟩, ?_, h.symm⟩
          simp only [Bool.or_eq_true, not_or, Bool.not_eq_true', Bool.not_eq_false] at taken
          exact taken.1
      · split at h
        · exact absurd (by rw [← h]; simp) changed
        · exact absurd (congrArg State.roster h).symm changed

/-- 08 R140: a CLOSE closes the survey or leaves the roster. -/
theorem State.closeReceived_either (s : State) (f : RxFrame) (ps : List Pos) :
    (∃ v : State, v.roster = s.roster ∧ s.closeReceived f ps = v.closeSurvey) ∨ (s.closeReceived f ps).roster = s.roster := by
  unfold State.closeReceived
  dsimp only
  repeat' split
  · exact .inl ⟨_, by simp, rfl⟩
  all_goals exact .inr (by simp)

/-- 01 R19: the epoch of a frame opens a recovery or leaves the roster. -/
theorem State.epochReceived_roster (s : State) (f : RxFrame) :
    (s.epochReceived f).roster = s.roster ∨ (s.epochReceived f).roster = (s.openRecovery f.epoch).roster := by
  have roster : (s.epochReceived f).roster = (s.applyEpoch f.epoch).roster := by simp [State.epochReceived]
  rw [roster]
  by_cases same : f.epoch = s.roster.epoch
  · exact .inl (by rw [State.applyEpoch, if_pos (by simpa using same)])
  · right
    obtain ⟨-, -, stopping | holds | opens⟩ := State.applyEpoch_new same
    · rw [stopping]
      simp
    · rw [holds]
    · rw [opens]

/-- 08 R137: the end of a report closes the survey or leaves the roster. -/
theorem State.finalHolding_either (s : State) (p : Pos) (h : HoldingFields) :
    (∃ v : State, v.roster = s.roster ∧ s.finalHolding p h = v.closeSurvey) ∨ (s.finalHolding p h).roster = s.roster := by
  unfold State.finalHolding
  dsimp only
  split
  · split
    · exact .inl ⟨_, by simp, rfl⟩
    · exact .inr (by simp)
  · split
    · exact .inl ⟨_, by simp, rfl⟩
    · exact .inr (by simp)

/-- 08 R137: a HOLDING closes an open survey or leaves it open. -/
theorem State.holdingReceivedFrom_either {s : State} (f : RxFrame) (h : HoldingFields) (opened : s.roster.stage = .open) :
    (∃ v : State, v.roster.records.map (·.serial) = s.roster.records.map (·.serial) ∧
      s.holdingReceivedFrom f h = v.closeSurvey) ∨ (s.holdingReceivedFrom f h).roster.stage = .open := by
  let a := (s.ownHolding f.sender).epochReceived f
  have own : (s.ownHolding f.sender).roster = s.roster := by simp
  have received : a.roster.stage = .open ∧ a.roster.records.map (·.serial) = s.roster.records.map (·.serial) := by
    rcases (s.ownHolding f.sender).epochReceived_roster f with same | opens
    · exact ⟨by rw [same, own]; exact opened, by rw [same, own]⟩
    · refine ⟨by rw [opens]; rfl, ?_⟩
      rw [opens, State.openRecovery, List.map_map, own]
      rfl
  obtain ⟨stage, serials⟩ := received
  unfold State.holdingReceivedFrom
  dsimp only
  split
  · split
    · let u := (a.stopTests f.lineLow).recordHolding f.sender h
      have roster : u.roster = a.roster := by simp [u]
      rcases u.finalHolding_either f.sender h with ⟨v, same, closes⟩ | same
      · exact .inl ⟨v, by rw [same, roster, serials], closes⟩
      · exact .inr (by rw [same, roster, stage])
    · exact .inr (by simpa using stage)
  · exact .inr stage

/-- 08 R137, R140: the receipt that closes a survey leaves the results of its close. -/
theorem State.receipt_closedFrom {s t : State} {c : Instr} (law : s.rosterLaw) (receipt : c = .closeReceipt ∨ c = .holdingReceipt)
    (done : exec c s = .next t) (opened : s.roster.stage = .open) (closed : t.roster.stage = .closed) :
    ∃ b : State, b.ClosedFrom t := by
  obtain ⟨-, nodup, -⟩ := law
  have unchanged {w : State} (roster : w.roster = s.roster) (stage : w.roster.stage = .closed) : False := by
    rw [roster, opened] at stage
    cases stage
  rcases receipt with rfl | rfl
  · obtain ⟨f, rest, -, -, rfl⟩ := State.receive_closes (Host.Outcome.next.inj done) opened closed
    split at closed
    · next ps shape =>
      rcases (s.taken rest).closeReceived_either f ps with ⟨v, roster, closes⟩ | same
      · simp only [closes]
        exact v.closeSurvey_closedFrom (by rw [roster]; exact nodup)
      · exact (unchanged same closed).elim
    · exact (unchanged rfl closed).elim
  · obtain ⟨f, rest, -, -, rfl⟩ := State.receive_closes (Host.Outcome.next.inj done) opened closed
    split at closed
    · next h shape =>
      rcases State.holdingReceivedFrom_either (s := s.taken rest) f h opened with ⟨v, serials, closes⟩ | still
      · simp only [closes]
        exact v.closeSurvey_closedFrom (by rw [serials]; exact nodup)
      · exact absurd (still.symm.trans closed) nofun
    · exact (unchanged rfl closed).elim

/-- Settles O60. -/
theorem givenUpSheetsAreReprinted : Obligations.GivenUpSheetsAreReprinted := by
  unfold Obligations.GivenUpSheetsAreReprinted
  intro s t c law receipt done opened closed
  obtain ⟨b, h⟩ := State.receipt_closedFrom law receipt done opened closed
  obtain ⟨rs, k, list, few, calmly⟩ := h.shows_list
  obtain ⟨calm, escalated⟩ := h.shows_fates
  obtain ⟨bound, free, parts, carried, uncarried, -⟩ := list.carriers
  refine ⟨calm, escalated, Nat.le_trans list.length_le few, fun calm more => (list.full more).trans (calmly calm),
    list.list_nodup, fun i e he => list.numbers he, fun whole => ?_, fun e he => list.replaces he, h.shows_carriers,
    ⟨bound, free, parts, carried, uncarried⟩, h.shows_digest⟩
  obtain ⟨records, account, sets⟩ := list.complete whole
  exact ⟨records, account, sets, fun first hf least => list.ordered whole hf least⟩

end Sys2Proof.Machine
end
